-- ==== Sys2Proof/Word.lean ====
section
/-! DEFINITION. The plain word types the manual's records are made of: a byte, the 16-bit tag of a request, and the
32-bit value of the box clock as a command carries it. -/

namespace Sys2Proof

/-- One byte of a record, a frame, a block or the configuration image. -/
abbrev Byte := BitVec 8

/-- The 16-bit number chosen by the sender of a request and returned in its completion. -/
abbrev Tag := BitVec 16

/-- The 16-bit words a port carries: a notice set, the interrupt mask (R204). -/
abbrev Word16 := BitVec 16

/-- A time or an interval as ALARM_SET and TIME_SET carry it: 0 to 2^32 - 1 (R165, R167). -/
abbrev Seconds := BitVec 32

end Sys2Proof
end

