-- ==== Sys2Proof/Config.lean ====
section
/-! DEFINITION. The limits and figures the manual fixes for the part, each with the rule that states it. The values the
manual leaves open stand in `Sys2Proof/Config/Free.lean`. -/

namespace Sys2Proof.Config

/-- A block is 4096 bytes (section 0.9). -/
def blockBytes : Nat := 4096
/-- A region is 4096 window blocks (section 0.9, R23). -/
def regionBlocks : Nat := 4096
/-- A chunk is 64 window blocks (section 0.9). -/
def chunkBlocks : Nat := 64
/-- A region holds 64 chunks (section 0.9). -/
def chunksPerRegion : Nat := 64
/-- The buffer pool holds 512 slots (R32). -/
def poolSlots : Nat := 512
/-- A bay's queue holds at most 32 operations (R37, R46). -/
def queueLimit : Nat := 32
/-- The resync log holds at most 64 entries (R93). -/
def logLimit : Nat := 64
/-- The high mark of the resync log (R94). -/
def highMark : Nat := 48
/-- The repair queue holds at most 8 entries (R104). -/
def repairLimit : Nat := 8
/-- A repair extent covers at most 256 blocks (R104). -/
def repairBlocks : Nat := 256
/-- A READ or a WRITE covers 1 to 256 blocks (R28). -/
def maxCount : Nat := 256
/-- A window's length is at most 2^40 blocks; a bay block is below 2^40 (section 0.9, R8). -/
def blockSpace : Nat := 2 ^ 40
/-- The PP fetches no record while 64 answers are owed (R176); its outstanding count is at most 64 (R26). -/
def ppLimit : Nat := 64
/-- The DP takes no record while 16 answers are owed (R183); its outstanding count is at most 16 (R26). -/
def dpLimit : Nat := 16
/-- The held-frame queue holds at most 8 frames (R154). -/
def heldLimit : Nat := 8
/-- The alarm list holds at most 8 alarms (R166). -/
def alarmLimit : Nat := 8
/-- The resume record keeps at most 8 reasons (R138). -/
def reasonLimit : Nat := 8
/-- The seconds counter saturates at 2^32 - 1 (R163). -/
def maxSeconds : Nat := 2 ^ 32 - 1
/-- The MP reply slot holds at most 4096 answer bytes (R188). -/
def replyBytes : Nat := 4096
/-- The longest answer a port can report (R188: answer length 0 to 65535). -/
def maxAnswer : Nat := 65535
/-- The longest operand run of a command (R202). -/
def maxOperands : Nat := 1024
/-- Operands of up to 24 bytes stand in the record itself (R202). -/
def inlineOperands : Nat := 24
/-- The EEPROM holds up to 32 KiB (section 11.3). -/
def eepromBytes : Nat := 32768
/-- The image header is 16 bytes (R207). -/
def imageHeader : Nat := 16
/-- The third failed retrain attempt ends in FAULT (R63). -/
def retrainLimit : Nat := 3
/-- How many consequences one event may take before the model leaves the rest to the next event. The manual bounds no
event. DESIGN CHOICE (log entry 4). -/
def cascadeLimit : Nat := 4096

end Sys2Proof.Config
end

