-- ==== Sys2Proof/Syntax.lean ====
section
/-! DEFINITION. The commands of the part: one constructor of `Instr` for each row of spec/opcode_table.json, and the
operand types they carry. A command that passes through a port carries `Via`, the port and what the port adds to the
record or frame. Numbers a command may give out of range are plain naturals: range is checked by the owner (R202). -/

namespace Sys2Proof

/-- The two copies of a MIRROR window: member 0 is the primary, member 1 the secondary (R2). -/
inductive Side where
  | primary
  | secondary
  deriving DecidableEq, Repr, Inhabited

/-- The layouts of a window (R2). -/
inductive Layout where
  | single
  | mirror
  | stripe
  | whole
  deriving DecidableEq, Repr, Inhabited

/-- A port's right in a window (R3). -/
inductive Right where
  | none
  | read
  | readWrite
  deriving DecidableEq, Repr, Inhabited

/-- The kinds of request and command, in the order of R204's table of codes. -/
inductive Kind where
  | read | write | flush
  | sleep | resume | frameFetch
  | windowDefine | windowDelete | replaceMember | windowInfo
  | bayInfo | baySpin | bayStop | bayClear | bayQuery
  | profileSet | budgetSet | patrolSet
  | wakeEntrySet | stationSet
  | alarmSet | alarmClear | timeSet
  | status | noticeClear
  | boxWake | forceDormant
  | configSave | configLoad | mpMode | restart
  deriving DecidableEq, Repr, Inhabited

/-- The notice kinds, in the order of their bits in a notice-set word (R204). -/
inductive Notice where
  | bayFault | bayPresence | lowSupply | button | alarm | resyncHigh | memberLost | rebuildDone
  | patrolMismatch | dpAttach | dpDetach | cfgBad | spNoResume
  deriving DecidableEq, Repr, Inhabited

/-- The activity classes of a bay's work (R85). -/
inductive ActClass where
  | pp | dp | copy | patrol | mp
  deriving DecidableEq, Repr, Inhabited

/-- The targets of SLEEP (R131). -/
inductive SleepTarget where
  | sleep
  | dormant
  deriving DecidableEq, Repr, Inhabited

/-- The modes of the management port (R188). -/
inductive MpMode where
  | hold
  | notify
  deriving DecidableEq, Repr, Inhabited

/-- The actions of a wake table entry (R151). -/
inductive WakeAction where
  | wake
  | wakeSpin
  | ignore
  deriving DecidableEq, Repr, Inhabited

/-- The boot modes (R194). -/
inductive BootMode where
  | normal
  | defaults
  | readOnly
  | service
  deriving DecidableEq, Repr, Inhabited

/-- The port a record or frame came through, with what the port adds to it. `pp` carries the tag and the answer buffer
(R202), `dp` the tag, `mp` the frame's sequence number (R205). -/
inductive Via where
  | pp (tag : Tag) (bufAddr bufLen : Nat)
  | dp (tag : Tag)
  | mp (seq : Byte)
  deriving DecidableEq, Repr, Inhabited

/-- The operands of WINDOW_DEFINE (section 1.2). `none` in `layout` or a right stands for a code that names none. -/
structure WindowDef where
  index : Nat := 0
  layout : Option Layout := none
  members : List (Nat × Nat) := []
  length : Nat := 0
  unit : Option Nat := none
  ppRight : Option Right := none
  dpRight : Option Right := none
  lazyAttr : Bool := false
  patrolAttr : Bool := false
  wakesAttr : Bool := false
  label : Option (List Byte) := none
  deriving DecidableEq, Repr, Inhabited

/-- A bay profile (R74), as a PROFILE_SET or the image gives it and as it is recorded. -/
structure BayProfile where
  pUp : Nat := 240
  pRun : Nat := 70
  pStby : Nat := 8
  tStart : Nat := 30
  idleStandby : Nat := 1200
  idleOff : Nat := 0
  mayPowerOff : Bool := false
  mask : List ActClass := [.pp, .dp, .copy]
  deriving DecidableEq, Repr, Inhabited

/-- The SP profile (R76). -/
structure SpProfile where
  sUp : Nat := 200
  sRun : Nat := 120
  tSp : Nat := 10
  deriving DecidableEq, Repr, Inhabited

/-- The target of a PROFILE_SET with its fields (R77); a bay number above 3 names no target. -/
inductive ProfileArgs where
  | bay (n : Nat) (p : BayProfile)
  | sp (p : SpProfile)
  deriving DecidableEq, Repr, Inhabited

/-- The operands of PATROL_SET (R115). -/
structure PatrolArgs where
  index : Nat := 0
  interval : Nat := 0
  restartPass : Bool := false
  clearCounts : Bool := false
  deriving DecidableEq, Repr, Inhabited

/-- One term of a wake table entry (R151). -/
structure Term where
  offset : Nat := 0
  len : Nat := 1
  value : Nat := 0
  mask : Nat := 0
  deriving DecidableEq, Repr, Inhabited

/-- A whole wake entry as WAKE_ENTRY_SET and the image carry it (R158, R160). -/
structure WakeDef where
  enabled : Bool := false
  terms : List Term := []
  action : Option WakeAction := none
  bays : List Nat := []
  hold : Bool := false
  deriving DecidableEq, Repr, Inhabited

/-- The operands of WAKE_ENTRY_SET: an entry number, the CLEAR flag, and the entry where one is given (R158). -/
structure WakeArgs where
  entry : Nat := 0
  clear : Bool := false
  body : Option WakeDef := none
  deriving DecidableEq, Repr, Inhabited

/-- A network address: its 6 bytes in the order they are received (R146, R159). -/
abbrev Address := Vector Byte 6

/-- The operands of STATION_SET (R159): the station address, the four group places, the summons enable. -/
structure StationArgs where
  station : Address := Vector.replicate 6 0
  group0 : Option Address := none
  group1 : Option Address := none
  group2 : Option Address := none
  group3 : Option Address := none
  summons : Bool := false
  deriving DecidableEq, Repr, Inhabited

/-- The operands of ALARM_SET (R167); `none` in `action` stands for a code that names none, IGNORE is no alarm action. -/
structure AlarmArgs where
  id : Option Nat := none
  time : Seconds := 0
  interval : Seconds := 0
  action : Option WakeAction := none
  bays : List Nat := []
  deriving DecidableEq, Repr, Inhabited

/-- The levels of the part's inputs in a reset event: the boot-mode straps, the configuration-present strap, the
address strap (R194, R188), the four presence lines (R46) and the low-supply input (R71). -/
structure ResetInputs where
  strap1 : Bool := false
  strap2 : Bool := false
  configPresent : Bool := false
  addressStrap : Bool := false
  present0 : Bool := false
  present1 : Bool := false
  present2 : Bool := false
  present3 : Bool := false
  lowSupply : Bool := false
  deriving DecidableEq, Repr, Inhabited

/-- A request or command as its owner takes it, its fields by name. `unknown` is a kind code that names no kind. -/
inductive Cmd where
  | read (window offset count bufList : Nat) (mirrorBoth : Bool)
  | write (window offset count bufList : Nat) (mirrorBoth : Bool)
  | flush (window : Nat) (mirrorBoth : Bool)
  | sleep (target : Option SleepTarget)
  | resume
  | frameFetch
  | windowDefine (d : WindowDef)
  | windowDelete (index : Nat)
  | replaceMember (index : Nat) (which : Option Side) (bay base : Nat)
  | windowInfo (index : Option Nat)
  | bayInfo (bay : Nat)
  | baySpin (bay : Nat)
  | bayStop (bay : Nat)
  | bayClear (bay : Nat)
  | bayQuery (bay : Nat) (noWake : Bool)
  | profileSet (p : ProfileArgs)
  | budgetSet (b bLow : Nat)
  | patrolSet (p : PatrolArgs)
  | wakeEntrySet (w : WakeArgs)
  | stationSet (a : StationArgs)
  | alarmSet (a : AlarmArgs)
  | alarmClear (id : Nat) (all : Bool)
  | timeSet (v : Seconds)
  | status (first : Nat)
  | noticeClear (word : Word16)
  | boxWake
  | forceDormant
  | configSave
  | configLoad
  | mpMode (m : Option MpMode)
  | restart (inputs : ResetInputs)
  | unknown (code : Byte)
  deriving DecidableEq, Repr, Inhabited

/-- The answer of a drive to a read, write or flush command (R61); `data` is what READ BLOCKS brings. -/
inductive DriveAnswer where
  | done (data : List Byte)
  | mediaError (sector : Nat)
  | abort
  deriving DecidableEq, Repr, Inhabited

/-- The answer of a drive to SPIN UP or GO STANDBY (R54, R57). -/
inductive SimpleAnswer where
  | done
  | mediaError
  | abort
  deriving DecidableEq, Repr, Inhabited

/-- The answer of a drive to IDENTIFY: capacity in sectors and serial text (R53). -/
inductive IdentifyAnswer where
  | done (sectors : Nat) (serial : List Byte)
  | mediaError
  | abort
  deriving DecidableEq, Repr, Inhabited

/-- The answer of a drive to HEALTH READ: its figures before clamping (R70). -/
inductive HealthAnswer where
  | done (temperature : Int) (hours realloc : Nat)
  | mediaError
  | abort
  deriving DecidableEq, Repr, Inhabited

/-- What SP memory gives for the operands of a record (R202): their bytes, or an error. -/
inductive OperandRead where
  | bytes (b : List Byte)
  | error
  deriving DecidableEq, Repr, Inhabited

/-- What SP memory gives when the PP reads its next record (R176): the 64 bytes of the record and, where its operands
are read from the operand address, what that read gives; or an error. -/
inductive RecordRead where
  | record (bytes : List Byte) (operands : OperandRead)
  | error
  deriving DecidableEq, Repr, Inhabited

/-- The SP memory reads that SP_MEMORY_ERROR answers with an error: the record itself (R176); the operands of the record
being fetched, whose 64 bytes it carries (R202); the buffer list of an outstanding request, with what had come of it before the
error; or block `block` of a WRITE, with its list and the bytes of the blocks before it (R178). -/
inductive SpReadError where
  | record
  | operands (record : List Byte)
  | list (tag : Tag) (came : List Byte)
  | block (tag : Tag) (list : List Byte) (block : Nat) (data : List Byte)
  deriving DecidableEq, Repr, Inhabited

/-- What SP memory gives for a PP WRITE's data (R178): the bytes of its buffer list and those of its blocks. -/
structure WriteRead where
  list : List Byte := []
  data : List Byte := []
  deriving DecidableEq, Repr, Inhabited

/-- A frame as the standby receiver brings it: its bytes, and whether the receiver was on at the first of them (R147; log
entry 50). -/
structure Arrival where
  bytes : List Byte := []
  fromStart : Bool := false
  deriving DecidableEq, Repr, Inhabited

/-- The four set-up words of the processor port (R174). -/
inductive SetupWord where
  | submissionBase
  | submissionSize
  | completionBase
  | completionSize
  deriving DecidableEq, Repr, Inhabited

/-- The commands of the part, one constructor for each row of spec/opcode_table.json, in the table's order. A bad-check
frame carries the bytes of its write transaction; a PP data movement carries what SP memory gave for the buffer list; a
frame's `fromStart` says that its first byte came after the standby receiver was last switched on (R147; log entry 50). -/
inductive Instr where
  | read (via : Via) (window offset count bufList : Nat) (mirrorBoth : Bool)
  | write (via : Via) (window offset count bufList : Nat) (mirrorBoth : Bool)
  | flush (via : Via) (window : Nat) (mirrorBoth : Bool)
  | sleep (via : Via) (target : Option SleepTarget)
  | resume (via : Via)
  | frameFetch (via : Via)
  | windowDefine (via : Via) (d : WindowDef)
  | windowDelete (via : Via) (index : Nat)
  | replaceMember (via : Via) (index : Nat) (which : Option Side) (bay base : Nat)
  | windowInfo (via : Via) (index : Option Nat)
  | bayInfo (via : Via) (bay : Nat)
  | baySpin (via : Via) (bay : Nat)
  | bayStop (via : Via) (bay : Nat)
  | bayClear (via : Via) (bay : Nat)
  | bayQuery (via : Via) (bay : Nat) (noWake : Bool)
  | profileSet (via : Via) (p : ProfileArgs)
  | budgetSet (via : Via) (b bLow : Nat)
  | patrolSet (via : Via) (p : PatrolArgs)
  | wakeEntrySet (via : Via) (w : WakeArgs)
  | stationSet (via : Via) (a : StationArgs)
  | alarmSet (via : Via) (a : AlarmArgs)
  | alarmClear (via : Via) (id : Nat) (all : Bool)
  | timeSet (via : Via) (v : Seconds)
  | status (via : Via) (first : Nat)
  | noticeClear (via : Via) (word : Word16)
  | boxWake (via : Via)
  | forceDormant (via : Via)
  | configSave (via : Via)
  | configLoad (via : Via)
  | mpMode (via : Via) (m : Option MpMode)
  | restart (via : Via) (inputs : ResetInputs)
  | unknownKindRecord (via : Via) (code : Byte)
  | badCheckFrame (bytes : List Byte)
  | mpOverrun
  | mpShortFrame
  | mpRead (n : Nat)
  | mpHoldTimeout
  | setupWordWrite (w : SetupWord) (value : Nat)
  | ringStart (value : Nat)
  | submissionTailNotice (value : Nat)
  | completionHeadNotice (value : Nat)
  | interruptMask (word : Word16)
  | recordFetch (r : RecordRead)
  | ppWriteDataDone (tag : Tag) (r : WriteRead)
  | ppReadDeliveryDone (tag : Tag) (list : List Byte)
  | spMemoryError (e : SpReadError)
  | sleepCompletionWritten
  | frameTransferDone
  | linkReset
  | dpAttach
  | dpDetach
  | dpBadUnit (len : Nat)
  | dpDataUnit (bytes : List Byte)
  | dpDiscardData (n : Nat)
  | dpReadDataSent
  | dpCompletionSent
  | slotGrant
  | roomResume (bay : Fin 4)
  | drainEnd
  | windowCloseEnd (window : Fin 16)
  | startAdmission
  | copyJobStart
  | bayOpIssue (bay : Fin 4)
  | driveAnswer (bay : Fin 4) (a : DriveAnswer)
  | commandTimeout (bay : Fin 4)
  | linkLoss (bay : Fin 4)
  | linkLocked (bay : Fin 4)
  | retrainAttemptEnd (bay : Fin 4)
  | supplySettleEnd (bay : Fin 4)
  | bringupTrainingTimeout (bay : Fin 4)
  | driveReadyReport (bay : Fin 4)
  | identifyAnswer (bay : Fin 4) (a : IdentifyAnswer)
  | spinUpAnswer (bay : Fin 4) (a : SimpleAnswer)
  | startTimeout (bay : Fin 4)
  | goStandbyAnswer (bay : Fin 4) (a : SimpleAnswer)
  | healthReadAnswer (bay : Fin 4) (a : HealthAnswer)
  | bayPresenceAssert (bay : Fin 4)
  | bayPresenceRelease (bay : Fin 4)
  | lowSupplyAssert
  | lowSupplyRelease
  | buttonPress
  | buttonRelease
  | buttonLongPress
  | boxClockTick
  | alarmExpiry
  | idleStandbyExpiry (bay : Fin 4)
  | idleOffExpiry (bay : Fin 4)
  | tSpEnd
  | graceEnd
  | resumeLimitExpiry
  | patrolDue (window : Fin 16)
  | frameArrival (f : Arrival)
  | powerOnReset (inputs : ResetInputs)
  | backupSupplyLoss
  | imageJudged (image : List Byte)
  | saveReadbackEnd (image : List Byte)
  | porLineAsserted
  | backupDomainSupplyReturn
  deriving DecidableEq, Repr, Inhabited

end Sys2Proof
end

