-- ==== Sys2Proof/Decode.lean ====
section
/-! DEFINITION. The commands a word spells by the bits of spec/opcode_table.json. The table gives bits to none of its rows,
so no word spells a command; the records and frames a port receives are read in Machine/Operands.lean. -/

namespace Sys2Proof

/-- The command whose table bits are `w`: none, since no row of the table gives bits. -/
def decodeTableWord (_nbits _w : Nat) : Option Instr := none

end Sys2Proof
end

