-- ==== Sys2Proof/Machine/State.lean ====
section
/-! DEFINITION. The state of the part as plain data, block by block, with the reset value of every item; the reasons a
step can stop; and `State.reset`. Each structure's default values are the values its items take in a power-on reset of the
main domain. Values that the manual computes from others in the same event (B_eff, committed draw, quiet, free slots,
the bay rails' levels) are functions in Machine/Flags.lean, never stored. -/

namespace Sys2Proof.Machine

open Sys2Proof

/-! ## Answers, statuses and codes -/

/-- The status values of R204. -/
inductive Status where
  | ok | okRecovered | okDegraded
  | media | timeout | staleCopy | memberForeign | bayFault | bayAbsent
  | badRequest | tagInUse | noWindow | denied | range | readOnly | busy | overlap | bayUnknown | resyncPending
  | wrongState | woken | empty | full | transferError | outOfRange
  | pending | none
  deriving DecidableEq, Repr, Inhabited

/-- Whom a command's answer goes to when its owner gives it: a PP record with its tag and answer buffer, a DP record
with its tag, the management port's executing command, or no one (its port was reset meanwhile, R15, R69, R181). -/
inductive Answerer where
  | pp (tag : Tag) (bufAddr bufLen : Nat)
  | dp (tag : Tag)
  | mp
  | void
  deriving DecidableEq, Repr, Inhabited

/-! ## Window table (chapter 1) -/

inductive WindowState where
  | free
  | opened
  | closing
  deriving DecidableEq, Repr, Inhabited

/-- A member record (R1): bay, base, bound serial, foreign flag. -/
structure Member where
  bay : Fin 4 := 0
  base : Nat := 0
  serial : Option (List Byte) := none
  isForeign : Bool := false
  deriving DecidableEq, Repr, Inhabited

/-- The patrol record of a window (R1, R114). -/
structure PatrolRecord where
  region : Nat := 0
  chunk : Nat := 0
  passes : Nat := 0
  lastEnd : Option Nat := none
  mismatches : Nat := 0
  deriving DecidableEq, Repr, Inhabited

/-- A window record (R1), with the copy engine's figures of the window (R92), its patrol items (R114) and the delete
whose answer is held (R13). `lost = none` is NONE in a MIRROR window and absence in any other. -/
structure Window where
  st : WindowState := .free
  layout : Layout := .single
  members : List Member := []
  length : Nat := 0
  unit : Option Nat := none
  ppRight : Right := .none
  dpRight : Right := .none
  lazyAttr : Bool := false
  patrolAttr : Bool := false
  wakesAttr : Bool := false
  label : Option (List Byte) := none
  inFlight : Nat := 0
  lost : Option Side := none
  cursor : Option Nat := none
  patrol : Option PatrolRecord := none
  rebuildChunk : Nat := 0
  orphaned : Nat := 0
  unreadable : Nat := 0
  lastUnreadable : Option Nat := none
  unrepairable : Nat := 0
  interval : Nat := 0
  timer : Nat := 0
  due : Bool := false
  deleteFor : Option Answerer := none
  deriving DecidableEq, Repr, Inhabited

/-! ## Request router and buffer pool (chapter 2) -/

/-- The two ports that send block requests. -/
inductive ReqPort where
  | pp
  | dp
  deriving DecidableEq, Repr, Inhabited

inductive ReqKind where
  | read
  | write
  | flush
  deriving DecidableEq, Repr, Inhabited

/-- The life states in which a request record stands (R31). COMPLETE is the event in which the record is removed, and
ACCEPTED passes on in the event of acceptance. -/
inductive Life where
  | accepted
  | slotWait
  | dataIn
  | routing
  | atBays
  | dataOut
  | complete
  deriving DecidableEq, Repr, Inhabited

/-- One fragment (R22, R26). `retry` marks a read retried on the other copy (R97); `removed` marks an operation that a
port's drop kept from being carried out (R44). -/
structure Fragment where
  member : Nat := 0
  bay : Fin 4 := 0
  block : Nat := 0
  count : Nat := 0
  first : Nat := 0
  placed : Bool := false
  result : Option Status := none
  retry : Bool := false
  removed : Bool := false
  deriving DecidableEq, Repr, Inhabited

/-- How a request's fragment results make its status: the most severe (R40); the survivor's, OK shown as OK_DEGRADED
(R99, R101); or the pair of results of a write placed on both copies (R100). -/
inductive Gather where
  | worst
  | survivor (side : Side)
  | both
  deriving DecidableEq, Repr, Inhabited

/-- A request record (R26), with the bookkeeping of the mirror chapter: `routed` once translated, `gather`, `notes` (statuses
noted by R96, R102, R103), `waits` (regions whose log entries a MIRROR_BOTH flush waits on), `second` (copies owed a second
FLUSH) and `outcome`, the status a READ carries through DATA_OUT. `windowGone` is set in a dropped request whose window has
since become FREE. `id` is the model's own name for the record, since tags are reused. -/
structure Request where
  id : Nat := 0
  port : ReqPort := .pp
  tag : Tag := 0
  kind : ReqKind := .read
  mirrorBoth : Bool := false
  window : Fin 16 := 0
  offset : Nat := 0
  count : Nat := 0
  bufList : Nat := 0
  life : Life := .accepted
  slots : List Nat := []
  frags : List Fragment := []
  pausedAt : Option Nat := none
  failing : Option Nat := none
  routed : Bool := false
  gather : Gather := .worst
  notes : List Status := []
  waits : List Nat := []
  second : List Side := []
  outcome : Option Status := none
  windowGone : Bool := false
  deriving DecidableEq, Repr, Inhabited

/-- Who waits on the slot-wait list or a room-wait list: a request by its id, or the copy engine (R33, R37). -/
inductive Waiter where
  | request (id : Nat)
  | engine
  deriving DecidableEq, Repr, Inhabited

structure SlotWait where
  who : Waiter
  need : Nat
  deriving DecidableEq, Repr, Inhabited

/-- Whether a slot is free or held, and by whom (R32). -/
inductive Holder where
  | free
  | request (id : Nat)
  | engine
  deriving DecidableEq, Repr, Inhabited

/-- The router's records and the pool. `dropped` keeps the requests a port reset or detach dropped while an operation of
theirs was in flight (R44). `ended` names the requests that have come to leave AT_BAYS, in the order in which they did
(R41; log entry 53). `pool` has one entry for each of the 512 slots; `data` is the slots' contents, byte b of slot
k at address 4096 k + b, in canonical form. -/
structure Router where
  requests : List Request := []
  dropped : List Request := []
  ended : List Nat := []
  ppCount : Nat := 0
  dpCount : Nat := 0
  slotWait : List SlotWait := []
  pool : List Holder := List.replicate 512 .free
  data : List Host.Cell := []
  nextId : Nat := 0
  deriving DecidableEq, Repr, Inhabited

/-! ## Drive bays (chapter 3) -/

inductive Power where
  | absent | off | waiting | starting | ready | stopping | standby | fault
  deriving DecidableEq, Repr, Inhabited

inductive WaitFrom where
  | off
  | standby
  deriving DecidableEq, Repr, Inhabited

inductive Link where
  | down
  | training
  | locked
  deriving DecidableEq, Repr, Inhabited

inductive ErrorKind where
  | media | timeout | link | start
  deriving DecidableEq, Repr, Inhabited

/-- The first error of a fault record (R46, R64). -/
structure FirstError where
  kind : ErrorKind
  block : Option Nat := none
  time : Nat := 0
  deriving DecidableEq, Repr, Inhabited

structure Identity where
  capacity : Nat
  serial : List Byte
  deriving DecidableEq, Repr, Inhabited

structure Health where
  temperature : Int
  hours : Nat
  realloc : Nat
  time : Nat
  deriving DecidableEq, Repr, Inhabited

/-- The origin of a bay operation (R47). -/
inductive Origin where
  | pp | dp | resync | repair | rebuild | patrol
  deriving DecidableEq, Repr, Inhabited

/-- The parent of a bay operation: a fragment of a request, or the current chunk with the copy the operation is on. -/
inductive Parent where
  | request (id : Nat) (frag : Nat)
  | chunk (side : Side)
  deriving DecidableEq, Repr, Inhabited

/-- A bay operation (R37, R47). -/
structure BayOp where
  kind : ReqKind
  block : Nat := 0
  count : Nat := 0
  origin : Origin
  parent : Parent
  slots : List Nat := []
  reissue : Bool := false
  deriving DecidableEq, Repr, Inhabited

/-- What a bay has in flight (R46). -/
inductive InFlight where
  | nothing
  | op (o : BayOp)
  | spinUp
  | goStandby
  | identify
  | healthRead
  deriving DecidableEq, Repr, Inhabited

/-- A bay record (R46), with its room-wait list (R37), its start (the state it was admitted from and the ticks of T_start
left, R52, R79), its figures in use (R75), profile (R74) and idle counter (R85), and the commands whose answers it holds
(R69, R70). -/
structure Bay where
  present : Bool := false
  power : Power := .absent
  waitingFrom : Option WaitFrom := none
  startAfterStop : Bool := false
  serviceHold : Bool := false
  link : Link := .down
  retrain : Nat := 0
  timeoutRun : Bool := false
  identity : Option Identity := none
  health : Option Health := none
  queue : List BayOp := []
  inFlight : InFlight := .nothing
  healthPending : Bool := false
  firstError : Option FirstError := none
  errorCount : Nat := 0
  roomWait : List Waiter := []
  startedFrom : Option WaitFrom := none
  startLeft : Option Nat := none
  inUse : Option BayProfile := none
  profile : BayProfile := {}
  idle : Nat := 0
  stopFor : List Answerer := []
  queryHeld : Bool := false
  deriving DecidableEq, Repr, Inhabited

/-! ## Power controller (chapters 4 and 7) -/

/-- An entry of the start queue (R80). -/
inductive StartEntry where
  | bay (b : Fin 4)
  | sp
  deriving DecidableEq, Repr, Inhabited

/-- Budget, low-supply state, SP profile and figures in use, SP rail, ticks of T_sp left, start queue (R71, R76, R79,
R80, R90). -/
structure PowerCtl where
  budget : Nat := 600
  bLow : Nat := 350
  lowAsserted : Bool := false
  spProfile : SpProfile := {}
  spInUse : Option SpProfile := none
  spRail : Bool := false
  tSpLeft : Option Nat := none
  startQueue : List StartEntry := []
  deriving DecidableEq, Repr, Inhabited

inductive BoxState where
  | run | draining | sleep | dormant | waking
  deriving DecidableEq, Repr, Inhabited

inductive DrainPhase where
  | drain
  | grace
  deriving DecidableEq, Repr, Inhabited

/-- The kinds of wake reason (R128). -/
inductive ReasonKind where
  | wakeMatch (entry : Fin 24)
  | summons
  | alarm (id : Fin 8)
  | button
  | sc
  | dpAttach
  deriving DecidableEq, Repr, Inhabited

structure Reason where
  kind : ReasonKind
  time : Nat
  deriving DecidableEq, Repr, Inhabited

structure ResumeRecord where
  reasons : List Reason := []
  further : Nat := 0
  entryTime : Option Nat := none
  deriving DecidableEq, Repr, Inhabited

/-- Where the PHY's receive path goes (R128). -/
inductive PhyPath where
  | sp
  | standby
  deriving DecidableEq, Repr, Inhabited

/-- The events held while the box state is absent (R144, R170, R195). -/
inductive HeldEvent where
  | alarm (id : Fin 8) (spins : List (Fin 4))
  | shortPress
  | longPress
  | attach
  | boxWake
  | forceDormant
  deriving DecidableEq, Repr, Inhabited

/-- The four box settings (R129). -/
structure BoxSettings where
  grace : Nat := 5
  resumeLimit : Nat := 120
  attachWakes : Bool := false
  startOnPower : Bool := true
  deriving DecidableEq, Repr, Inhabited

/-- The box record (R128), the settings (R129), the held events (R144) and the press being measured (R142). `grace` is
the grace count, absent until it begins (R132). -/
structure Box where
  st : Option BoxState := none
  phase : Option DrainPhase := none
  target : Option SleepTarget := none
  pendingSleep : Option Tag := none
  grace : Option Nat := none
  resume : ResumeRecord := {}
  resumeCount : Option Nat := none
  cycled : Bool := false
  noResume : Bool := false
  phyPath : PhyPath := .sp
  phyPowered : Bool := true
  rxOn : Bool := false
  settings : BoxSettings := {}
  heldEvents : List HeldEvent := []
  pressed : Bool := false
  deriving DecidableEq, Repr, Inhabited

/-! ## Copy engine (chapters 5 and 6) -/

/-- A resync log entry (R93). -/
structure LogEntry where
  window : Fin 16
  region : Nat
  good : Side
  copying : Bool := false
  next : Nat := 0
  redirtied : Bool := false
  unreadable : Bool := false
  logged : Nat := 0
  flushes : Nat := 0
  deriving DecidableEq, Repr, Inhabited

/-- A repair queue entry (R104); `busy` while a piece of it is in progress. -/
structure RepairEntry where
  window : Fin 16
  copy : Side
  offset : Nat
  count : Nat
  next : Nat
  busy : Bool := false
  deriving DecidableEq, Repr, Inhabited

inductive ChunkKind where
  | resync | repair | rebuild | patrol
  deriving DecidableEq, Repr, Inhabited

inductive ChunkPhase where
  | slotWait | reading | writing
  deriving DecidableEq, Repr, Inhabited

/-- The chunk record (R106). `todo` lists the copies whose operations of the phase are not yet placed; `resPrimary` and
`resSecondary` are a compare chunk's results (R122), `true` for MEDIA; `failBlock` the failing bay block of its phase. -/
structure Chunk where
  kind : ChunkKind
  window : Fin 16
  source : Side
  dest : Side
  offset : Nat
  count : Nat
  phase : ChunkPhase := .slotWait
  again : Bool := false
  abandoned : Bool := false
  slots : List Nat := []
  todo : List Side := []
  paused : Bool := false
  resPrimary : Option Bool := none
  resSecondary : Option Bool := none
  deriving DecidableEq, Repr, Inhabited

/-- The copy engine (R92). `seek` is set within an event in which the engine is to seek its next job (R105). -/
structure Engine where
  log : List LogEntry := []
  above : Bool := false
  repairs : List RepairEntry := []
  chunk : Option Chunk := none
  seek : Bool := false
  deriving DecidableEq, Repr, Inhabited

/-! ## Wake matcher (chapter 8) -/

/-- A set wake table entry (R151). -/
structure WakeEntry where
  enabled : Bool
  terms : List Term
  action : WakeAction
  bays : List (Fin 4)
  hold : Bool
  hits : Nat := 0
  lastHit : Option Nat := none
  deriving DecidableEq, Repr, Inhabited

/-- A held frame (R154); `source = none` is SUMMONS. -/
structure HeldFrame where
  source : Option (Fin 24)
  time : Nat
  bytes : List Byte
  deriving DecidableEq, Repr, Inhabited

/-- A FRAME_FETCH in transfer (R156). -/
structure Transfer where
  tag : Tag
  bufAddr : Nat
  deriving DecidableEq, Repr, Inhabited

/-- The wake matcher (R146). -/
structure Matcher where
  station : Option Address := none
  groups : List (Option Address) := [none, none, none, none]
  summons : Bool := true
  table : Vector (Option WakeEntry) 24 := Vector.replicate 24 none
  summonsHits : Nat := 0
  summonsLast : Option Nat := none
  held : List HeldFrame := []
  transfer : Option Transfer := none
  checkErrors : Nat := 0
  shortFrames : Nat := 0
  longFrames : Nat := 0
  unmatched : Nat := 0
  lostFrames : Nat := 0
  deriving DecidableEq, Repr, Inhabited

/-! ## Box clock (chapter 9): the backup domain -/

/-- An alarm (R166): WAKE where `spins` is empty, WAKE_SPIN with that bay set otherwise. -/
structure Alarm where
  id : Fin 8
  time : Nat
  interval : Nat
  spins : List (Fin 4)
  deriving DecidableEq, Repr, Inhabited

/-- An undelivered expiry (R170). -/
structure Undelivered where
  id : Fin 8
  spins : List (Fin 4)
  deriving DecidableEq, Repr, Inhabited

/-- The backup domain (R162); `supplied` is false from a loss of its supply to the supply's return (R164). -/
structure Clock where
  counter : Nat := 0
  valid : Bool := false
  alarms : List Alarm := []
  undelivered : List Undelivered := []
  supplied : Bool := true
  deriving DecidableEq, Repr, Inhabited

/-! ## Processor port and direct port (chapter 10) -/

inductive SetupState where
  | unset | set | error
  deriving DecidableEq, Repr, Inhabited

/-- A completion on its way to a port (R203): tag, status, whole answer length, result bytes 8 to 15. `isSleep` marks the
SLEEP completion whose writing the power controller awaits (R132). -/
structure Completion where
  tag : Tag
  status : Status
  answerLen : Nat := 0
  result : List Byte := List.replicate 8 0
  isSleep : Bool := false
  deriving DecidableEq, Repr, Inhabited

/-- The processor port (R173). `phase` is true for 1. `batch` is set within an event in which a completion has been written
and the batch's interrupt is not yet sent (R179; log entry 56). -/
structure PpPort where
  setup : SetupState := .unset
  subBase : Nat := 0
  subSize : Nat := 0
  compBase : Nat := 0
  compSize : Nat := 0
  tail : Nat := 0
  fetchPos : Nat := 0
  head : Nat := 0
  compPos : Nat := 0
  phase : Bool := true
  owed : Nat := 0
  list : List Completion := []
  compIntOff : Bool := false
  masked : List Notice := []
  noticeErrors : Nat := 0
  notices : List Notice := []
  batch : Bool := false
  deriving DecidableEq, Repr, Inhabited

inductive OutState where
  | record | hold | data | discard
  deriving DecidableEq, Repr, Inhabited

/-- An entry of the DP's send list (R184): a READ whose data is to be sent, or a completion with the answer unit that goes
ahead of it, if any. -/
inductive SendEntry where
  | readData (id : Nat)
  | completion (answer : Option (List Byte)) (c : Completion)
  deriving DecidableEq, Repr, Inhabited

/-- The direct port (R182). `writing` is the WRITE whose data is awaited in HOLD or DATA. -/
structure DpPort where
  attached : Bool := false
  out : OutState := .record
  remaining : Nat := 0
  owed : Nat := 0
  sendList : List SendEntry := []
  attachPending : Bool := false
  framing : Nat := 0
  writing : Option Nat := none
  deriving DecidableEq, Repr, Inhabited

/-! ## Management port and configuration loader (chapter 11) -/

inductive MpState where
  | idle | executing | replyReady
  deriving DecidableEq, Repr, Inhabited

/-- The reply in the reply slot (R188): `length` is the whole answer's, `bytes` the part the slot holds. -/
structure Reply where
  seq : Byte
  status : Status
  length : Nat
  bytes : List Byte
  deriving DecidableEq, Repr, Inhabited

/-- The management port (R188). `execKind` is absent for a frame whose kind code names no command; `heldRead` is a read
transaction whose clock the part is holding (R191), with the number of bytes the SC will read. -/
structure MpPort where
  st : MpState := .idle
  execKind : Option Kind := none
  execSeq : Byte := 0
  reply : Option Reply := none
  readPos : Nat := 0
  late : Bool := false
  mode : MpMode := .hold
  overruns : Nat := 0
  notices : List Notice := []
  attention : Bool := false
  addressStrap : Bool := false
  heldRead : Option Nat := none
  deriving DecidableEq, Repr, Inhabited

inductive LoaderState where
  | idle | loading | saving
  deriving DecidableEq, Repr, Inhabited

inductive FailReason where
  | marker | version | length | check | badSection (kind : Byte) | write
  deriving DecidableEq, Repr, Inhabited

inductive LoadResult where
  | none | loaded | saved | failed (r : FailReason)
  deriving DecidableEq, Repr, Inhabited

/-- The configuration loader (R194); `image` is the image being written by a CONFIG_SAVE (R199). -/
structure Loader where
  mode : BootMode := .normal
  configPresent : Bool := false
  st : LoaderState := .idle
  result : LoadResult := .none
  cfgBad : Bool := false
  image : List Byte := []
  deriving DecidableEq, Repr, Inhabited

/-! ## Outputs -/

/-- The commands a bay controller issues to its drive (R53, R54, R57, R61, R70). -/
inductive DriveCmd where
  | readBlocks (sector sectors : Nat)
  | writeBlocks (sector sectors : Nat) (data : List Byte)
  | flushCache
  | spinUp | goStandby | identify | healthRead
  deriving DecidableEq, Repr, Inhabited

/-- What the part puts out in an event: reads of SP memory (records, operands, buffer lists, blocks) and writes into it
(answers, block data, frames), completions written into the completion ring, message interrupts, drive commands, units on the
DP's in pipe, bytes of a reply frame, bytes written to the EEPROM from an address on. When in an event they stand there is a
design choice (log entry 28). -/
inductive Output where
  | spRead (addr len : Nat)
  | spWrite (addr : Nat) (bytes : List Byte)
  | completion (addr : Nat) (bytes : List Byte)
  | completionInterrupt
  | noticeInterrupt
  | drive (bay : Fin 4) (c : DriveCmd)
  | dpUnit (bytes : List Byte)
  | mpBytes (bytes : List Byte)
  | eeprom (addr : Nat) (bytes : List Byte)
  deriving DecidableEq, Repr, Inhabited

/-! ## The whole machine -/

/-- The part itself: the box clock in the backup domain, and every block of the main domain. `held` is set while the POR
line is asserted or the main supply is absent (R195); `bayRails` are the levels of the four bay rail enable outputs (R89),
`statusCode` the value on the status-code outputs (R201); `out` is what the part put out in the last event. -/
structure Part where
  clock : Clock := {}
  held : Bool := false
  windows : Vector Window 16 := Vector.replicate 16 {}
  router : Router := {}
  bays : Vector Bay 4 := Vector.replicate 4 {}
  power : PowerCtl := {}
  box : Box := {}
  engine : Engine := {}
  matcher : Matcher := {}
  pp : PpPort := {}
  dp : DpPort := {}
  mp : MpPort := {}
  loader : Loader := {}
  bayRails : Vector Bool 4 := Vector.replicate 4 false
  statusCode : Nat := 1
  out : List Output := []
  deriving DecidableEq, Repr, Inhabited

/-- The state: the part, and the queue of commands that wait, first in first out. -/
structure State where
  pending : List Instr
  part : Part
  deriving DecidableEq, Repr, Inhabited

/-- The part right after a power-on reset, in the event in which the POR line is released, with both boot-mode straps
released (NORMAL), the configuration present strap asserted, every presence line and the low-supply input released, and
the box clock as a return of the backup supply leaves it (R164): every item stands at the value its table gives, the
loader is LOADING and the box state is absent. DESIGN CHOICE of the input levels (log entry 6). -/
def State.reset : State where
  pending := []
  part := { loader := { configPresent := true, st := .loading } }

/-! ## How a step can stop -/

/-- The reasons the part stops with a fault: none. No rule of the manual stops the part, so this type has no
constructor, nothing raises it, and a claim about faults is claimed of nothing (safe). -/
inductive Fault where
  deriving DecidableEq, Repr

/-- The reasons the model refuses a command. -/
inductive Refusal where
  /-- Raised by `exec` alone, in the arm of a command that has no meaning yet; safe, since the run stops there. No arm of
  this model raises it. -/
  | notModelled (mnemonic : String)
  deriving DecidableEq, Repr

end Sys2Proof.Machine
end

