-- ==== Sys2Proof/Machine/Answers.lean ====
section
/-! DEFINITION. What the commands answer, by field name: the reports of WINDOW_INFO, BAY_INFO, STATUS and RESUME and the
smaller answers. Chapter 12 gives byte layouts for some of them only; the bytes of the others are a free value
(Sys2Proof/Config/Free.lean). -/

namespace Sys2Proof.Machine

open Sys2Proof

/-- One window's whole record as WINDOW_INFO reports it (R16, R127). -/
structure WindowReport where
  index : Fin 16
  st : WindowState
  layout : Layout
  length : Nat
  unit : Option Nat
  ppRight : Right
  dpRight : Right
  lazyAttr : Bool
  patrolAttr : Bool
  wakesAttr : Bool
  label : Option (List Byte)
  inFlight : Nat
  lost : Option Side
  cursor : Option Nat
  patrol : Option PatrolRecord
  interval : Nat
  members : List Member
  deriving DecidableEq, Repr, Inhabited

/-- One line of the window list on the PP and the MP (R16). -/
structure WindowLine where
  index : Fin 16
  st : WindowState
  layout : Layout
  length : Nat
  ppRight : Right
  dpRight : Right
  label : Option (List Byte)
  deriving DecidableEq, Repr, Inhabited

/-- One line of the window list on the DP (R16). -/
structure DpWindowLine where
  index : Fin 16
  layout : Layout
  length : Nat
  dpRight : Right
  label : Option (List Byte)
  deriving DecidableEq, Repr, Inhabited

/-- What BAY_INFO says is in flight (R67). -/
inductive InFlightReport where
  | nothing
  | op (kind : ReqKind) (origin : Origin)
  | spinUp | goStandby | identify | healthRead
  deriving DecidableEq, Repr, Inhabited

/-- The answer of BAY_INFO (R67), with the profile as recorded (R91). -/
structure BayReport where
  present : Bool
  power : Power
  waitingFrom : Option WaitFrom
  link : Link
  retrain : Nat
  startAfterStop : Bool
  serviceHold : Bool
  identity : Option Identity
  health : Option Health
  queued : Nat
  inFlight : InFlightReport
  firstError : Option FirstError
  errorCount : Nat
  profile : BayProfile
  deriving DecidableEq, Repr, Inhabited

/-- The router's and pool's figures (R45). -/
structure PoolReport where
  ppCount : Nat
  dpCount : Nat
  freeSlots : Nat
  requestSlots : Nat
  engineSlots : Nat
  slotWaitLength : Nat
  headNeed : Nat
  roomWaits : List Nat
  deriving DecidableEq, Repr, Inhabited

/-- The power controller's figures (R91). -/
structure PowerReport where
  budget : Nat
  bLow : Nat
  lowAsserted : Bool
  bEff : Nat
  committed : Nat
  headroom : Nat
  startQueue : List StartEntry
  headDelta : Int
  spRail : Bool
  tSpRunning : Bool
  idle : List Nat
  quiet : List Bool
  spProfile : SpProfile
  deriving DecidableEq, Repr, Inhabited

/-- The copy engine's figures of one MIRROR window (R113). -/
structure MirrorLine where
  index : Fin 16
  rebuildChunk : Nat
  orphaned : Nat
  unreadable : Nat
  lastUnreadable : Option Nat
  unrepairable : Nat
  deriving DecidableEq, Repr, Inhabited

/-- The patrol timer and due flag of one window (R127). -/
structure PatrolLine where
  index : Fin 16
  timer : Nat
  due : Bool
  deriving DecidableEq, Repr, Inhabited

/-- The copy engine's state (R113, R127). -/
structure EngineReport where
  logCount : Nat
  above : Bool
  log : List LogEntry
  repairs : List RepairEntry
  chunk : Option Chunk
  mirrors : List MirrorLine
  patrols : List PatrolLine
  deriving DecidableEq, Repr, Inhabited

/-- The box record (R145). -/
structure BoxReport where
  st : Option BoxState
  phase : Option DrainPhase
  target : Option SleepTarget
  grace : Option Nat
  resume : ResumeRecord
  spEntryWaiting : Bool
  resumeCount : Option Nat
  cycled : Bool
  noResume : Bool
  phyPath : PhyPath
  phyPowered : Bool
  rxOn : Bool
  settings : BoxSettings
  deriving DecidableEq, Repr, Inhabited

/-- One held frame as STATUS reports it (R161). -/
structure HeldLine where
  source : Option (Fin 24)
  length : Nat
  time : Nat
  inTransfer : Bool
  deriving DecidableEq, Repr, Inhabited

/-- The wake matcher's state (R161). -/
structure MatcherReport where
  station : Option Address
  groups : List (Option Address)
  summons : Bool
  table : List (Option WakeEntry)
  summonsHits : Nat
  summonsLast : Option Nat
  held : List HeldLine
  checkErrors : Nat
  shortFrames : Nat
  longFrames : Nat
  unmatched : Nat
  lostFrames : Nat
  deriving DecidableEq, Repr, Inhabited

/-- The box clock's state (R172). -/
structure ClockReport where
  counter : Nat
  valid : Bool
  alarms : List Alarm
  deriving DecidableEq, Repr, Inhabited

/-- The words of the processor port's window (section 10.1). -/
inductive PpWord where
  | submissionBase | submissionSize | completionBase | completionSize
  | ringStart | tailNotice | headNotice | noticeSet | interruptMask | portStatus
  deriving DecidableEq, Repr, Inhabited

/-- What a read of a word of the window gives (section 10.1): a number, a word of bits (R204), or the set-up state with the
notice errors. Chapter 12 gives the port status word no layout, so its two items stand by name. -/
inductive PpWordValue where
  | number (n : Nat)
  | bits (w : Word16)
  | status (setup : SetupState) (noticeErrors : Nat)
  deriving DecidableEq, Repr, Inhabited

/-- The state of both ports (R187). -/
structure PortsReport where
  setup : SetupState
  subSize : Nat
  compSize : Nat
  tail : Nat
  fetchPos : Nat
  head : Nat
  compPos : Nat
  phase : Bool
  owed : Nat
  listLength : Nat
  compIntOff : Bool
  masked : List Notice
  noticeErrors : Nat
  attached : Bool
  out : OutState
  remaining : Nat
  dpOwed : Nat
  sendLength : Nat
  attachPending : Bool
  framing : Nat
  deriving DecidableEq, Repr, Inhabited

/-- The management port's and the loader's figures (R193). -/
structure ManagementReport where
  mode : MpMode
  overruns : Nat
  notices : List Notice
  bootMode : BootMode
  configPresent : Bool
  loader : LoaderState
  result : LoadResult
  cfgBad : Bool
  statusCode : Nat
  deriving DecidableEq, Repr, Inhabited

/-- The answer of STATUS: the state of every block (R45, R91, R113, R127, R145, R161, R172, R187, R193). -/
structure StatusReport where
  pool : PoolReport
  power : PowerReport
  engine : EngineReport
  box : BoxReport
  matcher : MatcherReport
  clock : ClockReport
  ports : PortsReport
  management : ManagementReport
  deriving DecidableEq, Repr, Inhabited

/-- The answers of the commands. -/
inductive Answer where
  /-- An empty answer. -/
  | nothing
  /-- WINDOW_INFO of one window in use. -/
  | window (w : WindowReport)
  /-- WINDOW_INFO of a FREE window: state FREE, every other field absent. -/
  | windowFree (index : Fin 16)
  /-- The window list of the PP and the MP. -/
  | windowList (l : List WindowLine)
  /-- The window list of the DP. -/
  | dpWindowList (l : List DpWindowLine)
  | bay (b : BayReport)
  | status (r : StatusReport)
  /-- The resume record RESUME carries (R140). -/
  | resume (r : ResumeRecord)
  /-- The health BAY_QUERY carries, or its absence (R70). -/
  | health (h : Option Health)
  /-- ALARM_SET: the id, and the alarm's time where it stands in the list (R167). -/
  | alarmSet (id : Fin 8) (time : Option Nat)
  /-- ALARM_CLEAR: the number removed (R168). -/
  | alarmsCleared (n : Nat)
  /-- FRAME_FETCH: length, source, arrival time, frames still held (R156). -/
  | frame (length : Nat) (source : Option (Fin 24)) (time still : Nat)
  /-- FRAME_FETCH refused RANGE: the length of the oldest held frame (R156). -/
  | frameRange (length : Nat)
  /-- A block request's failing window offset (R25, R41). -/
  | failing (offset : Nat)
  /-- CONFIG_LOAD and CONFIG_SAVE: the load result (R205). -/
  | load (r : LoadResult)
  deriving DecidableEq, Repr, Inhabited

end Sys2Proof.Machine
end

