-- ==== Sys2Proof/Config/Free.lean ====
section
/-! DEFINITION. The free values: what the manual leaves open and the machine goes on with. Each is an opaque constant, so
nothing can be proved of its value and a claim holds whatever it is. -/

namespace Sys2Proof.Config

open Sys2Proof Sys2Proof.Machine

/-- The operand fields of the commands whose operand bytes chapter 12 does not lay out, each under the name the
command's own chapter gives it. `inputs` are the input levels that a RESTART read from a frame's bytes meets, which no byte
of it carries (log entry 55). -/
structure OperandFields where
  target : Option SleepTarget := none
  window : WindowDef := {}
  index : Nat := 0
  namedIndex : Option Nat := none
  which : Option Side := none
  bay : Nat := 0
  base : Nat := 0
  profile : ProfileArgs := .sp {}
  b : Nat := 0
  bLow : Nat := 0
  patrol : PatrolArgs := {}
  station : StationArgs := {}
  alarm : AlarmArgs := {}
  id : Nat := 0
  all : Bool := false
  time : Seconds := 0
  inputs : ResetInputs := {}
  deriving DecidableEq, Repr, Inhabited

/-- How the operand bytes of a command spell its fields, for the kinds whose layout chapter 12 does not give (R202, R205
say where the bytes lie and not what they mean). Free value, log entry 9. -/
opaque operandFields : Kind → List Byte → OperandFields

/-- The bytes of an answer whose layout chapter 12 does not give. Free value, log entry 10. -/
opaque answerBytes : Answer → List Byte

/-- The window offset a media error is reported at when the drive names a block outside the operation's member, where the
reverse mapping of R24 is not defined. Free value, log entry 34. -/
opaque strayOffset : Nat → Nat

/-- The bytes of the header that a save writes first, whose marker is not the image marker and which R199 gives no other
bytes. Free value, log entry 52. -/
opaque spoiltByte : Nat → Byte

/-- Whether a LOST mark takes a compare chunk of the window that waits for its slots off the slot-wait list, as R34 has it, or
does nothing at once to the chunk from its joining the list on, as R121 has it. The two rules disagree there and the manual
rules for neither. Free value, log entry 68. -/
opaque lostUnlistsCompare : Bool

end Sys2Proof.Config
end

