-- ==== Sys2Proof/Machine/Operands.lean ====
section
/-! DEFINITION. The layouts and codes of chapter 12: byte order, text fields, kind, status and notice codes, the request
record, the completion record, the reply frame, the wake entry; and the table of which port may issue which command. -/

namespace Sys2Proof.Machine

open Sys2Proof

/-! ## Numbers and text in records (R202) -/

/-- The number a field of several bytes holds, least significant byte first. -/
def leNat : List Byte → Nat
  | [] => 0
  | b :: bs => b.toNat + 256 * leNat bs

/-- A number as a field of `k` bytes, least significant byte first. -/
def leBytes : Nat → Nat → List Byte
  | 0, _ => []
  | k + 1, n => BitVec.ofNat 8 n :: leBytes k (n / 256)

/-- Byte `i` of a record; a byte beyond its end reads as 0. -/
def byteAt (bs : List Byte) (i : Nat) : Byte := (bs[i]?).getD 0

/-- The number in the field of `len` bytes at `off`. -/
def leField (bs : List Byte) (off len : Nat) : Nat := leNat ((List.range len).map fun i => byteAt bs (off + i))

/-- The bytes of a text field of `len` bytes at `off`: the characters before the first 0x00 (R202). -/
def textField (bs : List Byte) (off len : Nat) : List Byte := ((bs.drop off).take len).takeWhile (· ≠ 0)

/-- A label as recorded: its characters before the first 0x00; one of length 0 is an absent label (R202). -/
def labelOf (l : Option (List Byte)) : Option (List Byte) :=
  match (l.getD []).takeWhile (· ≠ 0) with
  | [] => none
  | t => some t

/-- A text field of `len` bytes, the unused ones 0x00 (R202). -/
def textBytes (len : Nat) (t : List Byte) : List Byte := (t ++ List.replicate len 0).take len

/-- The address in the 6 bytes at `off`. -/
def addressField (bs : List Byte) (off : Nat) : Address := Vector.ofFn fun i => byteAt bs (off + i.val)

/-- The sum of bytes as a number. -/
def byteSum : List Byte → Nat
  | [] => 0
  | b :: bs => b.toNat + byteSum bs

/-- The check byte of a command or reply frame: the two's complement of the sum of its other bytes mod 256 (R190). -/
def checkByte (bs : List Byte) : Byte := BitVec.ofNat 8 (256 - byteSum bs % 256)

/-! ## Codes (R204) -/

/-- The kind codes. -/
def kindCode : Kind → Byte
  | .read => 0x01 | .write => 0x02 | .flush => 0x03
  | .sleep => 0x10 | .resume => 0x11 | .frameFetch => 0x12
  | .windowDefine => 0x20 | .windowDelete => 0x21 | .replaceMember => 0x22 | .windowInfo => 0x23
  | .bayInfo => 0x30 | .baySpin => 0x31 | .bayStop => 0x32 | .bayClear => 0x33 | .bayQuery => 0x34
  | .profileSet => 0x40 | .budgetSet => 0x41 | .patrolSet => 0x42
  | .wakeEntrySet => 0x50 | .stationSet => 0x51
  | .alarmSet => 0x60 | .alarmClear => 0x61 | .timeSet => 0x62
  | .status => 0x70 | .noticeClear => 0x71
  | .boxWake => 0x80 | .forceDormant => 0x81
  | .configSave => 0x90 | .configLoad => 0x91 | .mpMode => 0x92 | .restart => 0x93

/-- Every kind, in the order of R204. -/
def allKinds : List Kind :=
  [.read, .write, .flush, .sleep, .resume, .frameFetch, .windowDefine, .windowDelete, .replaceMember, .windowInfo,
   .bayInfo, .baySpin, .bayStop, .bayClear, .bayQuery, .profileSet, .budgetSet, .patrolSet, .wakeEntrySet, .stationSet,
   .alarmSet, .alarmClear, .timeSet, .status, .noticeClear, .boxWake, .forceDormant, .configSave, .configLoad, .mpMode,
   .restart]

/-- The kind a code names, if any. -/
def kindOfCode (c : Byte) : Option Kind := allKinds.find? fun k => kindCode k == c

/-- The status codes. -/
def statusByte : Status → Byte
  | .ok => 0x00 | .okRecovered => 0x01 | .okDegraded => 0x02
  | .media => 0x10 | .timeout => 0x11 | .staleCopy => 0x12 | .memberForeign => 0x13 | .bayFault => 0x14
  | .bayAbsent => 0x15
  | .badRequest => 0x20 | .tagInUse => 0x21 | .noWindow => 0x22 | .denied => 0x23 | .range => 0x24 | .readOnly => 0x25
  | .busy => 0x26 | .overlap => 0x27 | .bayUnknown => 0x28 | .resyncPending => 0x29
  | .wrongState => 0x2A | .woken => 0x2B | .empty => 0x2C | .full => 0x2D | .transferError => 0x2E | .outOfRange => 0x2F
  | .pending => 0x30 | .none => 0x31

/-- Every notice kind, in bit order. -/
def allNotices : List Notice :=
  [.bayFault, .bayPresence, .lowSupply, .button, .alarm, .resyncHigh, .memberLost, .rebuildDone, .patrolMismatch,
   .dpAttach, .dpDetach, .cfgBad, .spNoResume]

/-- The bit of a notice kind in a notice-set word. -/
def noticeBit : Notice → Nat
  | .bayFault => 0 | .bayPresence => 1 | .lowSupply => 2 | .button => 3 | .alarm => 4 | .resyncHigh => 5
  | .memberLost => 6 | .rebuildDone => 7 | .patrolMismatch => 8 | .dpAttach => 9 | .dpDetach => 10 | .cfgBad => 11
  | .spNoResume => 12

/-- The kinds a notice-set word names; bits 13 to 15 are reserved, and ignored (R204; DESIGN CHOICE, log entry
76). -/
def noticesOfWord (w : Word16) : List Notice := allNotices.filter fun k => w.getLsbD (noticeBit k)

/-- The word that carries a notice set. -/
def wordOfNotices (l : List Notice) : Word16 :=
  BitVec.ofNat 16 ((allNotices.filter (· ∈ l)).foldl (fun n k => n + 2 ^ noticeBit k) 0)

/-- The load result codes. -/
def loadCode : LoadResult → Byte
  | .none => 0 | .loaded => 1 | .saved => 2 | .failed _ => 3

/-- The failure reason codes. -/
def reasonCode : FailReason → Byte
  | .marker => 1 | .version => 2 | .length => 3 | .check => 4 | .badSection _ => 5 | .write => 6

/-- The 3-byte answer of CONFIG_LOAD and CONFIG_SAVE (R205). -/
def loadBytes : LoadResult → List Byte
  | .failed (.badSection k) => [3, 5, k]
  | .failed r => [3, reasonCode r, 0]
  | r => [loadCode r, 0, 0]

/-! ## Who may issue what (section 10.8, R186) -/

/-- Whether the PP may issue a kind. -/
def ppMayIssue : Kind → Bool
  | .bayQuery | .boxWake | .forceDormant | .configSave | .configLoad | .mpMode | .restart => false
  | _ => true

/-- Whether the MP may issue a kind. -/
def mpMayIssue : Kind → Bool
  | .read | .write | .flush | .sleep | .resume | .frameFetch => false
  | _ => true

/-- Whether the DP may issue a kind. -/
def dpMayIssue : Kind → Bool
  | .read | .write | .flush | .windowInfo => true
  | _ => false

/-- The kind of a command, absent for a code that names none. -/
def cmdKind : Cmd → Option Kind
  | .read .. => some .read
  | .write .. => some .write
  | .flush .. => some .flush
  | .sleep _ => some .sleep
  | .resume => some .resume
  | .frameFetch => some .frameFetch
  | .windowDefine _ => some .windowDefine
  | .windowDelete _ => some .windowDelete
  | .replaceMember .. => some .replaceMember
  | .windowInfo _ => some .windowInfo
  | .bayInfo _ => some .bayInfo
  | .baySpin _ => some .baySpin
  | .bayStop _ => some .bayStop
  | .bayClear _ => some .bayClear
  | .bayQuery .. => some .bayQuery
  | .profileSet _ => some .profileSet
  | .budgetSet .. => some .budgetSet
  | .patrolSet _ => some .patrolSet
  | .wakeEntrySet _ => some .wakeEntrySet
  | .stationSet _ => some .stationSet
  | .alarmSet _ => some .alarmSet
  | .alarmClear .. => some .alarmClear
  | .timeSet _ => some .timeSet
  | .status _ => some .status
  | .noticeClear _ => some .noticeClear
  | .boxWake => some .boxWake
  | .forceDormant => some .forceDormant
  | .configSave => some .configSave
  | .configLoad => some .configLoad
  | .mpMode _ => some .mpMode
  | .restart _ => some .restart
  | .unknown _ => none

/-! ## The wake entry (R206) -/

/-- The classes of an activity mask byte, bits 0 to 4 (R207). Bits 5 to 7 are ignored (DESIGN CHOICE, log entry 76). -/
def classesOfByte (b : Byte) : List ActClass :=
  [(0, ActClass.pp), (1, .dp), (2, .copy), (3, .patrol), (4, .mp)].filterMap fun x =>
    if b.getLsbD x.1 then some x.2 else none

/-- The activity mask byte. -/
def byteOfClasses (l : List ActClass) : Byte :=
  BitVec.ofNat 8 (([(1, ActClass.pp), (2, .dp), (4, .copy), (8, .patrol), (16, .mp)].filter (·.2 ∈ l)).foldl
    (fun n x => n + x.1) 0)

/-- The bays named by a bay-set byte, bit b for bay b. -/
def baysOfByte (b : Byte) : List Nat := (List.range 8).filter fun i => b.getLsbD i

/-- The action an action code names (R206). -/
def actionOfCode : Nat → Option WakeAction
  | 0 => some .wake
  | 1 => some .wakeSpin
  | 2 => some .ignore
  | _ => none

/-- Term `t` of a wake entry (R206). -/
def termOfBytes (bs : List Byte) (t : Nat) : Term where
  offset := (byteAt bs (4 + 10 * t)).toNat
  len := (byteAt bs (5 + 10 * t)).toNat
  value := leField bs (6 + 10 * t) 4
  mask := leField bs (10 + 10 * t) 4

/-- A wake entry of 44 bytes; absent for an empty entry, or for CLEAR (R206). Bits 3 to 7 of its byte 0 are ignored (DESIGN
CHOICE, log entry 76). -/
def wakeOfBytes (bs : List Byte) : Option WakeDef :=
  if (byteAt bs 0).getLsbD 0 then
    some {
      enabled := (byteAt bs 0).getLsbD 1
      hold := (byteAt bs 0).getLsbD 2
      action := actionOfCode (byteAt bs 1).toNat
      bays := baysOfByte (byteAt bs 2)
      terms := (List.range (byteAt bs 3).toNat).map (termOfBytes bs) }
  else none

/-! ## The request record (R202) -/

/-- A block request as its 64-byte record lays it out (R202). -/
def blockOfRecord (k : Kind) (r : List Byte) : Cmd :=
  let window := (byteAt r 4).toNat
  let offset := leField r 8 8
  let count := leField r 16 2
  let bufList := leField r 24 8
  let mb := (byteAt r 1).getLsbD 0
  match k with
  | .read => .read window offset count bufList mb
  | .write => .write window offset count bufList mb
  | _ => .flush window mb

/-- A command as the bytes of its operands spell it: by the layouts of R205 and R206 where they give one, and by the
free value `Config.operandFields` where chapter 12 gives none. Operands shorter than the layout read as 0 where they end
(DESIGN CHOICE, log entry 48); bits 1 to 7 of BAY_QUERY's flags are ignored (DESIGN CHOICE, log entry 76), and so are operand bytes
beyond the layout (DESIGN CHOICE, log entry 82). With CLEAR, the other bits and bytes of WAKE_ENTRY_SET's entry are ignored as an
empty entry's are (DESIGN CHOICE, log entry 91). The block requests have no operands: their records are read by `blockOfRecord`, and a frame
of theirs is DENIED. -/
def cmdOfOperands (k : Kind) (ops : List Byte) : Cmd :=
  let f := Config.operandFields k ops
  match k with
  | .read => .read 0 0 0 0 false
  | .write => .write 0 0 0 0 false
  | .flush => .flush 0 false
  | .sleep => .sleep f.target
  | .resume => .resume
  | .frameFetch => .frameFetch
  | .windowDefine => .windowDefine f.window
  | .windowDelete => .windowDelete f.index
  | .replaceMember => .replaceMember f.index f.which f.bay f.base
  | .windowInfo => .windowInfo f.namedIndex
  | .bayInfo => .bayInfo f.bay
  | .baySpin => .baySpin f.bay
  | .bayStop => .bayStop f.bay
  | .bayClear => .bayClear f.bay
  | .bayQuery => .bayQuery (byteAt ops 0).toNat ((byteAt ops 1).getLsbD 0)
  | .profileSet => .profileSet f.profile
  | .budgetSet => .budgetSet f.b f.bLow
  | .patrolSet => .patrolSet f.patrol
  | .wakeEntrySet =>
    let body := wakeOfBytes (ops.drop 1)
    .wakeEntrySet { entry := (byteAt ops 0).toNat, clear := body.isNone, body := body }
  | .stationSet => .stationSet f.station
  | .alarmSet => .alarmSet f.alarm
  | .alarmClear => .alarmClear f.id f.all
  | .timeSet => .timeSet f.time
  | .status => .status (leField ops 0 2)
  | .noticeClear => .noticeClear (BitVec.ofNat 16 (leField ops 0 2))
  | .boxWake => .boxWake
  | .forceDormant => .forceDormant
  | .configSave => .configSave
  | .configLoad => .configLoad
  | .mpMode => .mpMode (if byteAt ops 0 = 0 then some .hold else if byteAt ops 0 = 1 then some .notify else none)
  | .restart => .restart f.inputs

/-- What a fetched record asks for (R176, R177, R202): a command, or an answer at once. -/
inductive RecordAsk where
  | command (c : Cmd)
  | refuse (st : Status)
  deriving DecidableEq, Repr, Inhabited

/-- The tag of a record (R202). -/
def recordTag (r : List Byte) : Tag := BitVec.ofNat 16 (leField r 2 2)

/-- The port's part of a PP record: its tag and answer buffer (R202). -/
def recordVia (r : List Byte) : Via := .pp (recordTag r) (leField r 24 8) (leField r 32 2)

/-- Whether a kind is a block request, whose fields stand in its record (R202). -/
def isBlock : Kind → Bool
  | .read | .write | .flush => true
  | _ => false

/-- The address and length of the read of a record's operands, where the PP reads them from SP memory: for a kind it may
issue, other than a block request, with an operand length of 25 to 1024 (R202). -/
def operandRead (r : List Byte) : Option (Nat × Nat) :=
  let len := leField r 16 2
  match kindOfCode (byteAt r 0) with
  | none => none
  | some k =>
    if ppMayIssue k ∧ !isBlock k ∧ Config.inlineOperands < len ∧ len ≤ Config.maxOperands then
      some (leField r 8 8, len)
    else none

/-- What a record of 64 bytes, with its operands as SP memory gives them, asks of the PP (R177, R202). A kind the PP may not issue
is DENIED whatever its operand length (DESIGN CHOICE, log entry 79). -/
def askOfRecord (r : List Byte) (ops : OperandRead) : RecordAsk :=
  match kindOfCode (byteAt r 0) with
  | none => .refuse .badRequest
  | some k =>
    if !ppMayIssue k then .refuse .denied
    else if isBlock k then .command (blockOfRecord k r)
    else
      let len := leField r 16 2
      if len > Config.maxOperands then .refuse .badRequest
      else if len ≤ Config.inlineOperands then .command (cmdOfOperands k (((r.drop 40).take 24).take len))
      else
        match ops with
        | .error => .refuse .transferError
        | .bytes b => .command (cmdOfOperands k (b.take len))

/-- What a record of 64 bytes asks of the DP (R183, R202): its operand and answer buffer fields are not read, and a
WINDOW_INFO asks for the list whatever its operands (R16). -/
def askOfDpRecord (r : List Byte) : RecordAsk :=
  match kindOfCode (byteAt r 0) with
  | none => .refuse .badRequest
  | some k =>
    if isBlock k then .command (blockOfRecord k r)
    else if dpMayIssue k then .command (.windowInfo none)
    else .refuse .denied

/-! ## The command frame (R189, R190, R205) -/

/-- The operand length a command frame gives. -/
def frameOperands (f : List Byte) : Nat := leField f 2 2

/-- Whether a write transaction brings a whole frame: at least 5 + L bytes (R189, R205). -/
def wholeFrame (f : List Byte) : Bool := decide (5 + frameOperands f ≤ f.length)

/-- Whether a whole frame's check byte agrees with its other bytes; bytes beyond 5 + L are ignored (R190, R205). -/
def frameAgrees (f : List Byte) : Bool :=
  byteAt f (4 + frameOperands f) == checkByte (f.take (4 + frameOperands f))

/-- What a whole frame asks of the management port (R190, R205): BAD_REQUEST for a bad check byte or a code that names no
command, and, as on the PP, for an operand length above 1024 (log entry 54). -/
def askOfFrame (f : List Byte) : RecordAsk :=
  if !frameAgrees f ∨ Config.maxOperands < frameOperands f then .refuse .badRequest
  else
    match kindOfCode (byteAt f 0) with
    | none => .refuse .badRequest
    | some k => .command (cmdOfOperands k ((f.drop 4).take (frameOperands f)))

/-! ## Answers, completions and reply frames (R203, R205) -/

/-- The bytes of an answer: the 3-byte load answer where R205 gives it, the free value otherwise, never longer than an
answer length can say (R188). -/
def bytesOfAnswer : Answer → List Byte
  | .nothing => []
  | .failing _ => []
  | .load r => loadBytes r
  | a => (Config.answerBytes a).take Config.maxAnswer

/-- Whether an answer lies in the answer buffer on the PP (R203): the four kinds whose answer is longer than the
completion record. The answer length of a completion is theirs alone, and 0 for the answers that stand in the result bytes
(DESIGN CHOICE, log entry 75). -/
def inBuffer : Answer → Bool
  | .window _ | .windowFree _ | .windowList _ | .dpWindowList _ | .bay _ | .status _ | .resume _ => true
  | _ => false

/-- The source byte of a held frame: its entry, or 0xFF for SUMMONS (R203). -/
def sourceByte : Option (Fin 24) → Byte
  | some e => BitVec.ofNat 8 e.val
  | none => 0xFF

/-- The result bytes 8 to 15 of a completion (R203). A byte that R203 gives no field is 0, and so is the time of an alarm that
does not stand in the list (DESIGN CHOICE, log entry 83). -/
def resultBytes : Answer → List Byte
  | .failing o => leBytes 8 o
  | .frame len src time still => leBytes 2 len ++ [sourceByte src, BitVec.ofNat 8 still] ++ leBytes 4 time
  | .frameRange len => leBytes 2 len ++ leBytes 6 0
  | .alarmSet id (some t) => [BitVec.ofNat 8 id.val, 1, 0, 0] ++ leBytes 4 t
  | .alarmSet id none => [BitVec.ofNat 8 id.val] ++ leBytes 7 0
  | .alarmsCleared n => [BitVec.ofNat 8 n] ++ leBytes 7 0
  | _ => leBytes 8 0

/-- The flag byte of a completion record: bit 0 phase, bit 1 DP_ATTACH (R203). -/
def flagByte (phase dpAttach : Bool) : Byte := BitVec.ofNat 8 ((if phase then 1 else 0) + (if dpAttach then 2 else 0))

/-- The 16 bytes of a completion record (R203). -/
def completionBytes (c : Completion) (phase dpAttach : Bool) : List Byte :=
  leBytes 2 c.tag.toNat ++ [statusByte c.status, flagByte phase dpAttach] ++ leBytes 4 c.answerLen ++ c.result

/-- A reply frame with its check byte (R205). -/
def replyFrame (r : Reply) : List Byte :=
  let body := [r.seq, statusByte r.status] ++ leBytes 4 r.length ++ r.bytes
  body ++ [checkByte body]

end Sys2Proof.Machine
end

