-- ==== Sys2Proof/Machine/Flags.lean ====
section
/-! DEFINITION. The values the manual computes from others in the same event: severity of results, budget in force,
committed draw, quietness, slot counts, rail levels, attention line, status code. Nothing here changes the state. -/

namespace Sys2Proof.Machine

open Sys2Proof

/-! ## Results (R40) -/

/-- The rank of a fragment result, 1 the most severe (R40). -/
def severity : Status → Nat
  | .bayAbsent => 1 | .bayFault => 2 | .memberForeign => 3 | .staleCopy => 4 | .timeout => 5 | .media => 6
  | .okDegraded => 7 | .okRecovered => 8 | _ => 9

/-- The more severe of two results. -/
def worse (a b : Status) : Status := if severity a ≤ severity b then a else b

/-- The most severe of some results; OK where there is none. -/
def worst (l : List Status) : Status := l.foldl worse .ok

/-- The smaller of a failing offset kept so far and a new one (R39). -/
def lowerOffset : Option Nat → Nat → Option Nat
  | none, n => some n
  | some m, n => some (min m n)

/-- A counter that saturates at `m` (section 0.10). -/
def bump (m n : Nat) : Nat := if n < m then n + 1 else n

/-- The first check that fails gives the answer (section 0.12). -/
def firstRefusal : List (Bool × Status) → Option Status
  | [] => none
  | c :: cs => if c.1 then firstRefusal cs else some c.2

/-- The bays, in number order. -/
def allBays : List (Fin 4) := [0, 1, 2, 3]

/-- The windows, in index order. -/
def allWindows : List (Fin 16) := [0, 1, 2, 3, 4, 5, 6, 7, 8, 9, 10, 11, 12, 13, 14, 15]

/-- The bay a number names, if any. -/
def bayOf (n : Nat) : Option (Fin 4) := if h : n < 4 then some ⟨n, h⟩ else none

/-- The window an index names, if any. -/
def windowOf (n : Nat) : Option (Fin 16) := if h : n < 16 then some ⟨n, h⟩ else none

/-- A bay set, in number order (DESIGN CHOICE, log entry 29). -/
def baySet (l : List Nat) : List (Fin 4) := allBays.filter fun b => b.val ∈ l

namespace Part

/-- The box clock's counter, which every recorded time takes (R163). -/
def now (p : Part) : Nat := p.clock.counter

/-- The record of bay `b`. -/
def bay (p : Part) (b : Fin 4) : Bay := p.bays[b]

/-- The record of window `w`. -/
def window (p : Part) (w : Fin 16) : Window := p.windows[w]

/-- Whether the boot mode is READ_ONLY. -/
def readOnly (p : Part) : Bool := p.loader.mode == .readOnly

/-- Whether the boot mode is SERVICE. -/
def service (p : Part) : Bool := p.loader.mode == .service

/-! ## Power (R71, R78, R82, R86, R89) -/

/-- The budget in force (R71). -/
def bEff (p : Part) : Nat := if p.power.lowAsserted then p.power.bLow else p.power.budget

end Part

/-- The draw counted for a bay in its present state, by its figures in use (R75, R78). -/
def bayDraw (x : Bay) : Nat :=
  match x.inUse with
  | none => 0
  | some f =>
    match x.power with
    | .absent | .off | .fault => 0
    | .waiting => if x.waitingFrom = some .standby then f.pStby else 0
    | .starting => f.pUp
    | .ready | .stopping => f.pRun
    | .standby => f.pStby

/-- The SP's draw (R78, R79). -/
def spDraw (c : PowerCtl) : Nat :=
  if c.spRail then
    match c.spInUse with
    | none => 0
    | some f => if c.tSpLeft.isSome then f.sUp else f.sRun
  else 0

/-- A bay is quiet when it is READY with an empty queue, nothing in flight and no health read pending (R86). -/
def Bay.quiet (x : Bay) : Bool :=
  x.power == .ready && x.queue.isEmpty && x.inFlight == .nothing && !x.healthPending

/-- Whether a bay's rail enable is on (R89, R50). -/
def Bay.railOn (x : Bay) : Bool :=
  match x.power with
  | .starting | .ready | .stopping | .standby => true
  | .waiting => x.waitingFrom == some .standby
  | .absent | .off | .fault => false

/-- Whether every fragment of a routed request has a result (R39). -/
def allResults (r : Request) : Bool := r.routed && r.frags.all fun f => f.result.isSome

/-- Whether a request leaves AT_BAYS: every fragment has a result, no recorded entry is waited on and no second FLUSH is
owed (R39, R103). -/
def leavesBays (r : Request) : Bool :=
  (r.life == .atBays || r.life == .routing) && allResults r && r.waits.isEmpty && r.second.isEmpty

/-- Whether a waiter heads a list, or the list is empty (R37). -/
def mayPlace (l : List Waiter) (w : Waiter) : Bool :=
  match l with
  | [] => true
  | x :: _ => x == w

namespace Part

/-- The committed draw C (R78). -/
def committedDraw (p : Part) : Nat :=
  bayDraw (p.bay 0) + bayDraw (p.bay 1) + bayDraw (p.bay 2) + bayDraw (p.bay 3) + spDraw p.power

/-- The increase Δ the start of an entry asks for: its start draw less its draw now, negative where a profile set since
makes the start draw the lower (R77, R82). -/
def startDelta (p : Part) : StartEntry → Int
  | .sp => p.power.spProfile.sUp
  | .bay b =>
    let x := p.bay b
    if x.waitingFrom = some .standby then (x.profile.pUp : Int) - bayDraw x else x.profile.pUp

/-- The admission test on the head of the start queue (R82). -/
def admits (p : Part) : Bool :=
  match p.power.startQueue with
  | [] => false
  | e :: _ => decide (p.committedDraw ≤ p.bEff ∧ p.startDelta e ≤ (p.bEff : Int) - p.committedDraw)

/-! ## The pool (R32) -/

/-- The number of free slots. -/
def freeSlots (p : Part) : Nat := p.router.pool.count .free

/-- The number of slots the copy engine holds. -/
def engineSlots (p : Part) : Nat := p.router.pool.count .engine

/-- The number of slots requests hold, the dropped ones with an operation in flight included. -/
def requestSlots (p : Part) : Nat := p.router.pool.countP fun h => match h with | .request _ => true | _ => false

/-! ## Outputs that follow the state (R192, R201) -/

/-- The condition of the attention line (R192). -/
def attentionLine (p : Part) : Bool :=
  (p.mp.st == .replyReady && (p.mp.mode == .notify || p.mp.late)) || !p.mp.notices.isEmpty

/-- The code of a box state, 1 while it is absent (R201 rank 6). -/
def boxCode : Option BoxState → Nat
  | none => 1
  | some .run => 3
  | some .draining => 4
  | some .sleep => 5
  | some .dormant => 6
  | some .waking => 7

/-- The status code: the highest-ranking condition present (R201), 0 while the POR line is held (R195). -/
def codeNow (p : Part) : Nat :=
  if p.held then 0
  else if p.box.noResume then 8
  else if allBays.any fun b => (p.bay b).power == .fault then 9
  else if p.loader.cfgBad then 2
  else if p.power.lowAsserted then 10
  else if p.service then 11
  else boxCode p.box.st

/-- Whether the PP fetches a record (R176). -/
def mayFetch (p : Part) : Bool :=
  p.pp.setup == .set && p.pp.fetchPos != p.pp.tail
    && (p.box.st == some .run || (p.box.st == some .waking && p.power.spRail))
    && decide (p.pp.owed < Config.ppLimit) && p.pp.list.isEmpty

/-- Whether the DP takes a record (R182, R183). -/
def mayTake (p : Part) : Bool :=
  p.dp.attached && p.box.st.isSome && p.dp.out == .record && decide (p.dp.owed < Config.dpLimit)

/-- The completions written into the PP ring and not yet read (R175). -/
def unread (p : Part) : Nat := (p.pp.compPos + p.pp.compSize - p.pp.head) % p.pp.compSize

/-- Whether the completion ring has room (R179). -/
def ringRoom (p : Part) : Bool := decide (p.unread + 1 < p.pp.compSize)

end Part

end Sys2Proof.Machine
end

