-- ==== Sys2Proof/Machine/Ops.lean ====
section
/-! DEFINITION. The shared operations over the state: slot contents, slots, notices, answers and completions, start
requests, faults records. Every later file of Machine/ writes the state through these and plain record updates. -/

namespace Sys2Proof.Machine

open Sys2Proof

/-! ## Slot contents (R32, R61): a canonical list of cells; an unlisted byte reads as 0 (log entry 7) -/

/-- The canonical form: addresses strictly rising, no cell holding the value an unlisted address reads as. -/
abbrev memWf (m : List Host.Cell) : Prop := m.Pairwise (fun x y => x.1 < y.1) ∧ ∀ c ∈ m, c.2 ≠ 0

/-- The byte at an address. -/
def readByte : List Host.Cell → Nat → Byte
  | [], _ => 0
  | c :: m, a => if c.1 = a then c.2 else readByte m a

/-- Write a byte, keeping the canonical form. -/
def writeByte : List Host.Cell → Nat → Byte → List Host.Cell
  | [], a, v => if v = 0 then [] else [(a, v)]
  | c :: m, a, v =>
    if a < c.1 then (if v = 0 then c :: m else (a, v) :: c :: m)
    else if a = c.1 then (if v = 0 then m else (a, v) :: m)
    else c :: writeByte m a v

/-- The address of byte `i` of a run of slots, in slot order. -/
def slotAddr (slots : List Nat) (i : Nat) : Option Nat :=
  (slots[i / Config.blockBytes]?).map fun s => Config.blockBytes * s + i % Config.blockBytes

/-- Write bytes into a run of slots from byte `i` of the run on; bytes beyond the run are discarded. -/
def writeStream (slots : List Nat) : List Host.Cell → Nat → List Byte → List Host.Cell
  | m, _, [] => m
  | m, i, b :: bs =>
    match slotAddr slots i with
    | none => m
    | some a => writeStream slots (writeByte m a b) (i + 1) bs

/-- The 4096 bytes of slot `s`. -/
def readSlot (m : List Host.Cell) (s : Nat) : List Byte :=
  (List.range Config.blockBytes).map fun i => readByte m (Config.blockBytes * s + i)

/-- The bytes of a run of slots. -/
def readSlots (m : List Host.Cell) (slots : List Nat) : List Byte := slots.flatMap (readSlot m)

/-- The listed cells of slot `s` by their place in it: equal for two slots exactly where their bytes are equal. -/
def slotCells (m : List Host.Cell) (s : Nat) : List Host.Cell :=
  (m.filter fun c => decide (Config.blockBytes * s ≤ c.1 ∧ c.1 < Config.blockBytes * (s + 1))).map
    fun c => (c.1 - Config.blockBytes * s, c.2)

/-! ## Slots (R32, R33) -/

/-- Give the holder the first `need` free slots from slot `i` on: the pool after it and the numbers given. The manual
leaves the choice to the pool (log entry 8). -/
def takeSlots (h : Holder) : Nat → Nat → List Holder → List Holder × List Nat
  | 0, _, l => (l, [])
  | _ + 1, _, [] => ([], [])
  | n + 1, i, .free :: l =>
    let r := takeSlots h n (i + 1) l
    (h :: r.1, i :: r.2)
  | n + 1, i, x :: l =>
    let r := takeSlots h (n + 1) (i + 1) l
    (x :: r.1, r.2)

/-- Free the holder's slots from slot `i` on, except the slots named in `keep`. -/
def freeSlotsOf (h : Holder) (keep : List Nat) : Nat → List Holder → List Holder
  | _, [] => []
  | i, x :: l => (if x = h ∧ i ∉ keep then .free else x) :: freeSlotsOf h keep (i + 1) l

namespace Part

/-- Replace bay `b`'s record by `f` of it. -/
def modBay (b : Fin 4) (f : Bay → Bay) (p : Part) : Part := { p with bays := p.bays.set b (f (p.bay b)) }

/-- Replace window `w`'s record by `f` of it. -/
def modWindow (w : Fin 16) (f : Window → Window) (p : Part) : Part :=
  { p with windows := p.windows.set w (f (p.window w)) }

/-- Apply `f` to every bay's record. -/
def modBays (f : Bay → Bay) (p : Part) : Part :=
  allBays.foldl (fun q b => q.modBay b f) p

/-- The request record of a name. -/
def request? (p : Part) (id : Nat) : Option Request := p.router.requests.find? fun r => r.id == id

/-- The dropped request of a name. -/
def dropped? (p : Part) (id : Nat) : Option Request := p.router.dropped.find? fun r => r.id == id

/-- Replace a request record, live or dropped, by `f` of it. -/
def modRequest (id : Nat) (f : Request → Request) (p : Part) : Part :=
  { p with router := { p.router with
      requests := p.router.requests.map fun r => if r.id = id then f r else r
      dropped := p.router.dropped.map fun r => if r.id = id then f r else r } }

/-- Replace fragment `k` of a request by `f` of it. -/
def modFrag (id k : Nat) (f : Fragment → Fragment) (p : Part) : Part :=
  p.modRequest id fun r =>
    match r.frags[k]? with
    | none => r
    | some x => { r with frags := r.frags.set k (f x) }

/-- Note the requests that have come to leave AT_BAYS since the last note, in the order of acceptance (R41; log entry
53). -/
def markEnded (p : Part) : Part :=
  { p with router := { p.router with
      ended := p.router.ended
        ++ ((p.router.requests.filter fun r => leavesBays r && !p.router.ended.contains r.id).map fun r => r.id) } }

/-- Put something out. -/
def emit (o : Output) (p : Part) : Part := { p with out := p.out ++ [o] }

/-- Free the slots a holder holds, except those named. -/
def releaseSlots (h : Holder) (keep : List Nat) (p : Part) : Part :=
  { p with router := { p.router with pool := freeSlotsOf h keep 0 p.router.pool } }

/-- Take a waiter off the slot-wait list. -/
def leaveSlotWait (w : Waiter) (p : Part) : Part :=
  { p with router := { p.router with slotWait := p.router.slotWait.filter fun e => e.who != w } }

/-- Take a waiter off every room-wait list. -/
def leaveRooms (w : Waiter) (p : Part) : Part :=
  p.modBays fun x => { x with roomWait := x.roomWait.filter (· != w) }

/-- Join bay `b`'s room-wait list at the tail, leaving any other, unless already on it (R37, R38). -/
def joinRoom (b : Fin 4) (w : Waiter) (p : Part) : Part :=
  if w ∈ (p.bay b).roomWait then p
  else (p.leaveRooms w).modBay b fun x => { x with roomWait := x.roomWait ++ [w] }

/-! ## Notices (R180, R192) -/

/-- Raise a notice in the notice set of the PP, with its interrupt where the kind is new, the set-up SET and the kind not
masked, and in the notice set of the MP. -/
def raise (k : Notice) (p : Part) : Part :=
  let q : Part := { p with
    pp := { p.pp with notices := if k ∈ p.pp.notices then p.pp.notices else p.pp.notices ++ [k] }
    mp := { p.mp with notices := if k ∈ p.mp.notices then p.mp.notices else p.mp.notices ++ [k] } }
  if k ∉ p.pp.notices ∧ p.pp.setup = .set ∧ k ∉ p.pp.masked then q.emit .noticeInterrupt else q

/-! ## Completions and answers (R41, R177, R179, R184, R190) -/

/-- Hand a completion to the processor port: it joins the internal completion list (R179). Under an unmade set-up there
is no record to complete, and it is discarded (R181). -/
def handPp (c : Completion) (p : Part) : Part :=
  if p.pp.setup = .unset then p else { p with pp := { p.pp with list := p.pp.list ++ [c] } }

/-- Hand a completion to the direct port: it joins the send list at the tail (R184); after a detach it is discarded
(R185). -/
def handDp (answer : Option (List Byte)) (c : Completion) (p : Part) : Part :=
  if p.dp.attached then { p with dp := { p.dp with sendList := p.dp.sendList ++ [.completion answer c] } } else p

/-- Send up to `n` bytes of the reply in the slot from the reply read position; the reply is consumed when its check byte
is sent (R191). -/
def sendReply (n : Nat) (p : Part) : Part :=
  match p.mp.reply with
  | none => p
  | some r =>
    let rest := (replyFrame r).drop p.mp.readPos
    let q := p.emit (.mpBytes (rest.take n))
    if rest.length ≤ n then
      { q with mp := { q.mp with st := .idle, reply := none, late := false, readPos := 0, heldRead := none } }
    else { q with mp := { q.mp with readPos := q.mp.readPos + n, heldRead := none } }

/-- Place a reply to the executing command: the whole answer's length, and its bytes from `first` on up to what the slot
holds (R190, R193). A read transaction held since then is answered from the slot (R191). -/
def placeReply (st : Status) (answer : List Byte) (first : Nat) (p : Part) : Part :=
  if p.mp.st = .executing then
    let r : Reply := {
      seq := p.mp.execSeq, status := st, length := answer.length
      bytes := (answer.drop first).take Config.replyBytes }
    let q : Part := { p with mp := { p.mp with st := .replyReady, execKind := none, reply := some r, readPos := 0 } }
    match p.mp.heldRead with
    | none => q
    | some n => q.sendReply n
  else p

/-- Give a command's answer to whom it is owed. On the PP the answer is written into the answer buffer up to its length
and the completion carries the whole length (R177); on the MP it is placed in the reply slot; on the DP it goes as the
unit ahead of the completion. `first` is the first byte a STATUS through the MP asks for. -/
def answerFrom (first : Nat) (a : Answerer) (st : Status) (ans : Answer) (p : Part) : Part :=
  let bytes := bytesOfAnswer ans
  let len := if inBuffer ans then bytes.length else 0
  match a with
  | .void => p
  | .mp => p.placeReply st bytes first
  | .dp tag => p.handDp (if inBuffer ans then some bytes else none) { tag := tag, status := st, answerLen := len }
  | .pp tag addr bufLen =>
    let q := if inBuffer ans ∧ bufLen ≠ 0 then p.emit (.spWrite addr (bytes.take bufLen)) else p
    q.handPp { tag := tag, status := st, answerLen := len, result := resultBytes ans }

/-- Give a command's answer. -/
def answer (a : Answerer) (st : Status) (ans : Answer) (p : Part) : Part := p.answerFrom 0 a st ans

/-- Give a status with an empty answer. -/
def reply (a : Answerer) (st : Status) (p : Part) : Part := p.answer a st .nothing

/-! ## Starts (R51) and fault records (R64) -/

/-- A start request to bay `b` (R51). While the service hold is set it is ignored. -/
def requestStart (b : Fin 4) (p : Part) : Part :=
  let x := p.bay b
  if x.serviceHold then p
  else
    match x.power with
    | .off =>
      let q := p.modBay b fun x => { x with power := .waiting, waitingFrom := some .off }
      { q with power := { q.power with startQueue := q.power.startQueue ++ [.bay b] } }
    | .standby =>
      let q := p.modBay b fun x => { x with power := .waiting, waitingFrom := some .standby }
      { q with power := { q.power with startQueue := q.power.startQueue ++ [.bay b] } }
    | .stopping => p.modBay b fun x => { x with startAfterStop := true }
    | .absent | .waiting | .starting | .ready | .fault => p

/-- Request the start of each bay named, in order. The bays of a WAKE_SPIN's bay set are named in number order, by `baySet`
(R153, R170; DESIGN CHOICE, log entry 66). -/
def requestStarts (l : List (Fin 4)) (p : Part) : Part := l.foldl (fun q b => q.requestStart b) p

/-- Request the start of bay `b` where it is not READY. -/
def wakeBay (b : Fin 4) (p : Part) : Part := if (p.bay b).power = .ready then p else p.requestStart b

/-- Record an error in bay `b`'s fault record (R64). -/
def recordError (b : Fin 4) (k : ErrorKind) (block : Option Nat) (p : Part) : Part :=
  p.modBay b fun x => { x with
    errorCount := bump 255 x.errorCount
    firstError := x.firstError.orElse fun _ => some { kind := k, block := block, time := p.now } }

/-- Append an operation to bay `b`'s queue, which requests its start (R37, R51). -/
def appendOp (b : Fin 4) (o : BayOp) (p : Part) : Part :=
  (p.modBay b fun x => { x with queue := x.queue ++ [o] }).requestStart b

/-- The drive command that carries out an operation (R61). -/
def driveCmdOf (p : Part) (o : BayOp) : DriveCmd :=
  match o.kind with
  | .read => .readBlocks (8 * o.block) (8 * o.count)
  | .write => .writeBlocks (8 * o.block) (8 * o.count) (readSlots p.router.data o.slots)
  | .flush => .flushCache

/-- Issue the drive command of an operation in flight. -/
def issueOp (b : Fin 4) (o : BayOp) (p : Part) : Part := p.emit (.drive b (p.driveCmdOf o))

end Part

/-- The activity class of an origin (R47). -/
def classOf : Origin → ActClass
  | .pp => .pp
  | .dp => .dp
  | .resync | .repair | .rebuild => .copy
  | .patrol => .patrol

/-- Report a completion of a class to the power controller: the idle counter of the bay is set to 0 where the class is in
its mask (R85). -/
def Part.reportClass (b : Fin 4) (c : ActClass) (p : Part) : Part :=
  p.modBay b fun x => if c ∈ x.profile.mask then { x with idle := 0 } else x

end Sys2Proof.Machine
end

