-- ==== Sys2Proof/Machine/Translate.lean ====
section
/-! DEFINITION. Windows as address maps (chapter 1): extents, translation, reverse mapping, regions. Nothing here changes
the state. -/

namespace Sys2Proof.Machine

open Sys2Proof

/-- The member index of a copy (R2). -/
def sideIndex : Side → Nat
  | .primary => 0
  | .secondary => 1

/-- The other copy. -/
def otherSide : Side → Side
  | .primary => .secondary
  | .secondary => .primary

/-- The copy a member index of a MIRROR window names. -/
def sideOf (m : Nat) : Side := if m = 0 then .primary else .secondary

namespace Window

/-- Member `m` of the window's list. -/
def member (w : Window) (m : Nat) : Member := (w.members[m]?).getD {}

/-- The member that holds a copy. -/
def copy (w : Window) (s : Side) : Member := w.member (sideIndex s)

/-- The number of bay blocks each member's extent holds (R2). -/
def extentLen (w : Window) : Nat :=
  match w.layout with
  | .stripe => w.length / w.members.length
  | .single | .mirror | .whole => w.length

/-- Whether a window is in use, OPEN or CLOSING. -/
def inUse (w : Window) : Bool := w.st != .free

/-- The last region of the window (R111, R119). -/
def lastRegion (w : Window) : Nat := (w.length - 1) / Config.regionBlocks

/-- Whether some member of the window lies on bay `b`. -/
def onBay (w : Window) (b : Fin 4) : Bool := w.members.any fun m => m.bay == b

end Window

/-- Whether the extents [a1, e1) and [a2, e2) share a block (R10). -/
def overlap (a1 e1 a2 e2 : Nat) : Bool := a1 < e2 && a2 < e1

/-- The region of a window offset (R23). -/
def regionOf (x : Nat) : Nat := x / Config.regionBlocks

/-- The regions `o div 4096` to `(o + n - 1) div 4096` that offset `o` and count `n` touch, in order (R23). -/
def touched (o n : Nat) : List Nat :=
  (List.range ((o + n - 1) / Config.regionBlocks + 1 - o / Config.regionBlocks)).map fun i =>
    o / Config.regionBlocks + i

/-- The first window offset of chunk `c` of region `g` (section 0.9). -/
def chunkOffset (g c : Nat) : Nat := g * Config.regionBlocks + c * Config.chunkBlocks

/-- The count of the chunk at `off`: 64, or what lies below the window's length (R23). -/
def chunkCount (w : Window) (off : Nat) : Nat := min Config.chunkBlocks (w.length - off)

/-- The fragments of a STRIPE request by the steps of R21. Each step takes at least one block, so `n` steps suffice. -/
def stripeFragments (w : Window) (u : Nat) : Nat → Nat → Nat → List Fragment
  | 0, _, _ => []
  | fuel + 1, o, n =>
    if n = 0 then []
    else
      let k := o / u
      let r := o % u
      let m := k % w.members.length
      let c := min n (u - r)
      { member := m, bay := (w.member m).bay, block := (w.member m).base + k / w.members.length * u + r
        count := c, first := o } :: stripeFragments w u fuel (o + c) (n - c)

/-- The one fragment of offset `o` and count `n` on member `m`, for a layout without units (R20). -/
def plainFragment (w : Window) (m o n : Nat) : Fragment where
  member := m
  bay := (w.member m).bay
  block := (w.member m).base + o
  count := n
  first := o

/-- The fragments of offset `o` and count `n` in a window that is not MIRROR (R20, R21). -/
def translate (w : Window) (o n : Nat) : List Fragment :=
  match w.layout with
  | .stripe => stripeFragments w (w.unit.getD 1) n o n
  | .single | .mirror | .whole => [plainFragment w 0 o n]

/-- The FLUSH fragment of member `m`: no bay block, no count (R42). -/
def flushFragment (w : Window) (m : Nat) : Fragment where
  member := m
  bay := (w.member m).bay

/-- The window offset that bay block `b` of member `m` holds (R24). -/
def reverseMap (w : Window) (m b : Nat) : Nat :=
  let rel := b - (w.member m).base
  match w.layout with
  | .stripe =>
    let u := w.unit.getD 1
    (rel / u * w.members.length + m) * u + rel % u
  | .single | .mirror | .whole => rel

/-- Whether bay block `b` lies within member `m`'s extent (R24). -/
def inExtent (w : Window) (m b : Nat) : Bool :=
  decide ((w.member m).base ≤ b ∧ b < (w.member m).base + w.extentLen)

/-- The window offset reported for a failing bay block of member `m`: the reverse mapping within the extent (R24, R25), a
free value outside it. -/
def failOffset (w : Window) (m b : Nat) : Nat := if inExtent w m b then reverseMap w m b else Config.strayOffset b

/-- Whether a member's extent fits a capacity, as check 4 of R7 judges it (R9). -/
def fits (w : Window) (m : Member) (capacity : Nat) : Bool :=
  match w.layout with
  | .whole => decide (m.base = 0 ∧ w.length = capacity)
  | .single | .mirror | .stripe => decide (m.base + w.extentLen ≤ capacity)

/-- Whether two extents given as (first, number of blocks) share a block. -/
def sharesBlock (b1 n1 b2 n2 : Nat) : Bool := overlap b1 (b1 + n1) b2 (b2 + n2)

/-! ## A definition's checks (R8 to R10) -/

/-- The member records a definition gives, with no bound serial yet; a bay number above 3 fails R8 before it is used. -/
def memberOf (x : Nat × Nat) : Member where
  bay := (bayOf x.1).getD 0
  base := x.2

/-- The record a definition describes, before its members are bound (R11). A stripe unit is recorded for STRIPE alone, and a
label ends before its first 0x00 (R202). The patrol record is as R4 gives it. -/
def windowOfDef (d : WindowDef) : Window where
  st := .opened
  layout := d.layout.getD .single
  members := d.members.map memberOf
  length := d.length
  unit := if d.layout = some .stripe then d.unit else none
  ppRight := d.ppRight.getD .none
  dpRight := d.dpRight.getD .none
  lazyAttr := d.lazyAttr
  patrolAttr := d.patrolAttr
  wakesAttr := d.wakesAttr
  label := labelOf d.label
  patrol := if d.layout = some .mirror ∧ d.patrolAttr then some {} else none

/-- Whether a definition is well formed (R8). -/
def wellFormedDef (d : WindowDef) : Bool :=
  let n := d.members.length
  let sizes : Bool :=
    match d.layout with
    | none => false
    | some .single | some .whole => n == 1
    | some .mirror => n == 2
    | some .stripe => n == 2 || n == 3 || n == 4
  let units : Bool :=
    match d.layout with
    | some .stripe => d.unit ∈ [some 16, some 32, some 64, some 128, some 256]
    | _ => true
  let labels : Bool :=
    match labelOf d.label with
    | none => true
    | some l => l.length ≤ 12
  sizes
    && d.members.all (fun m => decide (m.1 < 4))
    && decide ((d.members.map (·.1)).Nodup)
    && d.members.all (fun m => decide (m.2 < Config.blockSpace))
    && decide (1 ≤ d.length ∧ d.length ≤ Config.blockSpace)
    && units
    && d.ppRight.isSome && d.dpRight.isSome
    && (d.layout == some .mirror || (!d.lazyAttr && !d.patrolAttr && !d.wakesAttr))
    && (!d.wakesAttr || d.patrolAttr)
    && labels

/-- Whether the new window's extents overlap no extent of the other windows given (check 5 of R7, R10). -/
def noOverlap (w : Window) (others : List Window) : Bool :=
  others.all fun v =>
    !v.inUse || w.members.all fun m => v.members.all fun n =>
      m.bay != n.bay || !sharesBlock m.base w.extentLen n.base v.extentLen

/-- Whether WHOLE windows keep their bays to themselves (check 6 of R7, R10). -/
def wholeAlone (w : Window) (others : List Window) : Bool :=
  others.all fun v =>
    !v.inUse || ((w.layout != .whole || w.members.all fun m => !v.onBay m.bay)
      && (v.layout != .whole || w.members.all fun m => !v.onBay m.bay))

/-- Whether a STRIPE length is a multiple of U × M (check 7 of R7, R10). -/
def stripeLength (w : Window) : Bool :=
  w.layout != .stripe || w.length % (w.unit.getD 1 * w.members.length) == 0

namespace Part

/-- The windows other than `w`, in index order. -/
def otherWindows (p : Part) (w : Fin 16) : List Window :=
  (allWindows.filter (· ≠ w)).map p.window

/-- The windows in use, in index order. -/
def usedWindows (p : Part) : List (Fin 16) := allWindows.filter fun w => (p.window w).inUse

/-- Whether a member's bay holds an identity, and the extent fits its capacity (R9). -/
def memberFits (p : Part) (w : Window) (m : Member) : Bool :=
  match (p.bay m.bay).identity with
  | none => false
  | some i => fits w m i.capacity

/-- The checks of R7 on a definition of index `w`, in order. -/
def defineChecks (p : Part) (w : Fin 16) (d : WindowDef) : List (Bool × Status) :=
  let v := windowOfDef d
  let others := p.otherWindows w
  [((p.window w).st == .free, .busy),
   (wellFormedDef d, .badRequest),
   (v.members.all (fun m => (p.bay m.bay).identity.isSome), .bayUnknown),
   (v.members.all (p.memberFits v), .range),
   (noOverlap v others, .overlap),
   (wholeAlone v others, .overlap),
   (stripeLength v, .badRequest)]

/-- A member bound to the serial of its bay's identity, its foreign flag clear (R11, R19). -/
def bindMember (p : Part) (m : Member) : Member :=
  { m with serial := (p.bay m.bay).identity.map Identity.serial, isForeign := false }

end Part

end Sys2Proof.Machine
end

