-- ==== Sys2Proof/Machine/Mirror.lean ====
section
/-! DEFINITION. The copy engine's records (chapters 5 and 6): the resync log, the high mark, LOST marks, the repair queue,
rebuild cursors, patrol cursors, and the abandoning and ending of chunks. What a chunk's operations lead to stands in
Machine/Chunks.lean. -/

namespace Sys2Proof.Machine

open Sys2Proof

/-- Whether an entry is the log entry of window `w` and region `g`. -/
def LogEntry.isFor (e : LogEntry) (w : Fin 16) (g : Nat) : Bool := e.window == w && e.region == g

/-- The copy that does not hold the current data of a logged region. -/
def LogEntry.stale (e : LogEntry) : Side := otherSide e.good

/-- Whether a repair entry is for a copy of a window. -/
def RepairEntry.isFor (e : RepairEntry) (w : Fin 16) (c : Side) : Bool := e.window == w && e.copy == c

/-- Whether an operation belongs to the current chunk. -/
def BayOp.ofChunk (o : BayOp) : Bool :=
  match o.parent with
  | .chunk _ => true
  | .request _ _ => false

/-- Whether an operation belongs to a request. -/
def BayOp.ofRequest (o : BayOp) (id : Nat) : Bool :=
  match o.parent with
  | .request i _ => i == id
  | .chunk _ => false

namespace Part

/-- Whether a copy of a MIRROR window is usable (R95). -/
def usable (p : Part) (w : Fin 16) (s : Side) : Bool :=
  let m := (p.window w).copy s
  (p.bay m.bay).power != .fault && (p.bay m.bay).power != .absent && !m.isForeign

/-- The bay of a copy. -/
def copyBay (p : Part) (w : Fin 16) (s : Side) : Bay := p.bay ((p.window w).copy s).bay

/-- Whether the bay of a copy is READY. -/
def copyReady (p : Part) (w : Fin 16) (s : Side) : Bool := (p.copyBay w s).power == .ready

/-- The log entry of a window and region. -/
def logEntry? (p : Part) (w : Fin 16) (g : Nat) : Option LogEntry := p.engine.log.find? fun e => e.isFor w g

/-- Whether a region is logged. -/
def logged (p : Part) (w : Fin 16) (g : Nat) : Bool := p.engine.log.any fun e => e.isFor w g

/-- The log entries of the regions given. -/
def loggedAmong (p : Part) (w : Fin 16) (gs : List Nat) : List LogEntry :=
  p.engine.log.filter fun e => e.window == w && e.region ∈ gs

/-- Set the copy engine to seek its next job in this event (R105). -/
def seekNext (p : Part) : Part := { p with engine := { p.engine with seek := true } }

/-- Replace the log. -/
def setLog (l : List LogEntry) (p : Part) : Part := { p with engine := { p.engine with log := l } }

/-- Replace the entry of a window and region by `f` of it. -/
def modEntry (w : Fin 16) (g : Nat) (f : LogEntry → LogEntry) (p : Part) : Part :=
  p.setLog (p.engine.log.map fun e => if e.isFor w g then f e else e)

/-! ## The high mark (R94) -/

/-- The starts R94 requests for the oldest entry that can be resynced; none in READ_ONLY boot mode. The primary's bay is asked
ahead of the secondary's (DESIGN CHOICE, log entry 59). -/
def markStarts (p : Part) : Part :=
  if p.readOnly then p
  else
    match p.engine.log.find? fun e => !e.unreadable && (p.window e.window).inUse with
    | none => p
    | some e =>
      (p.wakeBay ((p.window e.window).copy .primary).bay).wakeBay ((p.window e.window).copy .secondary).bay

/-- The high-mark state follows the entry count; its rise raises RESYNC_HIGH and requests the starts (R94). -/
def followMark (p : Part) : Part :=
  let above := decide (Config.highMark ≤ p.engine.log.length)
  let q : Part := { p with engine := { p.engine with above := above } }
  if above ∧ !p.engine.above then (q.raise .resyncHigh).markStarts else q

/-! ## Logging (R93) -/

/-- Whether the log has room for the regions of `gs` that have no entry (R93). -/
def logRoom (p : Part) (w : Fin 16) (gs : List Nat) : Bool :=
  decide ((gs.filter fun g => !p.logged w g).length ≤ Config.logLimit - p.engine.log.length)

/-- A new entry (R93). -/
def newEntry (p : Part) (w : Fin 16) (good : Side) (g : Nat) : LogEntry :=
  { window := w, region := g, good := good, logged := p.now }

/-- Log regions of a window with a good copy (R93): absent where the log has no room. Nothing is done, and no fallback
applies, while the window has a lost member. -/
def tryLog (w : Fin 16) (gs : List Nat) (good : Side) (p : Part) : Option Part :=
  if (p.window w).lost.isSome then some p
  else if p.logRoom w gs then
    let fresh := gs.filter fun g => !p.logged w g
    let kept := p.engine.log.map fun e =>
      if e.window = w ∧ e.region ∈ gs ∧ e.copying then { e with redirtied := true } else e
    let q := (p.setLog (kept ++ fresh.map (p.newEntry w good))).followMark
    some (if fresh.isEmpty then q else q.seekNext)
  else none

/-! ## MIRROR_BOTH flushes told of an entry (R103) -/

/-- Tell the flushes that wait on a region that its entry has gone or become unreadable: each notes a status and stops
waiting on it; where the entry left by its region copy's end, the stale copy is owed a second FLUSH. A flush that waits on
nothing more and is owed no second FLUSH has come to leave AT_BAYS. Second FLUSH operations are owed in the order in which their
entries left the log (DESIGN CHOICE, log entry 78). -/
def tellFlushes (w : Fin 16) (g : Nat) (note : Status) (stale : Option Side) (failing : Option Nat) (p : Part) : Part :=
  ({ p with router := { p.router with
      requests := p.router.requests.map fun r =>
        if r.window = w ∧ r.kind = .flush ∧ g ∈ r.waits then
          { r with
            waits := r.waits.erase g
            notes := r.notes ++ [note]
            failing := match failing with
              | none => r.failing
              | some o => lowerOffset r.failing o
            second := match stale with
              | none => r.second
              | some s => if s ∈ r.second then r.second else r.second ++ [s] }
        else r } } : Part).markEnded

/-! ## Chunks abandoned and ended (R34, R106) -/

/-- Whether an operation of the current chunk is queued or in flight. -/
def chunkLive (p : Part) : Bool :=
  allBays.any fun b =>
    (p.bay b).queue.any BayOp.ofChunk || (match (p.bay b).inFlight with | .op o => o.ofChunk | _ => false)

/-- Whether the current chunk is still at work on the window of bay `b`: in progress and not abandoned (R105, R126). -/
def chunkWorksOn (p : Part) (b : Fin 4) : Bool :=
  match p.engine.chunk with
  | none => false
  | some c => !c.abandoned && (p.window c.window).onBay b

/-- Whether a log entry's resync is the work of a chunk (R107). -/
def copiesEntry (c : Option Chunk) (e : LogEntry) : Bool :=
  match c with
  | none => false
  | some c => c.kind == .resync && e.isFor c.window (regionOf c.offset)

/-- Whether a window's rebuild is the work of a chunk (R111). -/
def rebuildsWindow (c : Option Chunk) (w : Fin 16) : Bool :=
  match c with
  | none => false
  | some c => c.kind == .rebuild && c.window == w

/-- Abandon the current chunk: its slot-wait entry is withdrawn, its queued operations removed, its pause ended. It ends
when no operation of it remains in flight (R106). -/
def abandonChunk (p : Part) : Part :=
  match p.engine.chunk with
  | none => p
  | some c =>
    let q := ((p.leaveSlotWait .engine).leaveRooms .engine).modBays fun x =>
      { x with queue := x.queue.filter fun o => !o.ofChunk }
    { q with engine := { q.engine with chunk := some { c with abandoned := true, todo := [], paused := false } } }

/-- End the current chunk: its slots are freed (R34), a repair's entry has no piece in progress, and the engine seeks its
next job (R105). -/
def endChunk (p : Part) : Part :=
  let q := p.releaseSlots .engine []
  { q with engine := { q.engine with
      chunk := none
      repairs := q.engine.repairs.map fun e => { e with busy := false }
      seek := true } }

/-- Change the current chunk's record. -/
def modChunk (f : Chunk → Chunk) (p : Part) : Part :=
  { p with engine := { p.engine with chunk := p.engine.chunk.map f } }

/-- An entry whose resync is stopped short: DIRTY, next chunk 0, re-dirtied flag clear (R108). -/
def dirtyEntry (e : LogEntry) : LogEntry := { e with copying := false, next := 0, redirtied := false }

/-- Stop the current chunk short as a bay leaving READY does: the effect on its work is that of its kind (R108, R109,
R111, R126), and the chunk is abandoned. After a TIMEOUT or a MEMBER_FOREIGN too, the work of the current chunk alone is set back
(DESIGN CHOICE, log entry 70). -/
def stopChunk (p : Part) : Part :=
  match p.engine.chunk with
  | none => p
  | some c =>
    if c.abandoned then p
    else
      let q := match c.kind with
        | .resync => p.modEntry c.window (regionOf c.offset) dirtyEntry
        | .repair => p
        | .rebuild => p.modWindow c.window fun w => { w with rebuildChunk := 0 }
        | .patrol => p.modWindow c.window fun w => { w with due := true }
      q.abandonChunk

/-! ## LOST marks (R95) -/

/-- What a LOST mark does at once to the current chunk of window `w`: a resync or repair chunk is abandoned (R95 step 4), and
nothing is done to a compare chunk (R121). R34 would take the entry of one that waits for its slots off the slot-wait list; which
of R34 and R121 holds there is the free value `Config.lostUnlistsCompare` (log entry 68). -/
def withdrawChunk (w : Fin 16) (p : Part) : Part :=
  match p.engine.chunk with
  | none => p
  | some c =>
    if c.window ≠ w then p
    else
      match c.kind with
      | .resync | .repair => p.abandonChunk
      | .patrol =>
        if !c.abandoned ∧ c.phase = .slotWait ∧ Config.lostUnlistsCompare then p.leaveSlotWait .engine else p
      | .rebuild => p

/-- Mark the member that holds copy `s` of window `w` LOST (R95). -/
def markLost (w : Fin 16) (s : Side) (p : Part) : Part :=
  if (p.window w).lost.isSome then p
  else
    let gone := p.engine.log.filter fun e => e.window == w
    let orphans := (gone.filter fun e => e.good == s).length
    let p1 := p.modWindow w fun v => { v with lost := some s, orphaned := min 65535 (v.orphaned + orphans) }
    let p2 := p1.setLog (p1.engine.log.filter fun e => e.window != w)
    let p3 := gone.foldl (fun q e => q.tellFlushes w e.region .okDegraded none none) p2
    let p4 := ({ p3 with router := { p3.router with
        requests := p3.router.requests.map fun r =>
          if r.window = w then { r with second := r.second.filter (· != s) } else r } } : Part).markEnded
    let p5 : Part := { p4 with engine := { p4.engine with
        repairs := p4.engine.repairs.filter fun e => e.window != w } }
    ((p5.withdrawChunk w).raise .memberLost).followMark

/-- Log regions with a good copy; where the log has no room, mark the other copy's member LOST (R97, R100, R109). -/
def logOrLose (w : Fin 16) (gs : List Nat) (good : Side) (p : Part) : Part :=
  match p.tryLog w gs good with
  | some q => q
  | none => p.markLost w (otherSide good)

/-! ## The repair queue (R104) -/

/-- Add a repair of `n` blocks at offset `o` of a copy (R104); absent where the queue cannot take it. Where several entries
overlap or adjoin the extent, the first of them in queue order that the union keeps within 256 blocks takes it (DESIGN CHOICE,
log entry 43). -/
def tryRepair (w : Fin 16) (c : Side) (o n : Nat) (p : Part) : Option Part :=
  let setRepairs (l : List RepairEntry) : Part := { p with engine := { p.engine with repairs := l } }
  let joins (e : RepairEntry) : Bool :=
    e.isFor w c && !e.busy && decide (o ≤ e.offset + e.count ∧ e.offset ≤ o + n)
      && decide (max (o + n) (e.offset + e.count) - min o e.offset ≤ Config.repairBlocks)
  if p.engine.repairs.any fun e => e.isFor w c && decide (e.next ≤ o ∧ o + n ≤ e.offset + e.count) then some p
  else
    match p.engine.repairs.findIdx? joins with
    | some i =>
      match p.engine.repairs[i]? with
      | none => none
      | some e =>
        some (setRepairs (p.engine.repairs.set i { e with
          offset := min o e.offset
          count := max (o + n) (e.offset + e.count) - min o e.offset
          next := min e.next o }))
    | none =>
      if p.engine.repairs.length < Config.repairLimit then
        some (setRepairs (p.engine.repairs ++ [{ window := w, copy := c, offset := o, count := n, next := o }])).seekNext
      else none

/-- Whether a repair queue entry for a copy overlaps an extent (R96, R97). -/
def repairOverlaps (p : Part) (w : Fin 16) (c : Side) (o n : Nat) : Bool :=
  p.engine.repairs.any fun e => e.isFor w c && sharesBlock e.offset e.count o n

/-- Queue a repair of copy `c`; where the queue cannot take it, log the regions with the other copy as good; where the
log has no room, mark the member LOST (R97, R125). -/
def repairOrLog (w : Fin 16) (c : Side) (o n : Nat) (p : Part) : Part :=
  match p.tryRepair w c o n with
  | some q => q
  | none => p.logOrLose w (touched o n) (otherSide c)

/-! ## Rebuilds (R110, R112) -/

/-- Start a rebuild of a window with a lost member, if it is OPEN, has no rebuild cursor, and the boot mode is not
READ_ONLY (R110). -/
def startRebuild (w : Fin 16) (p : Part) : Part :=
  let v := p.window w
  if v.st = .opened ∧ v.lost.isSome ∧ v.cursor.isNone ∧ !p.readOnly then
    (p.modWindow w fun v => { v with cursor := some 0, rebuildChunk := 0 }).seekNext
  else p

/-- Abandon a window's rebuild (R112); nothing where none runs. -/
def abandonRebuild (w : Fin 16) (p : Part) : Part :=
  if (p.window w).cursor.isNone then p
  else
    let p1 := match p.engine.chunk with
      | some c => if c.window = w ∧ c.kind = ChunkKind.rebuild then p.abandonChunk else p
      | none => p
    (p1.modWindow w fun v => { v with cursor := none, rebuildChunk := 0 }).raise .memberLost

/-! ## A bay's READY state as the engine follows it (R47) -/

/-- The region copies of the windows on bay `b` go back to their start, but for the work of the chunk `kept`: a COPYING entry
becomes DIRTY (R108), a rebuild goes to chunk 0 of the region at its cursor (R111). -/
def restartCopies (b : Fin 4) (kept : Option Chunk) (p : Part) : Part :=
  allWindows.foldl (fun q w =>
    if (q.window w).cursor.isSome ∧ (q.window w).onBay b ∧ !rebuildsWindow kept w then
      q.modWindow w fun v => { v with rebuildChunk := 0 } else q)
    (p.setLog (p.engine.log.map fun e =>
      if e.copying ∧ (p.window e.window).onBay b ∧ !copiesEntry kept e then dirtyEntry e else e))

/-- Bay `b` has left READY: resyncs of its windows are stopped short (R108), rebuilds lose their chunk's progress (R111),
and the current chunk on the bay is abandoned (R106, R126). -/
def bayLeavesReady (b : Fin 4) (p : Part) : Part :=
  let q := p.restartCopies b none
  match q.engine.chunk with
  | some c => if (q.window c.window).onBay b then q.stopChunk else q
  | none => q

/-- Bay `b` has left READY by an order of DORMANT (R88, R136). The box's entering DORMANT stops no chunk in progress, which
runs to its end (R105, R126), so a chunk in progress on the bay goes on with its work, its next operation starting the bay
again; anything else of the bay is as at any leaving of READY (DESIGN CHOICE, log entry 49). -/
def bayLeavesForDormant (b : Fin 4) (p : Part) : Part :=
  if p.chunkWorksOn b then p.restartCopies b p.engine.chunk else p.bayLeavesReady b

/-- Bay `b` has entered READY: a LOST member on it with its foreign flag clear starts its window's rebuild (R110), and the
engine seeks its next job (R105). -/
def bayEntersReady (b : Fin 4) (p : Part) : Part :=
  (allWindows.foldl (fun q w =>
    match (q.window w).lost with
    | none => q
    | some s =>
      let m := (q.window w).copy s
      if m.bay = b ∧ !m.isForeign then q.startRebuild w else q) p).seekNext

/-- Bay `b` has entered FAULT or become ABSENT: rebuilds whose target lies on it are abandoned (R112). -/
def targetGone (b : Fin 4) (p : Part) : Part :=
  allWindows.foldl (fun q w =>
    match (q.window w).lost with
    | none => q
    | some s => if ((q.window w).copy s).bay = b then q.abandonRebuild w else q) p

/-! ## Patrol cursors (R119, R122, R123) -/

/-- The end of a pass (R123). -/
def passEnd (w : Fin 16) (p : Part) : Part :=
  p.modWindow w fun v => { v with
    patrol := v.patrol.map fun r => { r with
      passes := bump 65535 r.passes, lastEnd := some p.now, region := 0, chunk := 0 } }

/-- Move a window's patrol cursor to chunk 0 of the region after `g`, or end the pass (R122, R124). -/
def cursorPast (w : Fin 16) (g : Nat) (p : Part) : Part :=
  if g + 1 > (p.window w).lastRegion then p.passEnd w
  else p.modWindow w fun v => { v with patrol := v.patrol.map fun r => { r with region := g + 1, chunk := 0 } }

/-- Advance a window's patrol cursor past chunk `c` of region `g` (R123). -/
def cursorAdvance (w : Fin 16) (g c : Nat) (p : Part) : Part :=
  if c + 1 = Config.chunksPerRegion ∨ (p.window w).length ≤ chunkOffset g (c + 1) then p.cursorPast w g
  else p.modWindow w fun v => { v with patrol := v.patrol.map fun r => { r with region := g, chunk := c + 1 } }

/-! ## Identification (R17, R18) -/

/-- Judge member `m` of window `w` against the identity of its bay (R17): the member as judged. -/
def judgeMember (w : Window) (i : Identity) (m : Member) : Member :=
  match m.serial with
  | some s => { m with isForeign := !(s == i.serial && fits w m i.capacity) }
  | none =>
    if fits w m i.capacity then { m with serial := some i.serial, isForeign := false } else { m with isForeign := true }

/-- Judge member `k` of window `w` against its bay's identity. A MIRROR member left foreign is marked LOST where no member
is yet (R18); where it is already the LOST one, its rebuild is abandoned (R112). -/
def judge (w : Fin 16) (k : Nat) (i : Identity) (p : Part) : Part :=
  let v := p.window w
  let m := judgeMember v i (v.member k)
  let q := p.modWindow w fun v => { v with members := v.members.set k m }
  if m.isForeign ∧ v.layout = .mirror then
    match v.lost with
    | none => q.markLost w (sideOf k)
    | some s => if s = sideOf k then q.abandonRebuild w else q
  else q

/-- The comparison of R17 for every member of window `w` that lies on bay `b`. -/
def judgeOn (b : Fin 4) (i : Identity) (w : Fin 16) (p : Part) : Part :=
  (List.range (p.window w).members.length).foldl (fun q k =>
    if ((q.window w).member k).bay = b then q.judge w k i else q) p

/-- The window table is given bay `b`'s new identity and applies R17 to every window in use, in ascending index. -/
def foreignCheck (b : Fin 4) (i : Identity) (p : Part) : Part :=
  allWindows.foldl (fun q w => if (q.window w).inUse then q.judgeOn b i w else q) p

/-! ## A CLOSING window's end (R15) -/

/-- Make a window FREE: its log and repair entries are removed, every field cleared, and the delete held by R13 answered
OK. Dropped requests of it no longer speak of this window (log entry 12). -/
def freeWindow (w : Fin 16) (p : Part) : Part :=
  let who := (p.window w).deleteFor
  let p1 : Part := { p with
    engine := { p.engine with
      log := p.engine.log.filter fun e => e.window != w
      repairs := p.engine.repairs.filter fun e => e.window != w }
    router := { p.router with
      dropped := p.router.dropped.map fun r => if r.window = w then { r with windowGone := true } else r } }
  let p2 := (p1.modWindow w fun _ => {}).followMark
  match who with
  | none => p2
  | some a => p2.reply a .ok

/-- Whether a window's closing ends (R15): CLOSING, no request in flight, no chunk of it in progress. -/
def closes (p : Part) (w : Fin 16) : Bool :=
  (p.window w).st == .closing && (p.window w).inFlight == 0
    && (match p.engine.chunk with | some c => c.window != w | none => true)

end Part

end Sys2Proof.Machine
end

