-- ==== Sys2Proof/Machine/Chunks.lean ====
section
/-! DEFINITION. The copy engine's work (sections 5.6, 5.7 and chapter 6): placing a chunk's operations, what their results
lead to, and the seeking of the next job. -/

namespace Sys2Proof.Machine

open Sys2Proof

namespace Part

/-! ## Placing (R37, R106, R120) -/

/-- The origin of a chunk's operations (R106). -/
def chunkOrigin : ChunkKind → Origin
  | .resync => .resync
  | .repair => .repair
  | .rebuild => .rebuild
  | .patrol => .patrol

/-- The slots of a chunk's operation on side `s` (R106, R120). -/
def chunkSlots (c : Chunk) (s : Side) : List Nat :=
  if c.kind = ChunkKind.patrol ∧ s = Side.secondary then (c.slots.drop 64).take c.count else c.slots.take c.count

/-- The operation of the chunk on side `s` in its phase (R106, R120). -/
def chunkOp (p : Part) (c : Chunk) (s : Side) : BayOp where
  kind := if c.phase = .writing then .write else .read
  block := ((p.window c.window).copy s).base + c.offset
  count := c.count
  origin := chunkOrigin c.kind
  parent := .chunk s
  slots := chunkSlots c s

/-- Whether the bay has room for an operation of `who` (R37). -/
def hasRoom (p : Part) (b : Fin 4) (who : Waiter) : Bool :=
  decide ((p.bay b).queue.length < Config.queueLimit) && mayPlace (p.bay b).roomWait who

/-- Place the first operation the chunk still has to place, or pause it on its bay's room-wait list (R37, R38). A copy whose
member is foreign or whose bay is FAULT or ABSENT stops the chunk short (R106). -/
def placeChunk (p : Part) : Part :=
  match p.engine.chunk with
  | none => p
  | some c =>
    match c.todo with
    | [] => p
    | s :: rest =>
      let m := (p.window c.window).copy s
      if !p.usable c.window s then p.stopChunk
      else if p.hasRoom m.bay .engine then
        ((p.leaveRooms .engine).modChunk fun c => { c with todo := rest, paused := false }).appendOp m.bay (p.chunkOp c s)
      else (p.joinRoom m.bay .engine).modChunk fun c => { c with paused := true }

/-! ## Results of resync chunks (R107, R108) -/

/-- The chunk goes on to write its destination (R106 step 3). -/
def chunkToWriting (p : Part) : Part := p.modChunk fun c => { c with phase := .writing, todo := [c.dest] }

/-- The chunk runs again from READING with its slots (R106 step 4, R122 test 4). -/
def chunkAgain (p : Part) : Part :=
  p.modChunk fun c => { c with
    phase := .reading, again := false, resPrimary := none, resSecondary := none
    todo := if c.kind = ChunkKind.patrol then [.primary, .secondary] else [c.source] }

/-- Remove the entry of a region whose copy has ended, telling its flushes (R107). -/
def entryDone (w : Fin 16) (g : Nat) (stale : Side) (p : Part) : Part :=
  ((p.setLog (p.engine.log.filter fun e => !e.isFor w g)).tellFlushes w g .ok (some stale) none).followMark

/-- A resync chunk has copied chunk `c` of its region (R107). -/
def resyncAdvance (w : Fin 16) (g c : Nat) (p : Part) : Part :=
  let q := p.endChunk
  match q.logEntry? w g with
  | none => q
  | some e =>
    if c + 1 < Config.chunksPerRegion ∧ chunkOffset g (c + 1) < (q.window w).length then
      q.modEntry w g fun e => { e with next := c + 1 }
    else if e.redirtied then q.modEntry w g fun e => { e with redirtied := false, next := 0 }
    else q.entryDone w g e.stale

/-- The read of a resync chunk from the good copy ended MEDIA at window offset `o` (R108). The re-dirtied flag is cleared with
the entry's return to DIRTY, as by R108's first row (DESIGN CHOICE, log entry 67). -/
def resyncUnreadable (w : Fin 16) (g o : Nat) (p : Part) : Part :=
  let p1 := p.modEntry w g fun e => { dirtyEntry e with unreadable := true, flushes := 0 }
  let p2 := p1.modWindow w fun v => { v with unreadable := bump 65535 v.unreadable, lastUnreadable := some o }
  (p2.tellFlushes w g .media none (some o)).endChunk

/-! ## Results of repair pieces (R109) -/

/-- Drop the repair entry whose piece is in progress (R109). -/
def dropRepair (p : Part) : Part :=
  { p with engine := { p.engine with repairs := p.engine.repairs.filter fun e => !e.busy } }

/-- A piece of `n` blocks is done (R109). -/
def repairAdvance (n : Nat) (p : Part) : Part :=
  ({ p with engine := { p.engine with
      repairs := p.engine.repairs.filterMap fun e =>
        if e.busy then (if e.next + n < e.offset + e.count then some { e with next := e.next + n } else none)
        else some e } } : Part).endChunk

/-- The write of a piece ended MEDIA: every region its entry touches is logged with the source as good copy, or the
destination's member is marked LOST (R109). -/
def repairFailed (w : Fin 16) (src : Side) (p : Part) : Part :=
  match p.engine.repairs.find? fun e => e.busy with
  | none => p.endChunk
  | some e => (p.dropRepair.logOrLose w (touched e.offset e.count) src).endChunk

/-! ## Results of rebuild chunks (R111, R112) -/

/-- A rebuild chunk has copied chunk `c` of region `g` (R111). -/
def rebuildAdvance (w : Fin 16) (g c : Nat) (p : Part) : Part :=
  let q := p.endChunk
  if c + 1 < Config.chunksPerRegion ∧ chunkOffset g (c + 1) < (q.window w).length then
    q.modWindow w fun v => { v with rebuildChunk := c + 1 }
  else if g < (q.window w).lastRegion then
    q.modWindow w fun v => { v with cursor := some (g + 1), rebuildChunk := 0 }
  else
    (q.modWindow w fun v => { v with lost := none, cursor := none, rebuildChunk := 0 }).raise .rebuildDone

/-! ## The end of a compare chunk (R122 to R125) -/

/-- Whether the two copies read by a compare chunk agree, byte by byte (R123). -/
def copiesAgree (p : Part) (c : Chunk) : Bool :=
  (List.range c.count).all fun i =>
    slotCells p.router.data (byIndex c.slots i) == slotCells p.router.data (byIndex c.slots (64 + i))
where
  /-- Slot `i` of the chunk. -/
  byIndex (l : List Nat) (i : Nat) : Nat := (l[i]?).getD 0

/-- The two copies differ (R124). -/
def mismatch (w : Fin 16) (g : Nat) (p : Part) : Part :=
  let p1 := p.modWindow w fun v => { v with
    patrol := v.patrol.map fun r => { r with mismatches := bump 65535 r.mismatches } }
  ((p1.logOrLose w [g] .primary).raise .patrolMismatch).cursorPast w g

/-- A READ of the compare chunk ended MEDIA on `failed` alone (R125). -/
def patrolRepair (w : Fin 16) (g k o n : Nat) (failed : Side) (p : Part) : Part :=
  match p.tryRepair w failed o n with
  | some q => q.cursorAdvance w g k
  | none => (p.logOrLose w [g] (otherSide failed)).cursorPast w g

/-- The end of a compare chunk whose READ operations ended `a` on the primary and `b` on the secondary, `true` for MEDIA
(R122). -/
def patrolEnd (c : Chunk) (a b : Bool) (p : Part) : Part :=
  let w := c.window
  let v := p.window w
  let g := regionOf c.offset
  let k := c.offset % Config.regionBlocks / Config.chunkBlocks
  if v.st ≠ .opened then p.endChunk
  else if v.lost.isSome then (p.modWindow w fun v => { v with due := true }).endChunk
  else if p.logged w g then (p.cursorPast w g).endChunk
  else if c.again then p.chunkAgain
  else
    match a, b with
    | true, true =>
      ((p.modWindow w fun v => { v with unrepairable := bump 65535 v.unrepairable }).cursorAdvance w g k).endChunk
    | true, false => (p.patrolRepair w g k c.offset c.count .primary).endChunk
    | false, true => (p.patrolRepair w g k c.offset c.count .secondary).endChunk
    | false, false => if p.copiesAgree c then (p.cursorAdvance w g k).endChunk else (p.mismatch w g).endChunk

/-! ## A chunk operation's result (R106) -/

/-- The window offset of a failing block of the chunk's operation on side `s`. -/
def chunkFailOffset (p : Part) (c : Chunk) (s : Side) (block : Option Nat) : Nat :=
  failOffset (p.window c.window) (sideIndex s) (block.getD 0)

/-- The READ of the chunk ended MEDIA (R108, R109, R112, R122). -/
def chunkReadMedia (c : Chunk) (s : Side) (block : Option Nat) (p : Part) : Part :=
  let w := c.window
  match c.kind with
  | .resync => p.resyncUnreadable w (regionOf c.offset) (p.chunkFailOffset c s block)
  | .repair =>
    (p.dropRepair.modWindow w fun v => { v with unrepairable := bump 65535 v.unrepairable }).endChunk
  | .rebuild =>
    let o := p.chunkFailOffset c s block
    (p.modWindow w fun v => { v with unreadable := bump 65535 v.unreadable, lastUnreadable := some o }).abandonRebuild w
  | .patrol => p

/-- The WRITE of the chunk ended MEDIA (R108, R109, R112). -/
def chunkWriteMedia (c : Chunk) (p : Part) : Part :=
  let w := c.window
  match c.kind with
  | .resync => p.markLost w c.dest
  | .repair => p.repairFailed w c.source
  | .rebuild => p.abandonRebuild w
  | .patrol => p

/-- The WRITE of the chunk ended OK (R106 step 4, R107, R109, R111). -/
def chunkWritten (c : Chunk) (p : Part) : Part :=
  let g := regionOf c.offset
  let k := c.offset % Config.regionBlocks / Config.chunkBlocks
  if c.again then p.chunkAgain
  else
    match c.kind with
    | .resync => p.resyncAdvance c.window g k
    | .repair => p.repairAdvance c.count
    | .rebuild => p.rebuildAdvance c.window g k
    | .patrol => p

/-- A compare chunk's READ on side `s` ended, OK or MEDIA; the chunk ends when both have (R120). -/
def patrolRead (s : Side) (media : Bool) (p : Part) : Part :=
  let q := p.modChunk fun c =>
    match s with
    | .primary => { c with resPrimary := some media }
    | .secondary => { c with resSecondary := some media }
  match q.engine.chunk with
  | none => q
  | some c =>
    match c.resPrimary, c.resSecondary with
    | some a, some b => q.patrolEnd c a b
    | _, _ => q

/-- The result of the current chunk's operation on side `s` is given to the copy engine (R47). The result of an operation
of an abandoned chunk is set aside (R106); the chunk then ends when no operation of it remains. -/
def chunkResult (s : Side) (kind : ReqKind) (res : Status) (block : Option Nat) (p : Part) : Part :=
  match p.engine.chunk with
  | none => p
  | some c =>
    if c.abandoned then p
    else
      match res with
      | .ok =>
        if c.kind = ChunkKind.patrol then p.patrolRead s false
        else if kind = ReqKind.write then p.chunkWritten c
        else p.chunkToWriting
      | .media =>
        if c.kind = ChunkKind.patrol then p.patrolRead s true
        else if kind = ReqKind.write then p.chunkWriteMedia c
        else p.chunkReadMedia c s block
      | _ => p.stopChunk

/-! ## Seeking the next job (R105, R118, R119) -/

/-- Whether both bays of a window are READY and both its members have their foreign flags clear (R105). -/
def workable (p : Part) (w : Fin 16) : Bool :=
  p.copyReady w .primary && p.copyReady w .secondary
    && !((p.window w).copy .primary).isForeign && !((p.window w).copy .secondary).isForeign

/-- Begin a chunk: it joins the slot-wait list (R34, R106). -/
def beginChunk (kind : ChunkKind) (w : Fin 16) (src : Side) (off n : Nat) (p : Part) : Part :=
  let need := if kind = ChunkKind.patrol then 128 else 64
  { p with
    engine := { p.engine with
      chunk := some { kind := kind, window := w, source := src, dest := otherSide src, offset := off, count := n } }
    router := { p.router with slotWait := p.router.slotWait ++ [{ who := .engine, need := need }] } }

/-- The first repair entry that can be worked (R105 place 1); one that cannot is passed over (DEDUCED, log entry 16). -/
def repairJob (p : Part) : Option (Nat × RepairEntry) :=
  (p.engine.repairs.findIdx? fun e => (p.window e.window).inUse && p.workable e.window).bind fun i =>
    (p.engine.repairs[i]?).map fun e => (i, e)

/-- Begin a piece of the repair entry at place `i`; an entry that touches a logged region is dropped without work, and the
engine seeks again (R109). -/
def takeRepair (i : Nat) (e : RepairEntry) (p : Part) : Part :=
  if (touched e.offset e.count).any (p.logged e.window) then
    ({ p with engine := { p.engine with repairs := p.engine.repairs.eraseIdx i } } : Part).seekNext
  else
    ({ p with engine := { p.engine with
        repairs := p.engine.repairs.set i { e with busy := true } } } : Part).beginChunk .repair e.window
      (otherSide e.copy) e.next (min Config.chunkBlocks (e.offset + e.count - e.next))

/-- Whether an entry's resync can be begun (R105). -/
def canResync (p : Part) (e : LogEntry) : Bool :=
  !e.unreadable && (p.window e.window).inUse && p.workable e.window

/-- The entries the waiting MIRROR_BOTH flushes recorded, the earliest-accepted flush's first, in log order within one
flush (R105 place 2). -/
def flushEntries (p : Part) : List LogEntry :=
  p.router.requests.flatMap fun r => p.engine.log.filter fun e => e.window == r.window && e.region ∈ r.waits

/-- The resync the engine takes: places 2 and 3 of R105. -/
def resyncJob (p : Part) : Option LogEntry :=
  ((p.flushEntries).find? p.canResync).orElse fun _ => p.engine.log.find? p.canResync

/-- Begin the next chunk of an entry's resync (R107). -/
def takeResync (e : LogEntry) (p : Part) : Part :=
  let c := if e.copying then e.next else 0
  let off := chunkOffset e.region c
  (p.modEntry e.window e.region fun e => { e with copying := true, next := c }).beginChunk .resync e.window e.good off
    (chunkCount (p.window e.window) off)

/-- The first window with a rebuild that can be worked, with the copy LOST and the cursor (R105 place 4). -/
def rebuildJob (p : Part) : Option (Fin 16 × Side × Nat) :=
  allWindows.findSome? fun w =>
    let v := p.window w
    match v.lost, v.cursor with
    | some s, some g => if v.st = .opened ∧ p.workable w then some (w, s, g) else none
    | _, _ => none

/-- Begin the next chunk of a rebuild (R111). -/
def takeRebuild (w : Fin 16) (lost : Side) (g : Nat) (p : Part) : Part :=
  let off := chunkOffset g (p.window w).rebuildChunk
  p.beginChunk .rebuild w (otherSide lost) off (chunkCount (p.window w) off)

/-- Whether a window has a patrol chunk that can be taken (R118). -/
def patrolReady (p : Part) (w : Fin 16) : Bool :=
  let v := p.window w
  v.st == .opened && v.layout == .mirror && v.patrol.isSome && v.interval != 0 && v.due && v.lost.isNone && p.workable w

/-- The first region from `g` on that the log does not hold. The log holds no more regions than it has entries. -/
def firstUnlogged (p : Part) (w : Fin 16) (g : Nat) : Nat :=
  g + ((List.range (p.engine.log.length + 1)).find? fun i => !p.logged w (g + i)).getD 0

/-- Take a window's patrol chunk: the cursor is moved past logged regions, and a compare chunk is begun at it or the pass
ends (R119, R120). -/
def takePatrol (w : Fin 16) (p : Part) : Part :=
  match (p.window w).patrol with
  | none => p
  | some r =>
    let g := p.firstUnlogged w r.region
    let k := if g = r.region then r.chunk else 0
    let p1 := p.modWindow w fun v => { v with due := false }
    if g > (p.window w).lastRegion then (p1.passEnd w).seekNext
    else
      let off := chunkOffset g k
      (p1.modWindow w fun v => { v with patrol := some { r with region := g, chunk := k } }).beginChunk .patrol w .primary
        off (chunkCount (p.window w) off)

/-- The patrol job, the last place of R105. -/
def seekPatrol (p : Part) : Part :=
  match allWindows.find? p.patrolReady with
  | some w => p.takePatrol w
  | none => p

/-- The rebuild and patrol places of R105, reached when no resync can be begun: while the high mark is ABOVE the starts of
R94 are requested (DEDUCED, log entry 35). -/
def seekAfterResync (p : Part) : Part :=
  let q := if p.engine.above then p.markStarts else p
  match q.rebuildJob with
  | some (w, s, g) => q.takeRebuild w s g
  | none => q.seekPatrol

/-- Seek the next job: nothing while a chunk is current or the box is DORMANT; in READ_ONLY boot mode patrol alone
(R105). -/
def seekJob (p : Part) : Part :=
  let q : Part := { p with engine := { p.engine with seek := false } }
  if q.engine.chunk.isSome ∨ q.box.st = some .dormant then q
  else if q.readOnly then q.seekPatrol
  else
    match q.repairJob with
    | some (i, e) => q.takeRepair i e
    | none =>
      match q.resyncJob with
      | some e => q.takeResync e
      | none => q.seekAfterResync

end Part

end Sys2Proof.Machine
end

