-- ==== Sys2Proof/Machine/Requests.lean ====
section
/-! DEFINITION. The request router (chapter 2) with the copy choice rules of mirror requests (sections 5.3 to 5.5):
acceptance, routing, placing, results, gathering, completion, and the drop of a port's requests. -/

namespace Sys2Proof.Machine

open Sys2Proof

/-- A block request as a port presents it (R26, R27). -/
structure Ask where
  port : ReqPort
  tag : Tag
  kind : ReqKind
  window : Nat
  offset : Nat := 0
  count : Nat := 0
  bufList : Nat := 0
  mirrorBoth : Bool := false
  deriving DecidableEq, Repr, Inhabited

/-- The origin of a port's operations (R37). -/
def portOrigin : ReqPort → Origin
  | .pp => .pp
  | .dp => .dp

/-- Whether a right allows a kind (R3). -/
def allows : Right → ReqKind → Bool
  | .none, _ => false
  | .read, .write => false
  | .read, _ => true
  | .readWrite, _ => true

/-- A window's right for a port. -/
def Window.right (w : Window) : ReqPort → Right
  | .pp => w.ppRight
  | .dp => w.dpRight

namespace Part

/-! ## Acceptance (R28, R29) -/

/-- The checks of R28, in order. -/
def requestChecks (p : Part) (a : Ask) : List (Bool × Status) :=
  let v : Window := ((windowOf a.window).map p.window).getD {}
  let blocks := a.kind != .flush
  [(!blocks || decide (1 ≤ a.count ∧ a.count ≤ Config.maxCount), .badRequest),
   (!p.router.requests.any (fun r => r.port == a.port && r.tag == a.tag), .tagInUse),
   (v.st == .opened, .noWindow),
   (allows (v.right a.port) a.kind, .denied),
   (!blocks || decide (a.offset + a.count ≤ v.length), .range),
   (!(a.kind == .write && p.readOnly), .readOnly)]

/-- The record an accepted request begins with (R26, R27, R29): MIRROR_BOTH is recorded for a FLUSH of a MIRROR window
alone, and a FLUSH's offset and count are not read. -/
def recordOf (p : Part) (a : Ask) (w : Fin 16) : Request where
  id := p.router.nextId
  port := a.port
  tag := a.tag
  kind := a.kind
  mirrorBoth := a.mirrorBoth && a.kind == .flush && (p.window w).layout == .mirror
  window := w
  offset := if a.kind = .flush then 0 else a.offset
  count := if a.kind = .flush then 0 else a.count
  bufList := if a.port = .pp then a.bufList else 0
  life := if a.kind = .flush then .routing else .slotWait

/-- Add one to a port's outstanding count. -/
def countUp (port : ReqPort) (p : Part) : Part :=
  match port with
  | .pp => { p with router := { p.router with ppCount := p.router.ppCount + 1 } }
  | .dp => { p with router := { p.router with dpCount := p.router.dpCount + 1 } }

/-- Take one from a port's outstanding count. -/
def countDown (port : ReqPort) (p : Part) : Part :=
  match port with
  | .pp => { p with router := { p.router with ppCount := p.router.ppCount - 1 } }
  | .dp => { p with router := { p.router with dpCount := p.router.dpCount - 1 } }

/-- An accepted request becomes outstanding (R29). -/
def accept (a : Ask) (w : Fin 16) (p : Part) : Part :=
  let r := p.recordOf a w
  let q : Part := { p with router := { p.router with
    requests := p.router.requests ++ [r]
    nextId := p.router.nextId + 1
    slotWait := if a.kind = .flush then p.router.slotWait
      else p.router.slotWait ++ [{ who := .request r.id, need := a.count }] } }
  (q.countUp a.port).modWindow w fun v => { v with inFlight := v.inFlight + 1 }

/-- Hand a block request's completion to its port (R41). -/
def handCompletion (port : ReqPort) (tag : Tag) (st : Status) (failing : Nat) (p : Part) : Part :=
  let c : Completion := { tag := tag, status := st, result := resultBytes (.failing failing) }
  match port with
  | .pp => p.handPp c
  | .dp => p.handDp none c

/-- Take a block request (R28, R29): a refused one is completed at once with failing offset 0. -/
def takeRequest (a : Ask) (p : Part) : Part :=
  match firstRefusal (p.requestChecks a), windowOf a.window with
  | none, some w => p.accept a w
  | some st, _ => p.handCompletion a.port a.tag st 0
  | none, none => p.handCompletion a.port a.tag .noWindow 0

/-! ## Completion and drop (R41, R43) -/

/-- Take a request's record out: its slots, except those named, are freed, and the counts fall (R41, R43). -/
def removeRequest (r : Request) (keep : List Nat) (p : Part) : Part :=
  let q := (((p.leaveSlotWait (.request r.id)).leaveRooms (.request r.id)).releaseSlots (.request r.id) keep).countDown r.port
  ({ q with router := { q.router with
      requests := q.router.requests.filter fun x => x.id != r.id
      ended := q.router.ended.filter fun x => x != r.id } } : Part).modWindow
    r.window fun v => { v with inFlight := v.inFlight - 1 }

/-- The failing offset a completion carries: the lowest found, with status MEDIA alone (R25, R40). -/
def failingOf (r : Request) (st : Status) : Nat := if st = .media then r.failing.getD 0 else 0

/-- Complete a request: its completion is handed to its port and its record removed (R41). -/
def complete (r : Request) (st : Status) (p : Part) : Part :=
  (p.removeRequest r []).handCompletion r.port r.tag st (failingOf r st)

/-- Whether a status is one of the three of success (R41 step 1). -/
def okClass : Status → Bool
  | .ok | .okRecovered | .okDegraded => true
  | _ => false

/-! ## Routing (R36, R96, R98, R101, R102, R103) -/

/-- Record a request's fragments: it has been routed. -/
def recordRoute (id : Nat) (frags : List Fragment) (g : Gather) (notes : List Status) (p : Part) : Part :=
  p.modRequest id fun r => { r with routed := true, frags := frags, gather := g, notes := r.notes ++ notes }

/-- The fragment of a MIRROR request on copy `s` (R20). -/
def copyFragment (w : Window) (s : Side) (o n : Nat) : Fragment := plainFragment w (sideIndex s) o n

/-- The copy all entries name as good, if there are entries and they agree. -/
def agreedGood : List LogEntry → Option Side
  | [] => none
  | e :: es => if es.all fun x => x.good == e.good then some e.good else none

/-- The number of operations a copy's bay has, queued and in flight (R96 case 6). -/
def bayLoad (p : Part) (w : Fin 16) (s : Side) : Nat :=
  let x := p.copyBay w s
  x.queue.length + (match x.inFlight with | .op _ => 1 | _ => 0)

/-- Cases 6 to 8 of R96: the choice by the bays' states. -/
def readByBays (p : Part) (w : Fin 16) : Side :=
  match p.copyReady w .primary, p.copyReady w .secondary with
  | true, true => if p.bayLoad w .primary ≤ p.bayLoad w .secondary then .primary else .secondary
  | true, false => .primary
  | false, true => .secondary
  | false, false => .primary

/-- The copy a READ of a MIRROR window goes to (R96); absent where it completes STALE_COPY. Case 5 is taken where exactly
one copy has an overlapping repair (log entry 14). -/
def readChoice (p : Part) (w : Fin 16) (o n : Nat) : Option Side :=
  let v := p.window w
  match v.lost with
  | some s => some (otherSide s)
  | none =>
    let es := p.loggedAmong w (touched o n)
    if !es.isEmpty then
      match agreedGood es with
      | some g => if p.usable w g then some g else none
      | none => none
    else
      match p.usable w .primary, p.usable w .secondary with
      | true, false => some .primary
      | false, true => some .secondary
      | false, false => some .primary
      | true, true =>
        match p.repairOverlaps w .primary o n, p.repairOverlaps w .secondary o n with
        | true, false => some .secondary
        | false, true => some .primary
        | _, _ => some (p.readByBays w)

/-- Route a READ of a MIRROR window. -/
def routeMirrorRead (r : Request) (p : Part) : Part :=
  match p.readChoice r.window r.offset r.count with
  | some s => p.recordRoute r.id [copyFragment (p.window r.window) s r.offset r.count] .worst []
  | none => p.recordRoute r.id [] .worst [.staleCopy]

/-- A routed write that overlaps the current chunk makes it run again: a rebuild chunk for any such write (R101), a repair
piece or compare chunk for a write placed on both copies (R109, R121). A write that R101 places on both copies of a window
being rebuilt counts among the latter for a compare chunk (DESIGN CHOICE, log entry 46). -/
def markAgain (w : Fin 16) (o n : Nat) (both : Bool) (p : Part) : Part :=
  p.modChunk fun c =>
    if c.window = w ∧ sharesBlock c.offset c.count o n
        ∧ (c.kind = ChunkKind.rebuild ∨ (both ∧ (c.kind = ChunkKind.repair ∨ c.kind = ChunkKind.patrol))) then
      { c with again := true }
    else c

/-- A write is about to reach the good copy in its logged regions: each entry is re-dirtied if COPYING, and its unreadable
flag cleared, at which the engine seeks its next job (R98 cases 5 and 6, R105, R108). -/
def redirty (w : Fin 16) (gs : List Nat) (p : Part) : Part :=
  let cleared := (p.loggedAmong w gs).any fun e => e.unreadable
  let q := p.setLog (p.engine.log.map fun e =>
    if e.window = w ∧ e.region ∈ gs then { e with redirtied := e.redirtied || e.copying, unreadable := false } else e)
  if cleared then q.seekNext else q

/-- Place a write on one copy. -/
def writeOne (r : Request) (s : Side) (g : Gather) (p : Part) : Part :=
  p.recordRoute r.id [copyFragment (p.window r.window) s r.offset r.count] g []

/-- Place a write on both copies; the two fragments share the request's slots (R36). The primary's fragment stands first, a
tie of R22's order by window offset (DESIGN CHOICE, log entry 61). -/
def writeBoth (r : Request) (g : Gather) (p : Part) : Part :=
  let v := p.window r.window
  (p.recordRoute r.id [copyFragment v .primary r.offset r.count, copyFragment v .secondary r.offset r.count] g []).markAgain
    r.window r.offset r.count true

/-- Cases 5 to 9 of R98, for a window whose two copies are usable and whose lost member is NONE. -/
def routeUsableWrite (r : Request) (p : Part) : Part :=
  let w := r.window
  let v := p.window w
  let gs := touched r.offset r.count
  let es := p.loggedAmong w gs
  if !es.isEmpty then
    match agreedGood es with
    | some g =>
      match p.tryLog w gs g with
      | some q => (q.redirty w gs).writeOne r g .worst
      | none => (p.redirty w gs).writeBoth r .both
    | none => (p.redirty w gs).writeBoth r .both
  else if !p.copyReady w .secondary ∧ v.lazyAttr then
    match p.tryLog w gs .primary with
    | some q => q.writeOne r .primary .worst
    | none => p.writeBoth r .both
  else p.writeBoth r .both

/-- Route a WRITE of a MIRROR window (R98, R101). -/
def routeMirrorWrite (r : Request) (p : Part) : Part :=
  let w := r.window
  let v := p.window w
  match v.lost, v.cursor with
  | some s, none => p.writeOne r (otherSide s) (.survivor (otherSide s))
  | some s, some g =>
    if (touched r.offset r.count).all fun x => decide (g < x) then
      (p.writeOne r (otherSide s) (.survivor (otherSide s))).markAgain w r.offset r.count false
    else p.writeBoth r (.survivor (otherSide s))
  | none, _ =>
    match p.usable w .primary, p.usable w .secondary with
    | true, false => (p.markLost w .secondary).writeOne r .primary (.survivor .primary)
    | false, true => (p.markLost w .primary).writeOne r .secondary (.survivor .secondary)
    | false, false => p.writeOne r .primary .worst
    | true, true => p.routeUsableWrite r

/-- Whether copy `s` is stale for an entry of the window and its bay not READY, so that a plain FLUSH leaves it out
(R102). -/
def asleepStale (p : Part) (w : Fin 16) (s : Side) : Bool :=
  !p.copyReady w s && p.engine.log.any fun e => e.window == w && e.stale == s

/-- Place the plain FLUSH of a MIRROR window (R102). -/
def flushCopies (r : Request) (p : Part) : Part :=
  let w := r.window
  let v := p.window w
  let on (l : List Side) : List Fragment := l.map fun s => flushFragment v (sideIndex s)
  match v.lost with
  | some s => p.recordRoute r.id (on (if v.cursor.isSome then [.primary, .secondary] else [otherSide s])) .worst []
  | none =>
    match p.usable w .primary, p.usable w .secondary with
    | true, false => (p.markLost w .secondary).recordRoute r.id (on [.primary]) .worst [.okDegraded]
    | false, true => (p.markLost w .primary).recordRoute r.id (on [.secondary]) .worst [.okDegraded]
    | false, false => p.recordRoute r.id (on [.primary]) .worst []
    | true, true =>
      p.recordRoute r.id (on ([Side.primary, Side.secondary].filter fun s => !p.asleepStale w s)) .worst []

/-- Record the entries a MIRROR_BOTH flush waits on (R103): their flush counts go up, each unreadable entry is noted MEDIA
with the window's last unreadable offset, and the engine seeks its next job. -/
def recordEntries (r : Request) (p : Part) : Part :=
  let w := r.window
  let mine := p.engine.log.filter fun e => e.window == w
  let bad := mine.filter fun e => e.unreadable
  let gs := (mine.filter fun e => !e.unreadable).map fun e => e.region
  let p1 := p.setLog (p.engine.log.map fun e =>
    if e.window = w ∧ !e.unreadable then { e with flushes := e.flushes + 1 } else e)
  let p2 := p1.modRequest r.id fun x => { x with
    waits := gs
    notes := x.notes ++ bad.map fun _ => Status.media
    failing := if bad.isEmpty then x.failing
      else (match (p.window w).lastUnreadable with | none => x.failing | some o => lowerOffset x.failing o) }
  if gs.isEmpty then p2 else p2.seekNext

/-- Route a FLUSH of a MIRROR window (R102, R103). Outside READ_ONLY boot mode a MIRROR_BOTH flush records its entries, ahead of
a LOST mark of its own routing (DEDUCED, log entry 36), and requests the starts of the recorded entries' bays, the primary's
first, ahead of the starts that the placing of its fragments brings later in the event (DESIGN CHOICE, log entry 60). -/
def routeMirrorFlush (r : Request) (p : Part) : Part :=
  if r.mirrorBoth ∧ !p.readOnly then
    let q := (p.recordEntries r).flushCopies r
    let recorded := p.engine.log.any fun e => e.window == r.window && !e.unreadable
    if recorded then
      (q.wakeBay ((q.window r.window).copy .primary).bay).wakeBay ((q.window r.window).copy .secondary).bay
    else q
  else p.flushCopies r

/-- Translate a request that enters ROUTING (R36, R42). -/
def route (r : Request) (p : Part) : Part :=
  let v := p.window r.window
  match v.layout, r.kind with
  | .mirror, .read => p.routeMirrorRead r
  | .mirror, .write => p.routeMirrorWrite r
  | .mirror, .flush => p.routeMirrorFlush r
  | _, .flush => p.recordRoute r.id ((List.range v.members.length).map (flushFragment v)) .worst []
  | _, _ => p.recordRoute r.id (translate v r.offset r.count) .worst []

/-! ## Results of mirror requests (R97, R100, R101) -/

/-- Whether copy `s` is clean for an extent, so that a READ that failed on the other copy may be retried on it (R97). -/
def cleanFor (p : Part) (w : Fin 16) (s : Side) (o n : Nat) : Bool :=
  (p.window w).lost.isNone && (p.loggedAmong w (touched o n)).isEmpty && p.usable w s && !p.repairOverlaps w s o n

/-- The effect of a write that ended OK on `x` and `res` on the other copy (R100): MEDIA and TIMEOUT log the regions with
`x` as good copy, anything else marks the other member LOST. -/
def oneCopyWritten (w : Fin 16) (gs : List Nat) (x : Side) (res : Status) (p : Part) : Part :=
  if res = .media ∨ res = .timeout then p.logOrLose w gs x else p.markLost w (otherSide x)

/-- The status of such a write: the failed copy's result where a touched region's entry already holds that copy as good
(R100; log entry 15). -/
def oneCopyStatus (p : Part) (w : Fin 16) (gs : List Nat) (x : Side) (res : Status) : Status :=
  if (p.loggedAmong w gs).any fun e => e.good == otherSide x then res else .okDegraded

/-- The result of a request's fragment on a copy, OK where it has none. -/
def copyResult (r : Request) (s : Side) : Option Status :=
  (r.frags.find? fun f => f.member == sideIndex s).bind fun f => f.result

/-- The pair rule of R100 for the two results `a` on the primary and `b` on the secondary: the part after it and the
status. Whether a copy is LOST is judged as it stands at the last result (DESIGN CHOICE, log entry 89). -/
def pairEnd (r : Request) (a b : Status) (p : Part) : Part × Status :=
  let w := r.window
  let gs := touched r.offset r.count
  match (p.window w).lost with
  | some s =>
    let res := if s = .primary then b else a
    (p, if res = .ok then .okDegraded else res)
  | none =>
    match decide (a = .ok), decide (b = .ok) with
    | true, true => (p, .ok)
    | true, false => (p.oneCopyWritten w gs .primary b, p.oneCopyStatus w gs .primary b)
    | false, true => (p.oneCopyWritten w gs .secondary a, p.oneCopyStatus w gs .secondary a)
    | false, false => (p, worse a b)

/-- The rule of R99 and R101 for a write whose status is its survivor's. Where the rebuild ended while the write was at
the bays, a target that failed is handled as R100 gives; a survivor that failed where the target ended OK gives the status, and
nothing is logged or marked (DESIGN CHOICE, log entry 33). -/
def survivorEnd (r : Request) (s : Side) (p : Part) : Part × Status :=
  let w := r.window
  let res := (copyResult r s).getD .ok
  let st := if res = .ok then Status.okDegraded else res
  match copyResult r (otherSide s) with
  | none => (p, st)
  | some t =>
    if res = .ok ∧ t ≠ .ok ∧ (p.window w).lost.isNone then
      (p.oneCopyWritten w (touched r.offset r.count) s t, st)
    else (p, st)

/-- What a request whose every fragment has a result comes to: the part after the mirror effects, and its status (R40,
R99 to R103). -/
def gathered (r : Request) (p : Part) : Part × Status :=
  match r.gather with
  | .worst => (p, worst (r.frags.map (fun f => f.result.getD .ok) ++ r.notes))
  | .survivor s => p.survivorEnd r s
  | .both => p.pairEnd r ((copyResult r .primary).getD .ok) ((copyResult r .secondary).getD .ok)

/-! ## Fragment results (R39) -/

/-- Record a fragment's result. -/
def setResult (id k : Nat) (st : Status) (p : Part) : Part :=
  p.modFrag id k fun f => { f with result := some st }

/-- Keep the lower failing offset of a MEDIA result (R39). The block is mapped back with the member's base as it stands when
the result comes, also where a REPLACE_MEMBER has changed it since the operation was placed (DESIGN CHOICE, log entry
38). -/
def noteFailing (r : Request) (f : Fragment) (block : Option Nat) (p : Part) : Part :=
  match block with
  | none => p
  | some b =>
    let o := failOffset (p.window r.window) f.member b
    p.modRequest r.id fun x => { x with failing := lowerOffset x.failing o }

/-- A READ fragment of a MIRROR window that is to be retried becomes a fragment of the other copy, not yet placed
(R97). -/
def retryFragment (w : Window) (f : Fragment) : Fragment :=
  { copyFragment w (otherSide (sideOf f.member)) f.first f.count with retry := true }

/-- The result of a READ fragment of a MIRROR window (R97). -/
def mirrorReadResult (r : Request) (k : Nat) (f : Fragment) (res : Status) (p : Part) : Part :=
  let other := otherSide (sideOf f.member)
  if f.retry then
    if res = .ok then (p.setResult r.id k .okRecovered).repairOrLog r.window other f.first f.count
    else p.setResult r.id k (worse .media res)
  else if res = .media ∧ p.cleanFor r.window other f.first f.count then
    p.modFrag r.id k fun f => retryFragment (p.window r.window) f
  else p.setResult r.id k res

/-- A fragment on the target of a running rebuild ended other than OK: the rebuild is abandoned (R101, R112). A fragment is on
the target where its member is the LOST one, whichever bay it was placed on (DESIGN CHOICE, log entry 69). -/
def targetResult (r : Request) (f : Fragment) (res : Status) (p : Part) : Part :=
  let v := p.window r.window
  if res ≠ .ok ∧ v.layout = .mirror ∧ v.cursor.isSome ∧ v.lost = some (sideOf f.member) then
    p.abandonRebuild r.window
  else p

/-- The result of fragment `k` of a live request (R39). -/
def liveResult (r : Request) (k : Nat) (f : Fragment) (res : Status) (block : Option Nat) (p : Part) : Part :=
  let p1 := if res = .media then p.noteFailing r f block else p
  let p2 := if (p.window r.window).layout = .mirror ∧ r.kind = .read then p1.mirrorReadResult r k f res
    else p1.setResult r.id k res
  p2.targetResult r f res

/-- The result of fragment `k` of a dropped request (R44): a READ is not retried, and its MEDIA result queues the repair
alone; a WRITE's results are gathered to no completion. -/
def droppedResult (r : Request) (k : Nat) (f : Fragment) (res : Status) (p : Part) : Part :=
  let w := r.window
  let p1 := p.setResult r.id k res
  if r.windowGone ∨ (p.window w).layout ≠ .mirror then p1
  else if r.kind = .read then
    let other := otherSide (sideOf f.member)
    if res = .media ∧ !f.retry ∧ p.cleanFor w other f.first f.count then
      (p1.tryRepair w (sideOf f.member) f.first f.count).getD p1
    else if res = .ok ∧ f.retry then p1.repairOrLog w other f.first f.count
    else p1.targetResult r f res
  else p1.targetResult r f res

/-- The router is given the result of a request's operation (R39, R44); a request whose last result it is has come to leave
AT_BAYS (R41). -/
def fragResult (id k : Nat) (res : Status) (block : Option Nat) (p : Part) : Part :=
  match p.request? id with
  | some r =>
    match r.frags[k]? with
    | some f => (p.liveResult r k f res block).markEnded
    | none => p
  | none =>
    match p.dropped? id with
    | some r =>
      match r.frags[k]? with
      | some f => p.droppedResult r k f res
      | none => p
    | none => p

/-! ## Placing (R36, R37, R38) -/

/-- The result a fragment takes at placing without being placed (R36). Of a foreign member whose bay is ABSENT or FAULT too, the
result is MEMBER_FOREIGN (DESIGN CHOICE, log entry 88). -/
def placingVerdict (p : Part) (r : Request) (f : Fragment) : Option Status :=
  let x := p.bay f.bay
  if ((p.window r.window).member f.member).isForeign then some .memberForeign
  else if x.power = .absent then some .bayAbsent
  else if x.power = .fault then some .bayFault
  else none

/-- The bay operation of a fragment (R37). -/
def fragOp (r : Request) (k : Nat) (f : Fragment) : BayOp where
  kind := r.kind
  block := f.block
  count := f.count
  origin := portOrigin r.port
  parent := .request r.id k
  slots := (r.slots.drop (f.first - r.offset)).take f.count

/-- The first fragment neither placed nor resolved. -/
def nextFragment (r : Request) : Option Nat :=
  r.frags.findIdx? fun f => !f.placed && f.result.isNone

/-- Every fragment is placed or has a result: the request leaves ROUTING for AT_BAYS and any room-wait list (R38). -/
def placed (id : Nat) (p : Part) : Part :=
  (p.leaveRooms (.request id)).modRequest id fun r => { r with life := .atBays, pausedAt := none }

/-- Place a request's remaining fragments in list order, each placed, resolved at once, or pausing the request on its
bay's room-wait list. A request resumed at the head of a list stays on it until it has placed everything or waits for
another bay (R36, R37, R38), so that it places its later fragments for that bay ahead of the next waiter while room is left
(DESIGN CHOICE, log entry 57). `fuel` bounds the fragments taken. -/
def placeAll : Nat → Nat → Part → Part
  | 0, _, p => p
  | fuel + 1, id, p =>
    match p.request? id with
    | none => p
    | some r =>
      match nextFragment r with
      | none => p.placed id
      | some k =>
        match r.frags[k]? with
        | none => p.placed id
        | some f =>
          match p.placingVerdict r f with
          | some st => placeAll fuel id (p.fragResult id k st none)
          | none =>
            if p.hasRoom f.bay (.request id) then
              placeAll fuel id ((p.modFrag id k fun f => { f with placed := true }).appendOp f.bay (fragOp r k f))
            else
              (p.joinRoom f.bay (.request id)).modRequest id fun r => { r with pausedAt := some k }

/-- Place what a request still has to place. Each fragment is placed, resolved or turned into a retry once at most. -/
def placeRequest (r : Request) (p : Part) : Part :=
  placeAll (2 * r.frags.length + 2) r.id (p.modRequest r.id fun r => { r with pausedAt := none })

/-! ## Leaving AT_BAYS (R39, R40, R41, R103) -/

/-- A request leaves AT_BAYS with its status (R41): a READ that brings data passes to DATA_OUT, joining the direct port's
send list where it is a DP READ (R184); any other request is COMPLETE. -/
def leaveBays (r : Request) (p : Part) : Part :=
  let (q, st) := p.gathered r
  if r.kind = .read ∧ okClass st then
    let q1 := q.modRequest r.id fun r => { r with life := .dataOut, outcome := some st }
    match r.port with
    | .pp => q1
    | .dp => { q1 with dp := { q1.dp with sendList := q1.dp.sendList ++ [.readData r.id] } }
  else q.complete r st

/-- The last entry a MIRROR_BOTH flush waited on has left: its second FLUSH operations become fragments to be placed (R103), in
the order in which the entries that brought them left the log (DESIGN CHOICE, log entry 78). -/
def secondFlush (r : Request) (p : Part) : Part :=
  let v := p.window r.window
  p.modRequest r.id fun x => { x with
    frags := x.frags ++ x.second.map fun s => flushFragment v (sideIndex s)
    second := [] }

/-- A dropped request whose every operation has ended: what it leaves unequal is handed to the copy engine (R44), and its
record goes. -/
def settleDropped (r : Request) (p : Part) : Part :=
  let q := if r.windowGone ∨ r.kind ≠ .write then p else (p.gathered r).1
  { q with router := { q.router with dropped := q.router.dropped.filter fun x => x.id != r.id } }

/-! ## The drop of a port's requests (R43, R44) -/

/-- The slots of the operations of a request in flight at the bays. -/
def slotsInFlight (p : Part) (id : Nat) : List Nat :=
  allBays.flatMap fun b =>
    match (p.bay b).inFlight with
    | .op o => if o.ofRequest id then o.slots else []
    | _ => []

/-- Whether an operation of fragment `k` of a request is in flight. -/
def fragInFlight (p : Part) (id k : Nat) : Bool :=
  allBays.any fun b =>
    match (p.bay b).inFlight with
    | .op o => o.parent == .request id k
    | _ => false

/-- A dropped request's fragments: one with no result and no operation in flight was removed from its queue or never
placed, and counts as MEDIA for a WRITE (R100). A READ's fragment ends there too, also where its MEDIA result had already
made it a retry that was queued or unplaced, and no repair is queued for it (DESIGN CHOICE, log entry 44). -/
def dropFragments (p : Part) (r : Request) : List Fragment :=
  (List.range r.frags.length).filterMap fun k =>
    (r.frags[k]?).map fun f =>
      if f.result.isSome ∨ p.fragInFlight r.id k then f
      else { f with result := some (if r.kind = .write then .media else .ok), removed := true }

/-- A dropped MIRROR_BOTH flush lowers the flush count of each entry it waits on (R103). -/
def unwait (r : Request) (p : Part) : Part :=
  p.setLog (p.engine.log.map fun e =>
    if e.window = r.window ∧ e.region ∈ r.waits then { e with flushes := e.flushes - 1 } else e)

/-- A removed write operation on the target of a rebuild whose survivor operation may have been carried out leaves the
target short of the data: the rebuild is abandoned (R44, R101, R112; DESIGN CHOICE, log entry 13). -/
def dropTarget (r : Request) (frags : List Fragment) (p : Part) : Part :=
  let v := p.window r.window
  match v.lost with
  | none => p
  | some s =>
    let gone := frags.any fun f => f.removed && f.member == sideIndex s
    let kept := frags.any fun f => f.member != sideIndex s && !f.removed && (f.result.isNone || f.result == some .ok)
    if r.kind = .write ∧ v.layout = .mirror ∧ v.cursor.isSome ∧ gone ∧ kept then p.abandonRebuild r.window else p

/-- Drop one request (R43): its queued operations are removed; its slots are freed except those of operations in flight;
a request that had fragments placed is kept among the dropped ones until their results are in (R44; DESIGN CHOICE, log entry
12). -/
def dropRequest (r : Request) (p : Part) : Part :=
  let frags := p.dropFragments r
  let p1 := p.modBays fun x => { x with queue := x.queue.filter fun o => !o.ofRequest r.id }
  let p2 := (p1.unwait r).removeRequest r (p1.slotsInFlight r.id)
  if r.routed ∧ !r.frags.isEmpty then
    ({ p2 with router := { p2.router with
        dropped := p2.router.dropped ++ [{ r with frags := frags, waits := [], second := [], pausedAt := none }] } } : Part).dropTarget
      r frags
  else p2

/-- Drop every request of a port (R43). -/
def dropPort (port : ReqPort) (p : Part) : Part :=
  (p.router.requests.filter fun r => r.port == port).foldl (fun q r => q.dropRequest r) p

end Part

end Sys2Proof.Machine
end

