-- ==== Sys2Proof/Machine/Bays.lean ====
section
/-! DEFINITION. The bay controllers (chapter 3): results, faults, presence, starts and stops, the queue's serving, the drive's
answers; and the admission of starts (section 4.4). -/

namespace Sys2Proof.Machine

open Sys2Proof

namespace Part

/-! ## Results (R47) -/

/-- Free the slots of a dropped request whose operation has ended, except those of its operations still in flight (R44). -/
def freeDropped (id : Nat) (p : Part) : Part :=
  if (p.request? id).isSome then p else p.releaseSlots (.request id) (p.slotsInFlight id)

/-- Report the result of an operation to its parent (R47). -/
def reportResult (res : Status) (block : Option Nat) (o : BayOp) (p : Part) : Part :=
  match o.parent with
  | .request id k => (p.fragResult id k res block).freeDropped id
  | .chunk s => p.chunkResult s o.kind res block

/-- Nothing is in flight at bay `b`. -/
def clearFlight (b : Fin 4) (p : Part) : Part := p.modBay b fun x => { x with inFlight := .nothing }

/-- The operation in flight at bay `b` ended with a drive answer (R47, R85). -/
def endAnswered (b : Fin 4) (o : BayOp) (res : Status) (block : Option Nat) (p : Part) : Part :=
  (((p.clearFlight b).reportClass b (classOf o.origin))).reportResult res block o

/-- The operation in flight at bay `b` ended without a drive answer. -/
def endUnanswered (b : Fin 4) (o : BayOp) (res : Status) (p : Part) : Part :=
  (p.clearFlight b).reportResult res none o

/-- Answer the BAY_STOPs held at bay `b` (R69), in the order in which they were taken (DESIGN CHOICE, log entry 58). -/
def answerStops (b : Fin 4) (st : Status) (p : Part) : Part :=
  let who := (p.bay b).stopFor
  who.foldl (fun q a => q.reply a st) (p.modBay b fun x => { x with stopFor := [] })

/-- Answer the BAY_QUERY held at bay `b`, if any. -/
def answerQuery (b : Fin 4) (st : Status) (ans : Answer) (p : Part) : Part :=
  if (p.bay b).queryHeld then (p.modBay b fun x => { x with queryHeld := false }).answer .mp st ans else p

/-! ## Faults and presence (R49, R65) -/

/-- The operations of bay `b`, the one in flight first, then the queue in order. -/
def bayOps (x : Bay) : List BayOp :=
  match x.inFlight with
  | .op o => o :: x.queue
  | _ => x.queue

/-- What FAULT and ABSENT share: the state entered, rail off, link DOWN, the flags cleared, and every operation of the bay
ended with `res`, in order. -/
def bayDown (b : Fin 4) (f : Bay → Bay) (res : Status) (p : Part) : Part :=
  let x := p.bay b
  let p1 := p.modBay b fun x => f { x with
    waitingFrom := none, startedFrom := none, startLeft := none, startAfterStop := false, link := .down, retrain := 0
    timeoutRun := false, queue := [], inFlight := .nothing, healthPending := false }
  let p2 := if x.power = .ready then p1.bayLeavesReady b else p1
  ((bayOps x).foldl (fun q o => q.reportResult res none o) p2).targetGone b

/-- Entry to FAULT (R65); the error that leads to it has been recorded. -/
def enterFault (b : Fin 4) (p : Part) : Part :=
  let q := p.bayDown b (fun x => { x with power := .fault }) .bayFault
  ((q.answerQuery b .bayFault .nothing).answerStops b .bayFault).raise .bayFault

/-- The presence line has held the released level while presence is PRESENT (R49). -/
def presenceLost (b : Fin 4) (p : Part) : Part :=
  let p1 : Part := { p with power := { p.power with
    startQueue := p.power.startQueue.filter fun e => e != .bay b } }
  let q := p1.bayDown b (fun x => { x with present := false, power := .absent, identity := none, health := none })
    .bayAbsent
  ((q.answerQuery b .bayAbsent .nothing).answerStops b .bayAbsent).raise .bayPresence

/-- The presence line has held the asserted level in ABSENT (R48). -/
def presenceTaken (b : Fin 4) (p : Part) : Part :=
  (p.modBay b fun x => { x with
    present := true, power := .off, link := .down, identity := none, health := none, queue := [] }).raise .bayPresence

/-! ## Entering READY, stops, power-off (R53, R54, R56, R57, R58) -/

/-- Bay `b` enters READY: its idle counter is set to 0 (R86), and the copy engine follows (R47). -/
def enterReady (b : Fin 4) (p : Part) : Part :=
  (p.modBay b fun x => { x with power := .ready, startedFrom := none, startLeft := none, idle := 0 }).bayEntersReady b

/-- Issue GO STANDBY. -/
def issueStandby (b : Fin 4) (p : Part) : Part :=
  (p.modBay b fun x => { x with inFlight := .goStandby }).emit (.drive b .goStandby)

/-- A stop order (R56): a quiet READY bay becomes STOPPING, and GO STANDBY is issued when the link is LOCKED. `leave` is how
the copy engine follows the bay out of READY (R47). -/
def stopBy (leave : Part → Part) (b : Fin 4) (p : Part) : Part :=
  if (p.bay b).quiet then
    let q := leave (p.modBay b fun x => { x with power := .stopping })
    if (p.bay b).link = .locked then q.issueStandby b else q
  else p

/-- The stop order (R56) of an idle counter (R86) or of BAY_STOP (R69). -/
def stopOrder (b : Fin 4) (p : Part) : Part := p.stopBy (bayLeavesReady b) b

/-- The power-off order (R58). -/
def powerOffOrder (b : Fin 4) (p : Part) : Part :=
  if (p.bay b).power = .standby then p.modBay b fun x => { x with power := .off, link := .down } else p

/-- GO STANDBY answered DONE (R57). The idle counter is set to 0 on entry to STANDBY (R87). -/
def standbyReached (b : Fin 4) (p : Part) : Part :=
  let x := p.bay b
  let q := (p.modBay b fun x => { x with
    power := .standby, inFlight := .nothing, startAfterStop := false, timeoutRun := false, idle := 0 }).answerStops b .ok
  if !x.queue.isEmpty ∨ x.startAfterStop then q.requestStart b else q

/-- GO STANDBY answered ABORT or MEDIA ERROR: the drive has declined to stop (R57). -/
def standbyRefused (b : Fin 4) (p : Part) : Part :=
  ((p.modBay b fun x => { x with
    inFlight := .nothing, startAfterStop := false, timeoutRun := false }).enterReady b).answerStops b .busy

/-! ## Starts (R52 to R55, R83) -/

/-- Issue SPIN UP. -/
def issueSpinUp (b : Fin 4) (p : Part) : Part :=
  (p.modBay b fun x => { x with inFlight := .spinUp }).emit (.drive b .spinUp)

/-- Issue IDENTIFY. -/
def issueIdentify (b : Fin 4) (p : Part) : Part :=
  (p.modBay b fun x => { x with inFlight := .identify }).emit (.drive b .identify)

/-- Admission of bay `b`'s entry (R52, R75): the figures in use and T_start are copied, and the bay becomes STARTING, with
its rail on and its supply settling from OFF, or with SPIN UP issued from STANDBY. A bay no longer WAITING ignores it. -/
def admitBay (b : Fin 4) (p : Part) : Part :=
  let x := p.bay b
  if x.power ≠ .waiting then p
  else
    let q := p.modBay b fun x => { x with
      power := .starting, startedFrom := x.waitingFrom, waitingFrom := none
      startLeft := some x.profile.tStart, inUse := some x.profile }
    if x.waitingFrom = some .standby ∧ x.link = .locked then q.issueSpinUp b else q

/-- Admission of the SP's entry (R76, R79, R140): the SP figures are copied, the SP rail goes on, T_sp begins, and the
resume count is set to 0. -/
def admitSp (p : Part) : Part :=
  { p with
    power := { p.power with
      spRail := true, spInUse := some p.power.spProfile, tSpLeft := some p.power.spProfile.tSp }
    box := { p.box with resumeCount := some 0 } }

/-- Admit the head of the start queue (R83). -/
def admitHead (p : Part) : Part :=
  match p.power.startQueue with
  | [] => p
  | e :: rest =>
    let q : Part := { p with power := { p.power with startQueue := rest } }
    match e with
    | .bay b => q.admitBay b
    | .sp => q.admitSp

/-- IDENTIFY answered DONE: the identity is recorded, its capacity in whole blocks (R53 step 5). -/
def identityOf (sectors : Nat) (serial : List Byte) : Identity where
  capacity := min (sectors / 8) (Config.blockSpace - 1)
  serial := serial

/-- Whether the member an operation uses is foreign (R53 step 7). -/
def usesForeign (p : Part) (o : BayOp) : Bool :=
  match o.parent with
  | .request id k =>
    match p.request? id with
    | none => false
    | some r => ((p.window r.window).member ((r.frags[k]?).getD {}).member).isForeign
  | .chunk s =>
    match p.engine.chunk with
    | none => false
    | some c => ((p.window c.window).copy s).isForeign

/-- The queued operations whose parent uses a member left foreign are removed, in queue order, with the result
MEMBER_FOREIGN (R53 step 7). -/
def removeForeign (b : Fin 4) (p : Part) : Part :=
  let gone := (p.bay b).queue.filter p.usesForeign
  gone.foldl (fun q o => q.reportResult .memberForeign none o)
    (p.modBay b fun x => { x with queue := x.queue.filter fun o => !p.usesForeign o })

/-- The drive of a bay starting from OFF is identified: steps 5 to 8 of R53. -/
def identified (b : Fin 4) (i : Identity) (p : Part) : Part :=
  let q := p.modBay b fun x => { x with identity := some i, inFlight := .nothing, timeoutRun := false }
  ((q.foreignCheck b i).removeForeign b).enterReady b

/-! ## Serving the queue (R60, R61) -/

/-- Whether bay `b` issues its next command (R60). -/
def mayIssue (x : Bay) : Bool :=
  x.power == .ready && x.link == .locked && x.inFlight == .nothing && (x.healthPending || !x.queue.isEmpty)

/-- Issue the next command of bay `b`: HEALTH READ where one is pending, else the head of the queue, which goes in flight
(R60, R70); the pending flag is cleared here (DEDUCED, log entry 27). In READ_ONLY boot mode a WRITE ends at once BAY_FAULT
(R61). -/
def issueNext (b : Fin 4) (p : Part) : Part :=
  let x := p.bay b
  if x.healthPending then
    (p.modBay b fun x => { x with healthPending := false, inFlight := .healthRead }).emit (.drive b .healthRead)
  else
    match x.queue with
    | [] => p
    | o :: rest =>
      let q := p.modBay b fun x => { x with queue := rest }
      if p.readOnly ∧ o.kind = .write then q.reportResult .bayFault none o
      else (q.modBay b fun x => { x with inFlight := .op o }).issueOp b o

/-- The operation in flight at a READY bay whose link is LOCKED: the one a drive answer can end. -/
def answerable (x : Bay) : Option BayOp :=
  match x.inFlight with
  | .op o => if x.power = .ready ∧ x.link = .locked then some o else none
  | _ => none

/-- Set timeout run to 0: at any answer of the drive, those to housekeeping commands too (R62; DEDUCED, log entry 19). -/
def clearRun (b : Fin 4) (p : Part) : Part := p.modBay b fun x => { x with timeoutRun := false }

/-- The failing bay block a MEDIA ERROR answer carries to the parent: for FLUSH CACHE only where it lies within the extent
of the operation's member (R61). -/
def failingBlock (p : Part) (o : BayOp) (block : Nat) : Option Nat :=
  match o.kind, o.parent with
  | .flush, .request id k =>
    match (p.request? id).orElse fun _ => p.dropped? id with
    | none => none
    | some r => if inExtent (p.window r.window) ((r.frags[k]?).getD {}).member block then some block else none
  | .flush, .chunk _ => none
  | _, _ => some block

/-- The drive answered DONE (R61): what READ BLOCKS brings goes into the operation's slots. -/
def answerDone (b : Fin 4) (o : BayOp) (data : List Byte) (p : Part) : Part :=
  let q : Part := if o.kind = .read then
    { p with router := { p.router with data := writeStream o.slots p.router.data 0 data } } else p
  (q.clearRun b).endAnswered b o .ok none

/-- The drive answered MEDIA ERROR at a sector (R61). -/
def answerMedia (b : Fin 4) (o : BayOp) (sector : Nat) (p : Part) : Part :=
  ((p.clearRun b).recordError b .media (some (sector / 8))).endAnswered b o .media (p.failingBlock o (sector / 8))

/-- Issue again the command in flight at bay `b` with its reissue mark set (R61, R63). -/
def reissue (b : Fin 4) (o : BayOp) (p : Part) : Part :=
  (p.modBay b fun x => { x with inFlight := .op { o with reissue := true } }).issueOp b o

/-- The drive answered ABORT (R61). -/
def answerAbort (b : Fin 4) (o : BayOp) (p : Part) : Part :=
  if o.reissue then ((p.clearRun b).recordError b .timeout none).endAnswered b o .timeout none
  else (p.clearRun b).reissue b o

/-! ## Command limits and link losses (R62, R63) -/

/-- A HEALTH READ in flight is abandoned and its query answered TIMEOUT (R62 step 1), with an empty answer (DEDUCED, log entry
31). -/
def abandonHealth (b : Fin 4) (p : Part) : Part :=
  if (p.bay b).inFlight = .healthRead then (p.clearFlight b).answerQuery b .timeout .nothing else p

/-- The link of a READY or STOPPING bay begins to retrain (R63). -/
def beginRetrain (b : Fin 4) (p : Part) : Part :=
  p.modBay b fun x => { x with link := .training, retrain := x.retrain + 1 }

/-- A command in READY or STOPPING passed its 30 s limit (R62). -/
def limitExpired (b : Fin 4) (p : Part) : Part :=
  let x := p.bay b
  if x.timeoutRun then ((p.abandonHealth b).recordError b .timeout none).enterFault b
  else
    let p1 := match x.inFlight with
      | .op o => p.endUnanswered b o .timeout
      | _ => p.abandonHealth b
    ((p1.recordError b .timeout none).modBay b fun x => { x with timeoutRun := true }).beginRetrain b

/-- The rail of a bay whose STANDBY link was lost goes off: the bay starts afresh from OFF where work or a start waits
(R59). The start-after-stop flag is cleared, since the start it stands for has been requested (DESIGN CHOICE, log entry
40). -/
def standbyLinkLost (b : Fin 4) (p : Part) : Part :=
  let x := p.bay b
  let q := p.modBay b fun x => { x with power := .off, link := .down, startAfterStop := false }
  if !x.queue.isEmpty ∨ x.startAfterStop then q.requestStart b else q

/-- The link of bay `b` leaves LOCKED, by the bay's power state (R53, R54, R59, R63; WAITING from STANDBY: log entry
17). -/
def linkLost (b : Fin 4) (p : Part) : Part :=
  match (p.bay b).power with
  | .ready | .stopping => p.beginRetrain b
  | .standby => p.standbyLinkLost b
  | .waiting => p.modBay b fun x => { x with waitingFrom := some .off, link := .down }
  | .starting => p.modBay b fun x => { x with link := .training, inFlight := .nothing }
  | .absent | .off | .fault => p

/-- A READY or STOPPING bay's link is LOCKED again: what is in flight is issued again, or ends TIMEOUT where its reissue
mark was set; a stop that waited for the link is issued (R56, R63). Timeout run stays as it stands, also at that TIMEOUT
(DESIGN CHOICE, log entry 41). -/
def relocked (b : Fin 4) (p : Part) : Part :=
  let x := p.bay b
  let q := p.modBay b fun x => { x with link := .locked, retrain := 0 }
  match x.inFlight with
  | .op o => if o.reissue then q.endUnanswered b o .timeout else q.reissue b o
  | .goStandby => q.emit (.drive b .goStandby)
  | .healthRead => q.emit (.drive b .healthRead)
  | .nothing => if x.power = .stopping then q.issueStandby b else q
  | .spinUp | .identify => q

/-- The link of a TRAINING bay reaches LOCKED (R53, R54, R63). -/
def linkGained (b : Fin 4) (p : Part) : Part :=
  match (p.bay b).power with
  | .ready | .stopping => p.relocked b
  | .starting =>
    let q := p.modBay b fun x => { x with link := .locked }
    if (p.bay b).startedFrom = some .standby then q.issueSpinUp b else q
  | _ => p

/-- The health figures as recorded, clamped to the ranges of R46 (R70). -/
def healthOf (p : Part) (temperature : Int) (hours realloc : Nat) : Health where
  temperature := max (-40) (min 125 temperature)
  hours := min 65535 hours
  realloc := min 65535 realloc
  time := p.now

end Part

end Sys2Proof.Machine
end

