-- ==== Sys2Proof/Machine/Box.lean ====
section
/-! DEFINITION. The box power states (chapter 7), with the resets of the processor port that switching off the SP rail
brings (R181), and the box clock's expiries (chapter 9). -/

namespace Sys2Proof.Machine

open Sys2Proof

/-- Whom a held answer goes to once the processor port has been reset: no one (R15, R69, R181). -/
def voidPp : Answerer → Answerer
  | .pp _ _ _ => .void
  | a => a

namespace Part

/-! ## Reset of the processor port (R181) -/

/-- The processor port as a PP reset leaves it (R173): the notice set and the notice errors count are kept. -/
def ppAfterReset (q : PpPort) : PpPort := { notices := q.notices, noticeErrors := q.noticeErrors }

/-- The end of a batch of completions: one completion interrupt, if completion interrupts are on (R179). -/
def closeBatch (p : Part) : Part :=
  let q : Part := { p with pp := { p.pp with batch := false } }
  if p.pp.batch ∧ !p.pp.compIntOff then q.emit .completionInterrupt else q

/-- A reset of the processor port (R181): every PP request dropped, the port at its reset values, the answers PP commands
hold owed to no one, a FRAME_FETCH in transfer ended (R157). A batch of completions written in the event before the reset
ends ahead of it, under the interrupt mask it was written under (log entry 56). -/
def ppReset (p : Part) : Part :=
  let p1 := p.closeBatch.dropPort .pp
  let p2 := allWindows.foldl (fun q w => q.modWindow w fun v => { v with deleteFor := v.deleteFor.map voidPp }) p1
  let p3 := p2.modBays fun x => { x with stopFor := x.stopFor.map voidPp }
  { p3 with
    pp := ppAfterReset p3.pp
    matcher := { p3.matcher with transfer := none } }

/-- The SP rail is switched off (R90): its draw falls to 0, T_sp is abandoned, and the processor port is reset. -/
def spRailOff (p : Part) : Part :=
  if p.power.spRail then
    ({ p with power := { p.power with spRail := false, spInUse := none, tSpLeft := none } } : Part).ppReset
  else p

/-- The SP entry is inserted at the head of the start queue (R81). -/
def insertSp (p : Part) : Part :=
  { p with power := { p.power with startQueue := .sp :: p.power.startQueue.filter fun e => e != .sp } }

/-- The SP entry is removed from the start queue (R81). -/
def removeSp (p : Part) : Part :=
  { p with power := { p.power with startQueue := p.power.startQueue.filter fun e => e != .sp } }

/-! ## The resume record (R131, R138) -/

/-- Add a reason (R138). -/
def addReason (k : ReasonKind) (p : Part) : Part :=
  let r := p.box.resume
  let r' : ResumeRecord :=
    if r.reasons.length < Config.reasonLimit then { r with reasons := r.reasons ++ [{ kind := k, time := p.now }] }
    else { r with further := bump 255 r.further }
  { p with box := { p.box with resume := r' } }

/-- Empty the held-frame queue (R155). -/
def emptyHeld (p : Part) : Part := { p with matcher := { p.matcher with held := [] } }

/-! ## Entering a box state (R135, R136, R139) -/

/-- A box state is entered; where DORMANT is left, the copy engine seeks its next job (R105). -/
def toState (st : BoxState) (p : Part) : Part :=
  let q : Part := { p with box := { p.box with st := some st } }
  if p.box.st = some .dormant ∧ st ≠ .dormant then q.seekNext else q

/-- Entry to SLEEP (R135). Entered from DORMANT, it keeps the sleep-entry time. -/
def enterSleep (p : Part) : Part :=
  let time := if p.box.st = some .dormant then p.box.resume.entryTime else some p.now
  let q := (p.emptyHeld).toState .sleep
  { q with box := { q.box with
      phyPowered := true
      phyPath := if q.service then .sp else .standby
      rxOn := !q.service
      resume := { reasons := [], further := 0, entryTime := time } } }

/-- The order a bay is sent in DORMANT: the power-off order in STANDBY, else the stop order, which acts on a quiet bay (R88,
R136). It stops no chunk in progress (R105, R126; log entry 49). -/
def orderBay (b : Fin 4) (p : Part) : Part :=
  if (p.bay b).power = .standby then p.powerOffOrder b else p.stopBy (bayLeavesForDormant b) b

/-- Entry to DORMANT (R136), with the stop and power-off orders of the entry. -/
def enterDormant (p : Part) : Part :=
  let q := (p.emptyHeld).toState .dormant
  let q1 : Part := { q with box := { q.box with
    rxOn := false
    phyPath := if q.service then q.box.phyPath else .standby
    phyPowered := if q.service then q.box.phyPowered else false
    resume := { reasons := [], further := 0, entryTime := some p.now } } }
  allBays.foldl (fun r b => r.orderBay b) q1

/-- Entry to WAKING (R139). The admission test follows in the same event. -/
def enterWaking (p : Part) : Part :=
  let q := p.toState .waking
  ({ q with box := { q.box with
      phyPowered := true
      phyPath := if q.service then .sp else .standby
      rxOn := !q.service
      resumeCount := none
      cycled := false } } : Part).insertSp

/-! ## Wake events (R133, R134, R137) -/

/-- A wake event ends a DRAIN: the SLEEP request completes WOKEN and the box returns to RUN (R133). -/
def woken (p : Part) : Part :=
  let q : Part := { p with box := { p.box with
    st := some .run, phase := none, target := none, pendingSleep := none } }
  match p.box.pendingSleep with
  | none => q
  | some tag => q.handPp { tag := tag, status := .woken }

/-- A wake event of a kind (R137), taken by the box state. In RUN and while the state is absent it does nothing here. -/
def wakeEvent (k : ReasonKind) (p : Part) : Part :=
  match p.box.st with
  | none | some .run => p
  | some .draining => if p.box.phase = some .drain then (p.addReason k).woken else p.addReason k
  | some .sleep | some .dormant => (p.addReason k).enterWaking
  | some .waking => p.addReason k

/-- An alarm expiry handed to the power controller and, for WAKE_SPIN, to the bays (R137, R170). -/
def takeAlarm (id : Fin 8) (spins : List (Fin 4)) (p : Part) : Part :=
  let q := if p.box.st = some .run then p.raise .alarm else p.wakeEvent (.alarm id)
  q.requestStarts spins

/-- A short press (R137, R142). -/
def shortPress (p : Part) : Part := if p.box.st = some .run then p.raise .button else p.wakeEvent .button

/-- A DP attach taken by the power controller (R136, R137). -/
def takeAttach (p : Part) : Part :=
  let q := if p.box.st = some .dormant then p.enterSleep else p
  if q.box.settings.attachWakes then q.wakeEvent .dpAttach else q

/-! ## Going to sleep and forced stops (R132, R134, R141, R142) -/

/-- The DRAIN phase ends: SLEEP is completed OK and the phase becomes GRACE, its count not yet running (R132). -/
def drainEnds (p : Part) : Part :=
  let q : Part := { p with box := { p.box with phase := some .grace, pendingSleep := none, grace := none } }
  match p.box.pendingSleep with
  | none => q
  | some tag => q.handPp { tag := tag, status := .ok, isSleep := true }

/-- Whether the DRAIN phase ends (R132). -/
def draining (p : Part) : Bool :=
  p.box.st == some .draining && p.box.phase == some .drain && p.router.ppCount == 0

/-- The end of grace (R134). Where the box goes on to WAKING, the SP entry is at the head of the start queue before the
admission test that the rail's switching off brings (R90), which comes with the event's other consequences (DESIGN CHOICE, log
entry 42). -/
def graceEnds (p : Part) : Part :=
  let target := p.box.target
  let p1 := p.spRailOff
  let p2 := ({ p1 with box := { p1.box with
    phase := none, target := none, grace := none
    resume := { p1.box.resume with entryTime := some p.now } } } : Part).emptyHeld
  if !p2.box.resume.reasons.isEmpty then p2.enterWaking
  else if target = some .sleep ∨ p2.dp.attached then p2.enterSleep
  else p2.enterDormant

/-- The grace count begins (R132). -/
def beginGrace (p : Part) : Part := { p with box := { p.box with grace := some p.box.settings.grace } }

/-- Whether the box is in GRACE. -/
def inGrace (p : Part) : Bool := p.box.st == some .draining && p.box.phase == some .grace

/-- The resume limit has expired in WAKING (R141). At the first expiry the SP entry is at the head of the start queue before
the admission test that the rail's switching off brings (R90), which comes with the event's other consequences (DESIGN
CHOICE, log entry 42). -/
def resumeExpires (p : Part) : Part :=
  let p1 := p.spRailOff
  if p.box.cycled then
    ({ p1 with box := { p1.box with resumeCount := none, noResume := true } } : Part).raise .spNoResume |>.enterSleep
  else ({ p1 with box := { p1.box with resumeCount := none, cycled := true } } : Part).insertSp

/-- A forced stop (R142): nothing in DORMANT, nor in SLEEP with the DP attached. -/
def forcedStop (p : Part) : Part :=
  if p.box.st = some .dormant ∨ (p.box.st = some .sleep ∧ p.dp.attached) then p
  else
    let p1 := p.removeSp.spRailOff
    let p2 : Part := { p1 with box := { p1.box with
      phase := none, target := none, pendingSleep := none, grace := none, resumeCount := none, cycled := false } }
    if p2.dp.attached then p2.enterSleep else p2.enterDormant

/-- What a PCIe link reset does to the box besides the port's own reset (R132): in DRAIN the SLEEP is dropped and the box
returns to RUN; in GRACE before the count has begun the count begins. -/
def linkResetBox (p : Part) : Part :=
  if p.box.st = some .draining then
    match p.box.phase, p.box.grace with
    | some .drain, _ =>
      { p with box := { p.box with st := some .run, phase := none, target := none, pendingSleep := none } }
    | some .grace, none => p.beginGrace
    | _, _ => p
  else p

/-! ## Events held during start-up (R144) -/

/-- Hold an event while the box state is absent. -/
def hold (e : HeldEvent) (p : Part) : Part :=
  { p with box := { p.box with heldEvents := p.box.heldEvents ++ [e] } }

/-- Take a held event in the box state the events before it have left (R144). -/
def takeHeld (e : HeldEvent) (p : Part) : Part :=
  match e with
  | .alarm id spins => p.takeAlarm id spins
  | .shortPress => p.shortPress
  | .longPress => p.forcedStop
  | .attach => p.takeAttach
  | .boxWake => p.wakeEvent .sc
  | .forceDormant => if p.dp.attached then p else p.forcedStop

/-- The first box state at the end of the load, and the held events in order (R144). The first state and every held event are
taken before the admission test (R83) that any of them brings, which is made with the event's other consequences (DESIGN
CHOICE, log entry 87). -/
def firstState (p : Part) : Part :=
  let events := p.box.heldEvents
  let p1 : Part := { p with box := { p.box with heldEvents := [] } }
  let p2 :=
    if p1.box.settings.startOnPower then p1.enterWaking
    else if p1.dp.attached then p1.enterSleep
    else p1.enterDormant
  events.foldl (fun q e => q.takeHeld e) p2

/-! ## The box clock (chapter 9) -/

/-- Insert an alarm after every alarm of equal or lower time (R166). -/
def insertAlarm (a : Alarm) : List Alarm → List Alarm
  | [] => [a]
  | x :: l => if x.time ≤ a.time then x :: insertAlarm a l else a :: x :: l

/-- The alarm as it is set again after an expiry at counter `v`, if it repeats and its new time can be held (R171). -/
def rearm (a : Alarm) (v : Nat) : Option Alarm :=
  if a.interval = 0 then none
  else
    let t := a.time + ((v - a.time) / a.interval + 1) * a.interval
    if t ≤ Config.maxSeconds then some { a with time := t } else none

/-- Hand on an expired alarm's action (R170): to the main domain while it runs, held with the other events while the box
state is absent; into the undelivered expiries while the main domain is held. -/
def handAlarm (a : Alarm) (p : Part) : Part :=
  if p.held then
    if p.clock.undelivered.any fun u => u.id == a.id then p
    else { p with clock := { p.clock with
      undelivered := p.clock.undelivered ++ [{ id := a.id, spins := a.spins }] } }
  else if p.box.st.isNone then p.hold (.alarm a.id a.spins)
  else p.takeAlarm a.id a.spins

/-- Expire the head of the alarm list: it is removed, its action handed on, and it is set again if it repeats (R169). -/
def expireHead (p : Part) : Part :=
  match p.clock.alarms with
  | [] => p
  | a :: l =>
    let q := ({ p with clock := { p.clock with alarms := l } } : Part).handAlarm a
    match rearm a q.clock.counter with
    | none => q
    | some b => { q with clock := { q.clock with alarms := insertAlarm b q.clock.alarms } }

/-- Whether the head of the alarm list is due. -/
def alarmDue (p : Part) : Bool :=
  match p.clock.alarms with
  | [] => false
  | a :: _ => decide (a.time ≤ p.clock.counter)

/-- The expiry pass (R169). An alarm set again is not taken twice, so as many steps as the list has alarms suffice. -/
def expiryPass (p : Part) : Part :=
  (List.range p.clock.alarms.length).foldl (fun q _ => if q.alarmDue then q.expireHead else q) p

/-! ## Ticks of the main domain's timers (R79, R86, R87, R116, R134, R140) -/

/-- A count of ticks left, one tick on. -/
def tickDown (n : Nat) : Nat := n - 1

/-- T_start of bay `b` advances; at its end the start has failed (R55, R79). -/
def startFails (b : Fin 4) (p : Part) : Part :=
  if (p.bay b).power = .starting then (p.recordError b .start none).enterFault b else p

/-- One tick of T_start of bay `b`. -/
def tickStart (p : Part) (b : Fin 4) : Part :=
  match (p.bay b).startLeft with
  | none => p
  | some n =>
    let q := p.modBay b fun x => { x with startLeft := some (tickDown n) }
    if tickDown n = 0 then q.startFails b else q

/-- T_sp ends (R79). -/
def spSettled (p : Part) : Part := { p with power := { p.power with tSpLeft := none } }

/-- One tick of T_sp. -/
def tickSp (p : Part) : Part :=
  match p.power.tSpLeft with
  | none => p
  | some n => if tickDown n = 0 then p.spSettled else { p with power := { p.power with tSpLeft := some (tickDown n) } }

/-- One tick of the grace count (R134). -/
def tickGrace (p : Part) : Part :=
  match p.box.grace with
  | none => p
  | some n =>
    if !p.inGrace then p
    else if tickDown n = 0 then p.graceEnds else { p with box := { p.box with grace := some (tickDown n) } }

/-- One tick of the resume count (R140, R141). -/
def tickResume (p : Part) : Part :=
  match p.box.resumeCount with
  | none => p
  | some n =>
    if p.box.st ≠ some .waking ∨ !p.power.spRail then p
    else if p.box.settings.resumeLimit ≤ n + 1 then p.resumeExpires
    else { p with box := { p.box with resumeCount := some (n + 1) } }

/-- One tick of bay `b`'s idle counter (R86, R87). -/
def tickIdle (p : Part) (b : Fin 4) : Part :=
  let x := p.bay b
  let n := bump 65535 x.idle
  if x.quiet then
    let q := p.modBay b fun x => { x with idle := n }
    if x.profile.idleStandby ≠ 0 ∧ x.profile.idleStandby ≤ n then q.stopOrder b else q
  else if x.power = .standby then
    let q := p.modBay b fun x => { x with idle := n }
    if x.profile.mayPowerOff ∧ x.profile.idleOff ≠ 0 ∧ x.profile.idleOff ≤ n then q.powerOffOrder b else q
  else p

/-- The starts a compare chunk due at the start of a pass asks for (R117), the primary's bay ahead of the secondary's (DESIGN
CHOICE, log entry 45). -/
def passStarts (w : Fin 16) (p : Part) : Part :=
  let v := p.window w
  match v.patrol with
  | none => p
  | some r =>
    if r.region = 0 ∧ r.chunk = 0 ∧ v.wakesAttr ∧ v.st = .opened ∧ v.lost.isNone ∧ p.box.st ≠ some .dormant then
      (p.wakeBay (v.copy .primary).bay).wakeBay (v.copy .secondary).bay
    else p

/-- A compare chunk of window `w` falls due (R116, R117). -/
def patrolFallsDue (w : Fin 16) (p : Part) : Part :=
  let already := (p.window w).due
  let q := p.modWindow w fun v => { v with timer := 0, due := true }
  (if already then q else q.seekNext).passStarts w

/-- Whether a window's patrol timer runs (R116). -/
def patrolRuns (v : Window) : Bool := v.st == .opened && v.patrol.isSome && v.interval != 0

/-- One tick of window `w`'s patrol timer (R116). -/
def tickPatrol (p : Part) (w : Fin 16) : Part :=
  let v := p.window w
  if patrolRuns v then
    if v.interval ≤ v.timer + 1 then p.patrolFallsDue w else p.modWindow w fun v => { v with timer := v.timer + 1 }
  else p

/-- The main domain takes a tick: T_start, T_sp, grace, resume count, idle counters, patrol timers (log entry 18). -/
def tickMain (p : Part) : Part :=
  let p1 := allBays.foldl tickStart p
  let p2 := ((p1.tickSp).tickGrace).tickResume
  let p3 := allBays.foldl tickIdle p2
  allWindows.foldl tickPatrol p3

end Part

end Sys2Proof.Machine
end

