-- ==== Sys2Proof/Machine/Ports.lean ====
section
/-! DEFINITION. The ports' own parts: the processor port's rings, data movement and completions (sections 10.1 to 10.6), the
direct port's pipes (section 10.7) and the management port's transactions (section 11.1). -/

namespace Sys2Proof.Machine

open Sys2Proof

namespace Part

/-! ## The processor port -/

/-- The port reads the 64 bytes of its next record at the submission base + 64 × fetch position (R176). -/
def readRecord (p : Part) : Part := p.emit (.spRead (p.pp.subBase + 64 * p.pp.fetchPos) 64)

/-- A record is fetched (R176): it is read, the fetch position advances, and one more answer is owed. -/
def fetched (p : Part) : Part :=
  let q := p.readRecord
  { q with pp := { p.pp with fetchPos := (p.pp.fetchPos + 1) % p.pp.subSize, owed := p.pp.owed + 1 } }

/-- The port reads a record's operands from the operand address, where they do not stand in the record (R202). -/
def readOperands (r : List Byte) (p : Part) : Part :=
  match operandRead r with
  | none => p
  | some x => p.emit (.spRead x.1 x.2)

/-- Whether the values of the set-up words can start the rings (R174). -/
def setupFits (q : PpPort) : Bool :=
  q.subBase % 64 == 0 && q.compBase % 16 == 0
    && decide (2 ≤ q.subSize ∧ q.subSize ≤ 1024) && decide (2 ≤ q.compSize ∧ q.compSize ≤ 1024)

/-- One more notice error. -/
def noticeError (p : Part) : Part := { p with pp := { p.pp with noticeErrors := bump 255 p.pp.noticeErrors } }

/-- Whether the PP notice set holds a kind that is not masked. -/
def unmaskedNotice (p : Part) : Bool := p.pp.notices.any fun k => k ∉ p.pp.masked

/-- A write to a set-up word (R174): recorded while the set-up is UNSET, whatever the SP rail (DESIGN CHOICE, log entry 63). -/
def setupWord (w : SetupWord) (v : Nat) (p : Part) : Part :=
  if p.pp.setup ≠ .unset then p
  else
    match w with
    | .submissionBase => { p with pp := { p.pp with subBase := v } }
    | .submissionSize => { p with pp := { p.pp with subSize := v } }
    | .completionBase => { p with pp := { p.pp with compBase := v } }
    | .completionSize => { p with pp := { p.pp with compSize := v } }

/-- A write to the ring start word (R174), whatever the SP rail (DESIGN CHOICE, log entry 63). A value other than 1 is ignored
(DESIGN CHOICE, log entry 72). -/
def ringStart (v : Nat) (p : Part) : Part :=
  if p.pp.setup ≠ .unset ∨ v ≠ 1 then p
  else if setupFits p.pp then
    let q : Part := { p with pp := { p.pp with
      setup := .set, tail := 0, fetchPos := 0, head := 0, compPos := 0, phase := true } }
    if q.unmaskedNotice then q.emit .noticeInterrupt else q
  else p.noticeError

/-- A write to the submission tail notice (R175). In ERROR it is ignored (log entry 22). -/
def tailNotice (v : Nat) (p : Part) : Part :=
  if p.pp.setup ≠ .set then p
  else if v < p.pp.subSize then { p with pp := { p.pp with tail := v } }
  else p.noticeError

/-- A write to the completion head notice (R175). -/
def headNotice (h : Nat) (p : Part) : Part :=
  let q := p.pp
  if q.setup = .unset then p
  else if h < q.compSize ∧ (h + q.compSize - q.head) % q.compSize ≤ p.unread then
    { p with pp := { q with head := h } }
  else p.noticeError

/-- A write to the interrupt mask (R180, R204). Unmasking a kind that stands in the notice set sends one notice interrupt
(log entry 23). It acts whatever the SP rail (DESIGN CHOICE, log entry 63). -/
def maskWrite (w : Word16) (p : Part) : Part :=
  let masked := noticesOfWord w
  let q : Part := { p with pp := { p.pp with compIntOff := w.getLsbD 15, masked := masked } }
  if p.pp.notices.any fun k => k ∈ p.pp.masked && k ∉ masked then q.emit .noticeInterrupt else q

/-- The read of a record is answered with an error (R176): the record is not taken. -/
def fetchError (p : Part) : Part :=
  let q := p.readRecord
  { q with pp := { p.pp with setup := .error } }

/-- What a read of a word of the port's window gives while the SP rail is on (section 10.1, R187); with the rail off the window
is not reached. A read changes nothing. -/
def readWord (p : Part) (w : PpWord) : Option PpWordValue :=
  if !p.power.spRail then none
  else some (match w with
    | .submissionBase => .number p.pp.subBase
    | .submissionSize => .number p.pp.subSize
    | .completionBase => .number p.pp.compBase
    | .completionSize => .number p.pp.compSize
    | .ringStart => .number 0
    | .tailNotice => .number p.pp.tail
    | .headNotice => .number p.pp.head
    | .noticeSet => .bits (wordOfNotices p.pp.notices)
    | .interruptMask => .bits (wordOfNotices p.pp.masked ||| (if p.pp.compIntOff then 0x8000 else 0))
    | .portStatus => .status p.pp.setup p.pp.noticeErrors)

/-- Whether the port writes the head of its internal completion list (R179). -/
def mayPost (p : Part) : Bool := p.pp.setup != .unset && !p.pp.list.isEmpty && p.ringRoom

/-- Write the head of the internal completion list into the completion ring, as one of the event's batch (R179); the writing
of the SLEEP completion begins the grace count (R132). -/
def postOne (p : Part) : Part :=
  match p.pp.list with
  | [] => p
  | c :: rest =>
    let wraps := decide (p.pp.compPos + 1 = p.pp.compSize)
    let q := p.emit (.completion (p.pp.compBase + 16 * p.pp.compPos) (completionBytes c p.pp.phase false))
    let q1 : Part := { q with pp := { q.pp with
      list := rest
      compPos := if wraps then 0 else p.pp.compPos + 1
      phase := if wraps then !p.pp.phase else p.pp.phase
      owed := p.pp.owed - 1
      batch := true } }
    if c.isSleep ∧ q1.inGrace ∧ q1.box.grace = none then q1.beginGrace else q1

/-- The outstanding PP request that carries a tag, where it is of a kind and in a life state. -/
def ppRequest (p : Part) (tag : Tag) (kind : ReqKind) (life : Life) : Option Request :=
  p.router.requests.find? fun r => r.port == .pp && r.tag == tag && r.kind == kind && r.life == life

/-- The first `n` addresses a buffer list gives, 8 bytes each, as far as the bytes that came of it go (R178; log entry 20). -/
def bufferAddresses (n : Nat) (list : List Byte) : List Nat :=
  (List.range (min n (list.length / 8))).map fun i => leField list (8 * i) 8

/-- The read of a request's buffer list: n addresses of 8 bytes each (R178). -/
def listRead (r : Request) : Output := .spRead r.bufList (8 * r.count)

/-- A WRITE's data is read (R178): its buffer list, and then, one after another, its first `k` blocks, block i from the i-th
address; the bytes `data` that came of them are in its slots. -/
def takeBlocks (r : Request) (list : List Byte) (k : Nat) (data : List Byte) (p : Part) : Part :=
  { p with
    out := p.out ++ listRead r :: ((bufferAddresses r.count list).take k).map fun a => .spRead a Config.blockBytes
    router := { p.router with data := writeStream r.slots p.router.data 0 data } }

/-- A READ's data is delivered (R178): its buffer list is read, and slot i's bytes are written to the i-th address, as far as the
bytes that came of the list go. -/
def deliverBlocks (r : Request) (list : List Byte) (p : Part) : Part :=
  { p with out := p.out ++ listRead r ::
      (r.slots.zip (bufferAddresses r.count list)).map fun x => .spWrite x.2 (readSlot p.router.data x.1) }

/-- The last block of a PP WRITE is in its slot (R35, R178). -/
def writeTaken (tag : Tag) (list data : List Byte) (p : Part) : Part :=
  match p.ppRequest tag .write .dataIn with
  | none => p
  | some r => (p.takeBlocks r list r.count data).modRequest r.id fun r => { r with life := .routing }

/-- The last write of a PP READ's delivery has been issued, and the request is COMPLETE (R41, R178). -/
def readDelivered (tag : Tag) (list : List Byte) (p : Part) : Part :=
  match p.ppRequest tag .read .dataOut with
  | none => p
  | some r => (p.deliverBlocks r list).complete r (r.outcome.getD .ok)

/-- The SP memory read of an outstanding request's buffer list is answered with an error (R178), and the request ends
TRANSFER_ERROR. A WRITE has read no block then; a READ has written the blocks whose addresses had come (DESIGN CHOICE, log entry
77). -/
def listError (tag : Tag) (came : List Byte) (p : Part) : Part :=
  match p.ppRequest tag .write .dataIn with
  | some r => (p.takeBlocks r [] 0 []).complete r .transferError
  | none =>
    match p.ppRequest tag .read .dataOut with
    | some r => (p.deliverBlocks r came).complete r .transferError
    | none => p

/-- The SP memory read of block `i` of a PP WRITE is answered with an error (R178): the blocks before it are in their slots, those
after it are not read, and the WRITE ends TRANSFER_ERROR. No block of a READ is read, and no request has a block beyond its count
(log entry 5). -/
def blockError (tag : Tag) (list : List Byte) (i : Nat) (data : List Byte) (p : Part) : Part :=
  match p.ppRequest tag .write .dataIn with
  | none => p
  | some r =>
    if i < r.count then (p.takeBlocks r list (i + 1) (data.take (i * Config.blockBytes))).complete r .transferError else p

/-! ## The direct port -/

/-- A record is taken from the out pipe (R183): one more answer is owed. -/
def taken (p : Part) : Part := { p with dp := { p.dp with owed := p.dp.owed + 1 } }

/-- One more framing error. -/
def framingError (p : Part) : Part := { p with dp := { p.dp with framing := bump 255 p.dp.framing } }

/-- A WRITE record taken from the out pipe (R183): accepted, the pipe is held until its slots are granted; refused with a
count of 1 to 256, its data is discarded. -/
def dpWrite (a : Ask) (p : Part) : Part :=
  let q := p.takeRequest a
  if (firstRefusal (p.requestChecks a)).isNone then
    { q with dp := { q.dp with out := .hold, writing := some p.router.nextId } }
  else if 1 ≤ a.count ∧ a.count ≤ Config.maxCount then
    { q with dp := { q.dp with out := .discard, remaining := a.count * Config.blockBytes } }
  else q

/-- A unit on the out pipe in DATA (R183): its bytes go into the WRITE's slots; at the last the WRITE ends DATA_IN and the
state becomes RECORD; bytes beyond are discarded with a framing error. -/
def dpData (bytes : List Byte) (p : Part) : Part :=
  if p.dp.out ≠ .data then p
  else
    match p.dp.writing.bind p.request? with
    | none => p
    | some r =>
      let n := min bytes.length p.dp.remaining
      let at_ := r.count * Config.blockBytes - p.dp.remaining
      let q : Part := { p with
        router := { p.router with data := writeStream r.slots p.router.data at_ (bytes.take n) }
        dp := { p.dp with remaining := p.dp.remaining - n } }
      if p.dp.remaining ≤ bytes.length then
        let q1 := ({ q with dp := { q.dp with out := .record, writing := none } } : Part).modRequest r.id
          fun r => { r with life := .routing }
        if p.dp.remaining < bytes.length then q1.framingError else q1
      else q

/-- Bytes on the out pipe in DISCARD (R183). Bytes of a transfer beyond the last that is due are discarded too, and counted in
no framing error (DESIGN CHOICE, log entry 65). -/
def dpDiscard (n : Nat) (p : Part) : Part :=
  if p.dp.out ≠ .discard then p
  else if p.dp.remaining ≤ n then { p with dp := { p.dp with remaining := 0, out := .record } }
  else { p with dp := { p.dp with remaining := p.dp.remaining - n } }

/-- The data of the READ at the head of the send list has been sent: the request is COMPLETE and its completion is next
(R184). -/
def dpReadSent (p : Part) : Part :=
  match p.dp.sendList with
  | .readData id :: rest =>
    match p.request? id with
    | none => { p with dp := { p.dp with sendList := rest } }
    | some r =>
      let st := r.outcome.getD .ok
      let q := (p.emit (.dpUnit (readSlots p.router.data r.slots))).removeRequest r []
      { q with dp := { q.dp with sendList := .completion none {
          tag := r.tag, status := st, result := resultBytes (.failing (failingOf r st)) } :: rest } }
  | _ => p

/-- The completion at the head of the send list has been sent, its answer unit ahead of it (R184): the first after an attach
carries DP_ATTACH. -/
def dpCompletionSent (p : Part) : Part :=
  match p.dp.sendList with
  | .completion ans c :: rest =>
    let q := match ans with
      | none => p
      | some b => p.emit (.dpUnit b)
    let q1 := q.emit (.dpUnit (completionBytes c false p.dp.attachPending))
    { q1 with dp := { q1.dp with sendList := rest, owed := p.dp.owed - 1, attachPending := false } }
  | _ => p

/-- An attach is taken (R182); it goes to the power controller, which holds it during start-up (R144). -/
def attach (p : Part) : Part :=
  if p.dp.attached then p
  else
    let q := ({ p with dp := { p.dp with attached := true, attachPending := true } } : Part).raise .dpAttach
    if q.box.st.isNone then q.hold .attach else q.takeAttach

/-- A detach is taken (R185); an attach held during start-up is discarded (R144). -/
def detach (p : Part) : Part :=
  if p.dp.attached then
    let q := p.dropPort .dp
    ({ q with
      dp := { framing := q.dp.framing }
      box := { q.box with heldEvents := q.box.heldEvents.filter fun e => e != .attach } } : Part).raise .dpDetach
  else p

/-! ## The management port -/

/-- One more overrun (R189). -/
def overrun (p : Part) : Part := { p with mp := { p.mp with overruns := bump 255 p.mp.overruns } }

/-- A whole command frame is taken (R189, R190): a reply not read is emptied, and the state becomes EXECUTING. -/
def frameTaken (seq : Byte) (kind : Option Kind) (p : Part) : Part :=
  { p with mp := { p.mp with
    st := .executing, execKind := kind, execSeq := seq, reply := none, late := false, readPos := 0 } }

/-- A reply frame without an answer and not from the slot: PENDING or NONE (R191). -/
def shortReply (seq : Byte) (st : Status) : List Byte :=
  replyFrame { seq := seq, status := st, length := 0, bytes := [] }

/-- PENDING is sent and late reply set (R191). -/
def sendPending (n : Nat) (p : Part) : Part :=
  ({ p with mp := { p.mp with late := true, heldRead := none } } : Part).emit
    (.mpBytes ((shortReply p.mp.execSeq .pending).take n))

/-- A read transaction of up to `n` bytes (R191); a second while one is held changes nothing (DEDUCED, log entry 24). -/
def mpRead (n : Nat) (p : Part) : Part :=
  match p.mp.st with
  | .idle => p.emit (.mpBytes ((shortReply 0 .none).take n))
  | .executing =>
    match p.mp.mode with
    | .notify => p.sendPending n
    | .hold => if p.mp.heldRead.isSome then p else { p with mp := { p.mp with heldRead := some n } }
  | .replyReady => p.sendReply n

/-- The 25 ms of a held read pass without an answer (R191). -/
def holdTimeout (p : Part) : Part :=
  match p.mp.st, p.mp.heldRead with
  | .executing, some n => p.sendPending n
  | _, _ => p

/-- The MP commands a start-up load answers BUSY (R195). -/
def busyInLoad : Kind → Bool
  | .windowDefine | .windowDelete | .replaceMember | .profileSet | .budgetSet | .patrolSet | .wakeEntrySet
  | .stationSet | .configLoad | .configSave => true
  | _ => false

end Part

end Sys2Proof.Machine
end

