-- ==== Sys2Proof/Machine/WindowCommands.lean ====
section
/-! DEFINITION. What WINDOW_DEFINE, WINDOW_DELETE, REPLACE_MEMBER and WINDOW_INFO do when the window table takes them
(chapter 1). -/

namespace Sys2Proof.Machine

open Sys2Proof

namespace Part

/-- Give the first refusal of some checks, or do `f` where every check passes (section 0.12). -/
def checked (who : Answerer) (checks : List (Bool × Status)) (f : Part → Part) (p : Part) : Part :=
  match firstRefusal checks with
  | some st => p.reply who st
  | none => f p

/-- Give `f` of the window an index names, or BAD_REQUEST. -/
def onWindow (who : Answerer) (index : Nat) (f : Fin 16 → Part → Part) (p : Part) : Part :=
  match windowOf index with
  | some w => f w p
  | none => p.reply who .badRequest

/-- Give `f` of the bay a number names, or BAD_REQUEST (section 3.6). -/
def onBay (who : Answerer) (n : Nat) (f : Fin 4 → Part → Part) (p : Part) : Part :=
  match bayOf n with
  | some b => f b p
  | none => p.reply who .badRequest

/-- Record a definition that passed its checks (R11). -/
def recordWindow (w : Fin 16) (d : WindowDef) (p : Part) : Part :=
  let v := windowOfDef d
  p.modWindow w fun _ => { v with members := v.members.map p.bindMember }

/-- WINDOW_DEFINE (R7, R11). -/
def windowDefine (d : WindowDef) (who : Answerer) (p : Part) : Part :=
  p.onWindow who d.index fun w p =>
    p.checked who (p.defineChecks w d) fun p => (p.recordWindow w d).reply who .ok

/-- The checks of R13. -/
def deleteChecks (p : Part) (w : Fin 16) : List (Bool × Status) :=
  let v := p.window w
  [(v.inUse, .noWindow),
   (v.st != .closing, .busy),
   (!(p.engine.log.any fun e => e.window == w) && v.cursor.isNone, .resyncPending)]

/-- WINDOW_DELETE (R13): the answer is held until the window becomes FREE, which may be in the same event (R15). -/
def windowDelete (index : Nat) (who : Answerer) (p : Part) : Part :=
  p.onWindow who index fun w p =>
    p.checked who (p.deleteChecks w) fun p =>
      p.modWindow w fun v => { v with st := .closing, deleteFor := some who }

/-- The member a REPLACE_MEMBER gives window `w`. -/
def newMember (b : Fin 4) (base : Nat) : Member := { bay := b, base := base }

/-- The checks of R19 after the first, for window `w`, copy `s`, bay `b` and base. -/
def replaceChecks (p : Part) (w : Fin 16) (s : Side) (b : Fin 4) (base : Nat) : List (Bool × Status) :=
  let v := p.window w
  let others := p.otherWindows w
  [(!p.readOnly, .readOnly),
   (v.inUse, .noWindow),
   (v.st != .closing, .busy),
   (v.layout == .mirror, .badRequest),
   (v.lost == some s, .wrongState),
   (v.cursor.isNone, .busy),
   ((v.copy (otherSide s)).bay != b, .badRequest),
   ((p.bay b).identity.isSome, .bayUnknown),
   (p.memberFits v (newMember b base), .range),
   (others.all (fun x => !x.inUse || x.members.all fun m =>
      m.bay != b || (!sharesBlock base v.extentLen m.base x.extentLen && x.layout != .whole)), .overlap)]

/-- REPLACE_MEMBER (R19): the member is bound to the drive in its bay, and a rebuild onto it starts (R110). -/
def replaceMember (index : Nat) (which : Option Side) (bay base : Nat) (who : Answerer) (p : Part) : Part :=
  match windowOf index, which, bayOf bay with
  | some w, some s, some b =>
    if base < Config.blockSpace then
      p.checked who (p.replaceChecks w s b base) fun p =>
        let m := p.bindMember (newMember b base)
        ((p.modWindow w fun v => { v with members := v.members.set (sideIndex s) m }).startRebuild w).reply who .ok
    else p.reply who .badRequest
  | _, _, _ => p.reply who .badRequest

/-- A right as WINDOW_INFO shows it (R3). -/
def shownRight (p : Part) (r : Right) : Right := if p.readOnly ∧ r = .readWrite then .read else r

/-- The whole record of a window in use (R16, R127). -/
def windowReport (p : Part) (w : Fin 16) : WindowReport :=
  let v := p.window w
  { index := w, st := v.st, layout := v.layout, length := v.length, unit := v.unit
    ppRight := p.shownRight v.ppRight, dpRight := p.shownRight v.dpRight
    lazyAttr := v.lazyAttr, patrolAttr := v.patrolAttr, wakesAttr := v.wakesAttr, label := v.label
    inFlight := v.inFlight, lost := v.lost, cursor := v.cursor, patrol := v.patrol, interval := v.interval
    members := v.members }

/-- The window list of the PP and the MP (R16). -/
def windowLines (p : Part) : List WindowLine :=
  p.usedWindows.map fun w =>
    let v := p.window w
    { index := w, st := v.st, layout := v.layout, length := v.length
      ppRight := p.shownRight v.ppRight, dpRight := p.shownRight v.dpRight, label := v.label }

/-- The window list of the DP (R16). -/
def dpWindowLines (p : Part) : List DpWindowLine :=
  (allWindows.filter fun w => (p.window w).st == .opened && (p.window w).dpRight != .none).map fun w =>
    let v := p.window w
    { index := w, layout := v.layout, length := v.length, dpRight := p.shownRight v.dpRight, label := v.label }

/-- The answer WINDOW_INFO gives (R16). -/
def windowAnswer (p : Part) (w : Fin 16) : Answer :=
  if (p.window w).inUse then .window (p.windowReport w) else .windowFree w

/-- WINDOW_INFO (R16): on the DP the list of its windows whatever the index; elsewhere one window or the list. -/
def windowInfo (index : Option Nat) (who : Answerer) (p : Part) : Part :=
  match who, index with
  | .dp _, _ => p.answer who .ok (.dpWindowList p.dpWindowLines)
  | _, none => p.answer who .ok (.windowList p.windowLines)
  | _, some i => p.onWindow who i fun w p => p.answer who .ok (p.windowAnswer w)

end Part

end Sys2Proof.Machine
end

