-- ==== Sys2Proof/Machine/BayCommands.lean ====
section
/-! DEFINITION. What BAY_INFO, BAY_SPIN, BAY_STOP, BAY_CLEAR and BAY_QUERY do when a bay controller takes them
(section 3.6). -/

namespace Sys2Proof.Machine

open Sys2Proof

namespace Part

/-- What BAY_INFO says is in flight (R67). -/
def flightReport : InFlight → InFlightReport
  | .nothing => .nothing
  | .op o => .op o.kind o.origin
  | .spinUp => .spinUp
  | .goStandby => .goStandby
  | .identify => .identify
  | .healthRead => .healthRead

/-- The answer of BAY_INFO (R67, R91). -/
def bayReport (x : Bay) : BayReport where
  present := x.present
  power := x.power
  waitingFrom := x.waitingFrom
  link := x.link
  retrain := x.retrain
  startAfterStop := x.startAfterStop
  serviceHold := x.serviceHold
  identity := x.identity
  health := x.health
  queued := x.queue.length
  inFlight := flightReport x.inFlight
  firstError := x.firstError
  errorCount := x.errorCount
  profile := x.profile

/-- BAY_INFO (R67). -/
def bayInfo (n : Nat) (who : Answerer) (p : Part) : Part :=
  p.onBay who n fun b p => p.answer who .ok (.bay (bayReport (p.bay b)))

/-- BAY_SPIN (R68): through the MP it releases the service hold. -/
def baySpin (n : Nat) (who : Answerer) (p : Part) : Part :=
  p.onBay who n fun b p =>
    let x := p.bay b
    match x.power with
    | .absent => p.reply who .bayAbsent
    | .fault => p.reply who .bayFault
    | .off | .waiting | .starting | .ready | .stopping | .standby =>
      if x.serviceHold then
        if who = .mp then ((p.modBay b fun x => { x with serviceHold := false }).requestStart b).reply who .ok
        else p.reply who .wrongState
      else (p.requestStart b).reply who .ok

/-- BAY_STOP (R69): the answer is held where the bay must first stop. -/
def bayStop (n : Nat) (who : Answerer) (p : Part) : Part :=
  p.onBay who n fun b p =>
    let x := p.bay b
    match x.power with
    | .standby | .off => p.reply who .ok
    | .ready =>
      if x.quiet then (p.modBay b fun x => { x with stopFor := x.stopFor ++ [who] }).stopOrder b
      else p.reply who .busy
    | .stopping => p.modBay b fun x => { x with startAfterStop := false, stopFor := x.stopFor ++ [who] }
    | .waiting | .starting => p.reply who .busy
    | .absent => p.reply who .bayAbsent
    | .fault => p.reply who .bayFault

/-- BAY_CLEAR (R66). -/
def bayClear (n : Nat) (who : Answerer) (p : Part) : Part :=
  p.onBay who n fun b p =>
    (p.modBay b fun x =>
      let y : Bay := { x with firstError := none, errorCount := 0 }
      if x.power = .fault then { y with power := .off, link := .down } else y).reply who .ok

/-- BAY_QUERY (R70). -/
def bayQuery (n : Nat) (noWake : Bool) (who : Answerer) (p : Part) : Part :=
  p.onBay who n fun b p =>
    let x := p.bay b
    let pend (q : Part) : Part := q.modBay b fun x => { x with healthPending := true, queryHeld := true }
    match x.power with
    | .ready => pend p
    | .off | .waiting | .starting | .stopping | .standby =>
      if noWake ∨ x.serviceHold then p.answer who .ok (.health x.health) else (pend p).requestStart b
    | .absent => p.reply who .bayAbsent
    | .fault => p.answer who .bayFault (.health x.health)

end Part

end Sys2Proof.Machine
end

