-- ==== Sys2Proof/Machine/Settings.lean ====
section
/-! DEFINITION. The settings commands of the power controller, the copy engine and the wake matcher (R73, R77, R115, R158,
R159), with the checks that the configuration image shares (R196). -/

namespace Sys2Proof.Machine

open Sys2Proof

/-! ## Budget and profiles (R73, R77) -/

/-- Whether budget figures pass the checks of R73 against profiles. -/
def budgetFits (b bLow : Nat) (sp : SpProfile) (bays : List BayProfile) : Bool :=
  decide (100 ≤ b ∧ b ≤ 4000 ∧ 100 ≤ bLow ∧ bLow ≤ 4000)
    && decide (sp.sUp ≤ b ∧ sp.sUp ≤ bLow)
    && bays.all fun x => decide (x.pUp ≤ b ∧ x.pUp ≤ bLow)

/-- Whether a bay profile passes checks 2 to 4 of R77 against budget figures. -/
def bayProfileFits (x : BayProfile) (b bLow : Nat) : Bool :=
  decide (x.pUp ≤ 600 ∧ x.pRun ≤ 300 ∧ x.pStby ≤ 100 ∧ 5 ≤ x.tStart ∧ x.tStart ≤ 60
      ∧ x.idleStandby ≤ 65535 ∧ x.idleOff ≤ 65535)
    && decide (x.pStby ≤ x.pRun ∧ x.pRun ≤ x.pUp)
    && decide (x.pUp ≤ b ∧ x.pUp ≤ bLow)

/-- Whether an SP profile passes checks 2 to 4 of R77 against budget figures. -/
def spProfileFits (x : SpProfile) (b bLow : Nat) : Bool :=
  decide (x.sUp ≤ 600 ∧ x.sRun ≤ 600 ∧ 1 ≤ x.tSp ∧ x.tSp ≤ 30)
    && decide (x.sRun ≤ x.sUp)
    && decide (x.sUp ≤ b ∧ x.sUp ≤ bLow)

/-- An idle figure as recorded: 1 to 59 as 60 (R77). -/
def clampIdle (n : Nat) : Nat := if 1 ≤ n ∧ n ≤ 59 then 60 else n

/-- A bay profile as recorded (R77). -/
def clampProfile (x : BayProfile) : BayProfile :=
  { x with idleStandby := clampIdle x.idleStandby, idleOff := clampIdle x.idleOff }

/-- A patrol interval as recorded (R115). -/
def clampInterval (n : Nat) : Nat := min 3600 n

/-! ## The wake matcher's settings (R158, R159) -/

/-- Whether a term is in range (R158). -/
def termFits (t : Term) : Bool :=
  decide (t.offset ≤ 255 ∧ 1 ≤ t.len ∧ t.len ≤ 4 ∧ t.value < 2 ^ (8 * t.len) ∧ t.mask < 2 ^ (8 * t.len))

/-- Whether a set of bay numbers holds 1 to 4 bays, each 0 to 3. -/
def baySetFits (l : List Nat) : Bool := !l.isEmpty && l.all fun n => decide (n < 4)

/-- Whether a whole wake entry passes the checks of R158. -/
def wakeFits (w : WakeDef) : Bool :=
  decide (1 ≤ w.terms.length ∧ w.terms.length ≤ 4) && w.terms.all termFits
    && (match w.action with
      | none => false
      | some .wakeSpin => baySetFits w.bays
      | some .wake => w.bays.isEmpty
      | some .ignore => w.bays.isEmpty && !w.hold)

/-- A set wake table entry, its hit count 0 and its last hit time absent (R158). -/
def entryOf (w : WakeDef) : WakeEntry where
  enabled := w.enabled
  terms := w.terms
  action := w.action.getD .ignore
  bays := baySet w.bays
  hold := w.hold

/-- Whether an address is a group address: the least significant bit of its first byte is set. -/
def groupAddr (a : Address) : Bool := a[0].getLsbD 0

/-- The broadcast address. -/
def broadcast : Address := Vector.replicate 6 0xFF

/-- Whether the contents of a group place pass the checks of R159. -/
def placeFits : Option Address → Bool
  | none => true
  | some a => groupAddr a && a != broadcast

/-- Whether a station address passes the checks of R159. -/
def stationFits (a : Address) : Bool := !groupAddr a && a != Vector.replicate 6 0

/-- Whether a STATION_SET passes the checks of R159. -/
def addressesFit (a : StationArgs) : Bool :=
  stationFits a.station && placeFits a.group0 && placeFits a.group1 && placeFits a.group2 && placeFits a.group3

namespace Part

/-- The four bay profiles. -/
def profiles (p : Part) : List BayProfile := allBays.map fun b => (p.bay b).profile

/-- BUDGET_SET (R73). -/
def budgetSet (b bLow : Nat) (who : Answerer) (p : Part) : Part :=
  if budgetFits b bLow p.power.spProfile p.profiles then
    ({ p with power := { p.power with budget := b, bLow := bLow } } : Part).reply who .ok
  else p.reply who .outOfRange

/-- PROFILE_SET (R77). -/
def profileSet (a : ProfileArgs) (who : Answerer) (p : Part) : Part :=
  match a with
  | .bay n x =>
    p.onBay who n fun b p =>
      if bayProfileFits x p.power.budget p.power.bLow then
        (p.modBay b fun y => { y with profile := clampProfile x }).reply who .ok
      else p.reply who .outOfRange
  | .sp x =>
    if spProfileFits x p.power.budget p.power.bLow then
      ({ p with power := { p.power with spProfile := x } } : Part).reply who .ok
    else p.reply who .outOfRange

/-- The checks of R115 after the index. -/
def patrolChecks (p : Part) (w : Fin 16) (a : PatrolArgs) : List (Bool × Status) :=
  let v := p.window w
  [(decide (a.interval ≤ 65535), .badRequest),
   (v.inUse, .noWindow),
   (v.st != .closing, .busy),
   (v.layout == .mirror && v.patrolAttr, .badRequest)]

/-- The record of a window after a PATROL_SET that passes: steps 1 to 4 of R115. -/
def patrolApplied (a : PatrolArgs) (v : Window) : Window :=
  let i := clampInterval a.interval
  let moved (r : PatrolRecord) : PatrolRecord := if a.restartPass then { r with region := 0, chunk := 0 } else r
  let cleared (r : PatrolRecord) : PatrolRecord :=
    if a.clearCounts then { r with passes := 0, mismatches := 0, lastEnd := none } else r
  { v with
    interval := i, timer := 0
    due := if i = 0 then false else v.due
    patrol := v.patrol.map fun r => cleared (moved r) }

/-- A patrol chunk of the window in progress is abandoned (R115 step 3). -/
def abandonPatrol (w : Fin 16) (p : Part) : Part :=
  match p.engine.chunk with
  | some c => if c.window = w ∧ c.kind = ChunkKind.patrol then p.abandonChunk else p
  | none => p

/-- PATROL_SET (R115). -/
def patrolSet (a : PatrolArgs) (who : Answerer) (p : Part) : Part :=
  p.onWindow who a.index fun w p =>
    p.checked who (p.patrolChecks w a) fun p =>
      let q := p.modWindow w (patrolApplied a)
      (if a.restartPass then q.abandonPatrol w else q).reply who .ok

/-- Set wake table entry `i`. -/
def setWake (i : Nat) (e : Option WakeEntry) (p : Part) : Part :=
  { p with matcher := { p.matcher with table := p.matcher.table.setIfInBounds i e } }

/-- WAKE_ENTRY_SET (R158). -/
def wakeEntrySet (a : WakeArgs) (who : Answerer) (p : Part) : Part :=
  match a.clear, a.body with
  | true, none => if a.entry < 24 then (p.setWake a.entry none).reply who .ok else p.reply who .badRequest
  | false, some w =>
    if a.entry < 24 ∧ wakeFits w then (p.setWake a.entry (some (entryOf w))).reply who .ok else p.reply who .badRequest
  | _, _ => p.reply who .badRequest

/-- STATION_SET (R159). -/
def stationSet (a : StationArgs) (who : Answerer) (p : Part) : Part :=
  if addressesFit a then
    ({ p with matcher := { p.matcher with
        station := some a.station, groups := [a.group0, a.group1, a.group2, a.group3], summons := a.summons } } : Part).reply
      who .ok
  else p.reply who .badRequest

end Part

end Sys2Proof.Machine
end

