-- ==== Sys2Proof/Machine/BoxCommands.lean ====
section
/-! DEFINITION. The commands of the power controller and the box clock (SLEEP, RESUME, BOX_WAKE, FORCE_DORMANT, ALARM_SET,
ALARM_CLEAR, TIME_SET), FRAME_FETCH and the arrival of frames (chapter 8), NOTICE_CLEAR, MP_MODE and STATUS. -/

namespace Sys2Proof.Machine

open Sys2Proof

namespace Part

/-! ## The power controller (chapter 7) -/

/-- The checks of R131. -/
def sleepChecks (p : Part) (target : Option SleepTarget) : List (Bool × Status) :=
  [(target.isSome, .badRequest),
   (p.box.st == some .run, .wrongState),
   (!(target == some .dormant && p.dp.attached), .wrongState)]

/-- SLEEP (R131): the box moves to DRAINING, and the answer waits for the drain's end (R132). -/
def sleepCmd (target : Option SleepTarget) (who : Answerer) (p : Part) : Part :=
  p.checked who (p.sleepChecks target) fun p =>
    let tag := match who with
      | .pp tag _ _ => some tag
      | _ => none
    { p with box := { p.box with
        st := some .draining, phase := some .drain, target := target, pendingSleep := tag, resume := {} } }

/-- RESUME (R140). -/
def resumeCmd (who : Answerer) (p : Part) : Part :=
  if p.box.st = some .waking ∧ p.power.spRail then
    let q := p.answer who .ok (.resume p.box.resume)
    { q with box := { q.box with
        st := some .run, rxOn := false, phyPath := .sp, resumeCount := none, cycled := false, noResume := false } }
  else p.reply who .wrongState

/-- BOX_WAKE (R143): a wake event of kind SC in every state but RUN. During start-up it is held (R195). -/
def boxWake (who : Answerer) (p : Part) : Part :=
  let q := if p.box.st.isNone then p.hold .boxWake else p.wakeEvent .sc
  q.reply who .ok

/-- FORCE_DORMANT (R143). During start-up it is answered OK and held (R195). -/
def forceDormant (who : Answerer) (p : Part) : Part :=
  if p.box.st.isNone then (p.hold .forceDormant).reply who .ok
  else if p.dp.attached then p.reply who .wrongState
  else p.forcedStop.reply who .ok

/-! ## The box clock (chapter 9) -/

/-- Whether the action of an ALARM_SET is well formed (R167 check 1). -/
def alarmFits (a : AlarmArgs) : Bool :=
  (match a.id with
    | none => true
    | some i => decide (i < 8))
    && (match a.action with
      | some .wake => a.bays.isEmpty
      | some .wakeSpin => baySetFits a.bays
      | _ => false)

/-- The checks of R167. -/
def alarmChecks (p : Part) (a : AlarmArgs) : List (Bool × Status) :=
  [(alarmFits a, .badRequest),
   (p.clock.valid, .wrongState),
   (a.id.isSome || decide (p.clock.alarms.length < Config.alarmLimit), .full)]

/-- Every alarm id, lowest first. -/
def allIds : List (Fin 8) := [0, 1, 2, 3, 4, 5, 6, 7]

/-- The id an ALARM_SET uses: the one given, or the lowest no alarm of the list holds (R167). -/
def alarmId (p : Part) (a : AlarmArgs) : Fin 8 :=
  match a.id with
  | some i => if h : i < 8 then ⟨i, h⟩ else 0
  | none => (allIds.find? fun i => p.clock.alarms.all fun x => x.id != i).getD 0

/-- Replace the alarm list. -/
def setAlarms (l : List Alarm) (p : Part) : Part := { p with clock := { p.clock with alarms := l } }

/-- ALARM_SET (R167): an alarm not after the counter expires in the same event. -/
def alarmSet (a : AlarmArgs) (who : Answerer) (p : Part) : Part :=
  p.checked who (p.alarmChecks a) fun p =>
    let id := p.alarmId a
    let new : Alarm := { id := id, time := a.time.toNat, interval := a.interval.toNat, spins := baySet a.bays }
    let q := p.setAlarms (insertAlarm new (p.clock.alarms.filter fun x => x.id != id))
    let r := if new.time ≤ q.clock.counter then q.expiryPass else q
    r.answer who .ok (.alarmSet id ((r.clock.alarms.find? fun x => x.id == id).map fun x => x.time))

/-- ALARM_CLEAR (R168). -/
def alarmClear (id : Nat) (all : Bool) (who : Answerer) (p : Part) : Part :=
  if all then (p.setAlarms []).answer who .ok (.alarmsCleared p.clock.alarms.length)
  else if id < 8 then
    let gone := p.clock.alarms.filter fun x => x.id.val == id
    (p.setAlarms (p.clock.alarms.filter fun x => x.id.val != id)).answer who .ok (.alarmsCleared gone.length)
  else p.reply who .badRequest

/-- TIME_SET (R165). -/
def timeSet (v : Seconds) (who : Answerer) (p : Part) : Part :=
  (({ p with clock := { p.clock with counter := v.toNat, valid := true } } : Part).expiryPass).reply who .ok

/-! ## Frames (chapter 8) -/

/-- One bit of the frame check's register (R148): polynomial 0x04C11DB7, bit-reflected. -/
def crcBit (r : Nat) : Nat := if r % 2 = 1 then Nat.xor (r / 2) 0xEDB88320 else r / 2

/-- One byte of the frame check (R148). -/
def crcByte (r : Nat) (b : Byte) : Nat :=
  crcBit (crcBit (crcBit (crcBit (crcBit (crcBit (crcBit (crcBit (Nat.xor r b.toNat))))))))

/-- The frame check of some data (R148). -/
def frameCheck (data : List Byte) : Nat := Nat.xor (data.foldl crcByte 0xFFFFFFFF) 0xFFFFFFFF

/-- A frame's data: its bytes before the frame check (R147). -/
def frameData (f : List Byte) : List Byte := f.take (f.length - 4)

/-- Whether a frame's check agrees with its data (R148 check 1). A frame of fewer than 4 bytes holds no frame check to compare
and fails (DESIGN CHOICE, log entry 47). -/
def checkAgrees (f : List Byte) : Bool :=
  decide (4 ≤ f.length) && leNat (f.drop (f.length - 4)) == frameCheck (frameData f)

/-- Whether a destination passes the address filter (R149). -/
def passesFilter (m : Matcher) (dest : Address) : Bool :=
  dest == broadcast || m.station == some dest || m.groups.any fun g => g == some dest

/-- The summons pattern of a station address (R150). -/
def summonsPattern (station : Address) : List Byte := broadcast.toList ++ (List.replicate 16 station.toList).flatten

/-- Whether data holds a pattern at some offset. -/
def holds (pattern data : List Byte) : Bool :=
  (List.range (data.length + 1 - pattern.length)).any fun p =>
    decide (p + pattern.length ≤ data.length) && (data.drop p).take pattern.length == pattern

/-- Whether a frame's data holds the summons (R150). -/
def isSummons (m : Matcher) (data : List Byte) : Bool :=
  match m.station with
  | none => false
  | some a => m.summons && holds (summonsPattern a) data

/-- Bytes as a number, the first the most significant (R151). -/
def beNat (bs : List Byte) : Nat := bs.foldl (fun n b => 256 * n + b.toNat) 0

/-- Whether a term matches data (R151). -/
def termMatches (data : List Byte) (t : Term) : Bool :=
  decide (t.offset + t.len ≤ data.length)
    && Nat.land (beNat ((data.drop t.offset).take t.len)) t.mask == Nat.land t.value t.mask

/-- Every wake table entry number, lowest first. -/
def allEntries : List (Fin 24) :=
  [0, 1, 2, 3, 4, 5, 6, 7, 8, 9, 10, 11, 12, 13, 14, 15, 16, 17, 18, 19, 20, 21, 22, 23]

/-- Whether a place of the wake table holds an enabled entry that matches data (R151, R152). -/
def entryMatches (data : List Byte) : Option WakeEntry → Bool
  | none => false
  | some e => e.enabled && e.terms.all (termMatches data)

/-- Change the wake matcher. -/
def modMatcher (f : Matcher → Matcher) (p : Part) : Part := { p with matcher := f p.matcher }

/-- Hold a frame (R154). -/
def holdFrame (source : Option (Fin 24)) (f : List Byte) (p : Part) : Part :=
  p.modMatcher fun m =>
    if m.held.length < Config.heldLimit then { m with held := m.held ++ [{ source := source, time := p.now, bytes := f }] }
    else { m with lostFrames := bump 65535 m.lostFrames }

/-- A SUMMONS match (R150). -/
def summonsHit (f : List Byte) (p : Part) : Part :=
  ((p.modMatcher fun m => { m with
    summonsHits := bump 65535 m.summonsHits, summonsLast := some p.now }).wakeEvent .summons).holdFrame none f

/-- The winning entry's hit and action (R152, R153). -/
def entryHit (i : Fin 24) (e : WakeEntry) (f : List Byte) (p : Part) : Part :=
  let q := p.setWake i.val (some { e with hits := bump 65535 e.hits, lastHit := some p.now })
  let q1 := match e.action with
    | .wake => q.wakeEvent (.wakeMatch i)
    | .wakeSpin => (q.wakeEvent (.wakeMatch i)).requestStarts e.bays
    | .ignore => q
  if e.hold then q1.holdFrame (some i) f else q1

/-- Match a frame that passed the filter (R150, R152). -/
def matchFrame (f : List Byte) (p : Part) : Part :=
  let data := frameData f
  if isSummons p.matcher data then p.summonsHit f
  else
    match allEntries.find? fun i => entryMatches data p.matcher.table[i] with
    | none => p.modMatcher fun m => { m with unmatched := bump 65535 m.unmatched }
    | some i =>
      match p.matcher.table[i] with
      | none => p
      | some e => p.entryHit i e f

/-- A frame arrives (R147 to R154): only while the standby receiver is on, and only if it was switched on before the frame's
first byte, which `fromStart` says (log entry 50). -/
def frameArrives (f : List Byte) (fromStart : Bool) (p : Part) : Part :=
  if !p.box.rxOn ∨ !fromStart then p
  else if !checkAgrees f then p.modMatcher fun m => { m with checkErrors := bump 65535 m.checkErrors }
  else if f.length < 64 then p.modMatcher fun m => { m with shortFrames := bump 65535 m.shortFrames }
  else if 1536 < f.length then p.modMatcher fun m => { m with longFrames := bump 65535 m.longFrames }
  else if passesFilter p.matcher (addressField f 0) then p.matchFrame f
  else p

/-- FRAME_FETCH (R156). Its buffer's address and length are the answer buffer fields of the record (R202; DEDUCED, log entry
64). -/
def frameFetch (who : Answerer) (p : Part) : Part :=
  match who with
  | .pp tag addr len =>
    if len < 1 ∨ 65535 < len then p.reply who .badRequest
    else if p.matcher.transfer.isSome then p.reply who .busy
    else
      match p.matcher.held with
      | [] => p.reply who .empty
      | f :: _ =>
        if len < f.bytes.length then p.answer who .range (.frameRange f.bytes.length)
        else p.modMatcher fun m => { m with transfer := some { tag := tag, bufAddr := addr } }
  | _ => p

/-- The last byte of the frame in transfer has been written (R156). -/
def transferDone (p : Part) : Part :=
  match p.matcher.transfer, p.matcher.held with
  | some t, f :: rest =>
    let q := (p.emit (.spWrite t.bufAddr f.bytes)).modMatcher fun m => { m with held := rest, transfer := none }
    q.answer (.pp t.tag t.bufAddr 0) .ok (.frame f.bytes.length f.source f.time rest.length)
  | _, _ => p

/-! ## Notices, modes and STATUS -/

/-- NOTICE_CLEAR (R180, R192): the set of the port it came through. -/
def noticeClear (w : Word16) (who : Answerer) (p : Part) : Part :=
  let gone := noticesOfWord w
  let q : Part :=
    match who with
    | .mp => { p with mp := { p.mp with notices := p.mp.notices.filter fun k => k ∉ gone } }
    | _ => { p with pp := { p.pp with notices := p.pp.notices.filter fun k => k ∉ gone } }
  q.reply who .ok

/-- MP_MODE (R193). -/
def mpMode (m : Option MpMode) (who : Answerer) (p : Part) : Part :=
  match m with
  | none => p.reply who .badRequest
  | some m => ({ p with mp := { p.mp with mode := m } } : Part).reply who .ok

/-- The router's and pool's figures (R45). -/
def poolReport (p : Part) : PoolReport where
  ppCount := p.router.ppCount
  dpCount := p.router.dpCount
  freeSlots := p.freeSlots
  requestSlots := p.requestSlots
  engineSlots := p.engineSlots
  slotWaitLength := p.router.slotWait.length
  headNeed := (p.router.slotWait.head?.map fun e => e.need).getD 0
  roomWaits := allBays.map fun b => (p.bay b).roomWait.length

/-- The power controller's figures (R91). With an empty start queue no head asks for a Δ, and the Δ reported is 0 (DESIGN CHOICE,
log entry 86). -/
def powerReport (p : Part) : PowerReport where
  budget := p.power.budget
  bLow := p.power.bLow
  lowAsserted := p.power.lowAsserted
  bEff := p.bEff
  committed := p.committedDraw
  headroom := p.bEff - p.committedDraw
  startQueue := p.power.startQueue
  headDelta := (p.power.startQueue.head?.map p.startDelta).getD 0
  spRail := p.power.spRail
  tSpRunning := p.power.tSpLeft.isSome
  idle := allBays.map fun b => (p.bay b).idle
  quiet := allBays.map fun b => (p.bay b).quiet
  spProfile := p.power.spProfile

/-- The copy engine's figures of a MIRROR window (R113). -/
def mirrorLine (p : Part) (w : Fin 16) : MirrorLine :=
  let v := p.window w
  { index := w, rebuildChunk := v.rebuildChunk, orphaned := v.orphaned, unreadable := v.unreadable
    lastUnreadable := v.lastUnreadable, unrepairable := v.unrepairable }

/-- The copy engine's state (R113, R127). -/
def engineReport (p : Part) : EngineReport where
  logCount := p.engine.log.length
  above := p.engine.above
  log := p.engine.log
  repairs := p.engine.repairs
  chunk := p.engine.chunk
  mirrors := (p.usedWindows.filter fun w => (p.window w).layout == .mirror).map p.mirrorLine
  patrols := (p.usedWindows.filter fun w => (p.window w).patrol.isSome).map fun w =>
    { index := w, timer := (p.window w).timer, due := (p.window w).due }

/-- The box record (R145). -/
def boxReport (p : Part) : BoxReport where
  st := p.box.st
  phase := p.box.phase
  target := p.box.target
  grace := p.box.grace
  resume := p.box.resume
  spEntryWaiting := p.power.startQueue.contains .sp
  resumeCount := p.box.resumeCount
  cycled := p.box.cycled
  noResume := p.box.noResume
  phyPath := p.box.phyPath
  phyPowered := p.box.phyPowered
  rxOn := p.box.rxOn
  settings := p.box.settings

/-- The wake matcher's state (R161); only the oldest held frame can be in transfer. -/
def matcherReport (p : Part) : MatcherReport where
  station := p.matcher.station
  groups := p.matcher.groups
  summons := p.matcher.summons
  table := allEntries.map fun i => p.matcher.table[i]
  summonsHits := p.matcher.summonsHits
  summonsLast := p.matcher.summonsLast
  held := (List.range p.matcher.held.length).zipWith (fun i f =>
    { source := f.source, length := f.bytes.length, time := f.time
      inTransfer := i == 0 && p.matcher.transfer.isSome }) p.matcher.held
  checkErrors := p.matcher.checkErrors
  shortFrames := p.matcher.shortFrames
  longFrames := p.matcher.longFrames
  unmatched := p.matcher.unmatched
  lostFrames := p.matcher.lostFrames

/-- The ports' state (R187). -/
def portsReport (p : Part) : PortsReport where
  setup := p.pp.setup
  subSize := p.pp.subSize
  compSize := p.pp.compSize
  tail := p.pp.tail
  fetchPos := p.pp.fetchPos
  head := p.pp.head
  compPos := p.pp.compPos
  phase := p.pp.phase
  owed := p.pp.owed
  listLength := p.pp.list.length
  compIntOff := p.pp.compIntOff
  masked := p.pp.masked
  noticeErrors := p.pp.noticeErrors
  attached := p.dp.attached
  out := p.dp.out
  remaining := p.dp.remaining
  dpOwed := p.dp.owed
  sendLength := p.dp.sendList.length
  attachPending := p.dp.attachPending
  framing := p.dp.framing

/-- The management port's and loader's figures (R193). -/
def managementReport (p : Part) : ManagementReport where
  mode := p.mp.mode
  overruns := p.mp.overruns
  notices := p.mp.notices
  bootMode := p.loader.mode
  configPresent := p.loader.configPresent
  loader := p.loader.st
  result := p.loader.result
  cfgBad := p.loader.cfgBad
  statusCode := p.codeNow

/-- The answer of STATUS, assembled from every block (R193). -/
def statusReport (p : Part) : StatusReport where
  pool := p.poolReport
  power := p.powerReport
  engine := p.engineReport
  box := p.boxReport
  matcher := p.matcherReport
  clock := { counter := p.clock.counter, valid := p.clock.valid, alarms := p.clock.alarms }
  ports := p.portsReport
  management := p.managementReport

/-- STATUS (R193). The first byte it names acts on the management port alone (log entry 25). -/
def statusCmd (first : Nat) (who : Answerer) (p : Part) : Part :=
  p.answerFrom first who .ok (.status p.statusReport)

end Part

end Sys2Proof.Machine
end

