-- ==== Sys2Proof/Machine/Image.lean ====
section
/-! DEFINITION. The configuration image (section 11.3, R207): reading and judging it, putting its settings in force, and
writing it. A byte beyond the end of the image reads as 0, and a presence flag or a flag byte is set where it is not 0
(log entry 21). -/

namespace Sys2Proof.Machine

open Sys2Proof

/-! ## Settings (R196, R200) -/

/-- A window of the image (R12, R207). -/
structure ImageWindow where
  d : WindowDef
  lost : Option Side
  serials : List (Option (List Byte))
  deriving DecidableEq, Repr, Inhabited

/-- Every setting the image carries; the values here are the defaults (R200). -/
structure Settings where
  budget : Nat := 600
  bLow : Nat := 350
  profiles : List BayProfile := [{}, {}, {}, {}]
  sp : SpProfile := {}
  windows : List ImageWindow := []
  wakes : List (Option WakeDef) := List.replicate 24 none
  station : Option Address := none
  groups : List (Option Address) := [none, none, none, none]
  summons : Bool := true
  grace : Nat := 5
  resumeLimit : Nat := 120
  startOnPower : Bool := true
  patrols : List (Nat × Nat) := []
  attachWakes : Bool := false
  deriving DecidableEq, Repr, Inhabited

/-! ## Sections (R197, R207) -/

/-- A section: its kind, its place in image order being its place in the list, and its contents. -/
structure Section where
  kind : Byte
  contents : List Byte
  deriving DecidableEq, Repr, Inhabited

/-- The `n` bytes of the image from `pos` on. -/
def imageBytes (img : List Byte) (pos n : Nat) : List Byte := ((img.drop pos) ++ List.replicate n 0).take n

/-- The sections from byte `pos` to byte `len`; absent where one runs past it (R207). Each takes four bytes at least, so
`fuel` of the image length suffices. -/
def sectionsFrom (img : List Byte) (len : Nat) : Nat → Nat → Option (List Section)
  | 0, _ => none
  | fuel + 1, pos =>
    if pos = len then some []
    else if len < pos + 4 then none
    else
      let c := leField img (pos + 2) 2
      if len < pos + 4 + c then none
      else
        (sectionsFrom img len fuel (pos + 4 + c)).map fun rest =>
          { kind := byteAt img pos, contents := imageBytes img (pos + 4) c } :: rest

/-- The image length its header gives. -/
def imageLength (img : List Byte) : Nat := leField img 6 2

/-- The marker of an image (R207). -/
def marker : List Byte := [0x45, 0x42, 0x43, 0x46]

/-- The check of an image of `len` bytes: bytes 8 and 9 are left out of the sum (R207). -/
def imageCheck (img : List Byte) (len : Nat) : Nat :=
  (65536 - (byteSum (imageBytes img 0 8) + byteSum (imageBytes img 10 (len - 10))) % 65536) % 65536

/-- Whether a flag byte is set. -/
def flagSet (b : Byte) : Bool := b != 0

/-! ## Contents (R207) -/

/-- A bay profile of 16 bytes, clamped as PROFILE_SET clamps it (R196). Bits 1 to 7 of its byte 12 are ignored (DESIGN CHOICE,
log entry 76). -/
def profileOfBytes (bs : List Byte) : BayProfile :=
  clampProfile {
    pUp := leField bs 0 2, pRun := leField bs 2 2, pStby := leField bs 4 2, tStart := leField bs 6 2
    idleStandby := leField bs 8 2, idleOff := leField bs 10 2
    mayPowerOff := (byteAt bs 12).getLsbD 0, mask := classesOfByte (byteAt bs 13) }

/-- The SP profile of 6 bytes. -/
def spProfileOfBytes (bs : List Byte) : SpProfile where
  sUp := leField bs 0 2
  sRun := leField bs 2 2
  tSp := leField bs 4 2

/-- The layout a layout code names. -/
def layoutOfCode : Nat → Option Layout
  | 0 => some .single
  | 1 => some .mirror
  | 2 => some .stripe
  | 3 => some .whole
  | _ => none

/-- The layout code. -/
def layoutCode : Layout → Nat
  | .single => 0
  | .mirror => 1
  | .stripe => 2
  | .whole => 3

/-- The stripe unit a code names. -/
def unitOfCode : Nat → Option Nat
  | 0 => some 16
  | 1 => some 32
  | 2 => some 64
  | 3 => some 128
  | 4 => some 256
  | _ => none

/-- The stripe unit code; 0 where there is no unit (DESIGN CHOICE, log entry 84). -/
def unitCode : Option Nat → Nat
  | some 32 => 1
  | some 64 => 2
  | some 128 => 3
  | some 256 => 4
  | _ => 0

/-- The right a code names. -/
def rightOfCode : Nat → Option Right
  | 0 => some .none
  | 1 => some .read
  | 2 => some .readWrite
  | _ => none

/-- The right code. -/
def rightCode : Right → Nat
  | .none => 0
  | .read => 1
  | .readWrite => 2

/-- The lost member code. -/
def lostCode : Option Side → Nat
  | none => 0
  | some .primary => 1
  | some .secondary => 2

/-- A window entry of 156 bytes. Bits 3 to 7 of its attributes are ignored (DESIGN CHOICE, log entry 76). -/
def windowOfBytes (bs : List Byte) : ImageWindow :=
  let n := (byteAt bs 2).toNat
  let attrs := byteAt bs 6
  let label := textField bs 16 12
  { d := {
      index := (byteAt bs 0).toNat
      layout := layoutOfCode (byteAt bs 1).toNat
      members := (List.range n).map fun k => ((byteAt bs (28 + 12 * k)).toNat, leField bs (30 + 12 * k) 5)
      length := leField bs 8 8
      unit := unitOfCode (byteAt bs 3).toNat
      ppRight := rightOfCode (byteAt bs 4).toNat
      dpRight := rightOfCode (byteAt bs 5).toNat
      lazyAttr := attrs.getLsbD 0
      patrolAttr := attrs.getLsbD 1
      wakesAttr := attrs.getLsbD 2
      label := if label = [] then none else some label }
    lost := if byteAt bs 7 = 1 then some .primary else if byteAt bs 7 = 2 then some .secondary else none
    serials := (List.range n).map fun k =>
      if flagSet (byteAt bs (29 + 12 * k)) then some (textField bs (76 + 20 * k) 20) else none }

/-- Whether the lost member byte of a window entry may stand: NONE, or a copy of a MIRROR window (R196). -/
def lostFits (bs : List Byte) : Bool :=
  decide ((byteAt bs 7).toNat ≤ 2) && (byteAt bs 7 == 0 || layoutOfCode (byteAt bs 1).toNat == some .mirror)

/-- The entries of a windows section, each 156 bytes. -/
def windowEntries (c : List Byte) : List (List Byte) :=
  (List.range (byteAt c 0).toNat).map fun i => imageBytes c (1 + 156 * i) 156

/-- The record a window of the image describes (R12). -/
def windowOfImage (x : ImageWindow) : Window :=
  let v := windowOfDef x.d
  { v with lost := x.lost, members := v.members.zipWith (fun m s => { m with serial := s }) x.serials }

/-- Whether each window of an image passes the checks of R12 against those before it. -/
def windowsFit : List ImageWindow → List ImageWindow → Bool
  | _, [] => true
  | before, x :: rest =>
    let v := windowOfDef x.d
    let others := before.map windowOfImage
    decide (x.d.index < 16) && !before.any (fun y => y.d.index == x.d.index)
      && wellFormedDef x.d && noOverlap v others && wholeAlone v others && stripeLength v
      && windowsFit (before ++ [x]) rest

/-- The place of a group address: presence flag and address. -/
def placeOfBytes (bs : List Byte) : Option Address :=
  if flagSet (byteAt bs 0) then some (addressField bs 1) else none

/-- The entries of a patrol section: index and interval. -/
def patrolEntries (c : List Byte) : List (Nat × Nat) :=
  (List.range (byteAt c 0).toNat).map fun i => ((byteAt c (1 + 3 * i)).toNat, leField c (2 + 3 * i) 2)

/-- Put a section's settings into `s`. Bytes that its contents lack read as 0, so that another section is compared with those
(DESIGN CHOICE, log entry 80). -/
def readSection (s : Settings) (x : Section) : Settings :=
  let c := x.contents
  match x.kind.toNat with
  | 1 => { s with budget := leField c 0 2, bLow := leField c 2 2 }
  | 2 => { s with
      profiles := [0, 1, 2, 3].map fun i => profileOfBytes (imageBytes c (16 * i) 16)
      sp := spProfileOfBytes (imageBytes c 64 6) }
  | 3 => { s with windows := (windowEntries c).map windowOfBytes }
  | 4 => { s with wakes := (List.range 24).map fun i => wakeOfBytes (imageBytes c (44 * i) 44) }
  | 5 => { s with
      station := placeOfBytes (imageBytes c 0 7)
      groups := [0, 1, 2, 3].map fun i => placeOfBytes (imageBytes c (7 + 7 * i) 7)
      summons := flagSet (byteAt c 35) }
  | 6 => { s with grace := leField c 0 2, resumeLimit := leField c 2 2, startOnPower := flagSet (byteAt c 4) }
  | 7 => { s with patrols := patrolEntries c }
  | 8 => { s with attachWakes := flagSet (byteAt c 0) }
  | _ => s

/-- The settings a run of sections gives, a section that is absent leaving the defaults (R196). Where a kind is given twice,
the first in image order gives them, so that the first failing section is judged on its own entries (R197 check 5; DESIGN
CHOICE, log entry 51). -/
def settingsOf (l : List Section) : Settings := l.reverse.foldl readSection {}

/-- The contents length of a section kind's layout, given its first byte. -/
def sectionLength (kind first : Nat) : Option Nat :=
  match kind with
  | 1 => some 4
  | 2 => some 70
  | 3 => some (1 + 156 * first)
  | 4 => some 1056
  | 5 => some 36
  | 6 => some 5
  | 7 => some (1 + 3 * first)
  | 8 => some 1
  | _ => none

/-- Whether the entries of a section pass the rule of R196, `s` being the settings of the whole image, against which a check
that compares two sections is made in each of them (log entry 51). -/
def sectionFits (s : Settings) (x : Section) : Bool :=
  let c := x.contents
  sectionLength x.kind.toNat (byteAt c 0).toNat == some c.length
    && (match x.kind.toNat with
      | 1 => budgetFits s.budget s.bLow s.sp s.profiles
      | 2 => s.profiles.all (fun y => bayProfileFits y s.budget s.bLow) && spProfileFits s.sp s.budget s.bLow
      | 3 => decide ((byteAt c 0).toNat ≤ 16) && (windowEntries c).all lostFits && windowsFit [] s.windows
      | 4 => s.wakes.all fun w => match w with | none => true | some w => wakeFits w
      | 5 => (match s.station with | none => true | some a => stationFits a) && s.groups.all placeFits
      | 6 => decide (s.grace ≤ 60 ∧ 10 ≤ s.resumeLimit ∧ s.resumeLimit ≤ 600)
      | 7 => s.patrols.all fun y => decide (y.1 < 16) && (s.windows.any fun w =>
          w.d.index == y.1 && w.d.layout == some .mirror && w.d.patrolAttr)
      | _ => true)

/-- The first section, in image order, that fails: unknown, given twice, or with an entry that fails its rule (R197 check
5). `before` holds the kinds already read. -/
def failingSection (s : Settings) : List Byte → List Section → Option Byte
  | _, [] => none
  | before, x :: rest =>
    if x.kind ∈ before ∨ !sectionFits s x then some x.kind else failingSection s (before ++ [x.kind]) rest

/-- Judge an image (R197): the settings it gives, or the reason it fails. -/
def judgeImage (img : List Byte) : Except FailReason Settings :=
  if imageBytes img 0 4 ≠ marker then .error .marker
  else if leField img 4 2 ≠ 1 then .error .version
  else
    let len := imageLength img
    if len < Config.imageHeader ∨ Config.eepromBytes < len then .error .length
    else
      match sectionsFrom img len (len + 1) Config.imageHeader with
      | none => .error .length
      | some l =>
        if leField img 8 2 ≠ imageCheck img len then .error .check
        else
          let s := settingsOf l
          match failingSection s [] l with
          | some k => .error (.badSection k)
          | none => .ok s

/-! ## Putting settings in force (R197, R198) -/

namespace Part

/-- Put one window of the image into its record, with its patrol interval: that of the last entry of the patrol section that
names the window (DESIGN CHOICE, log entry 62). -/
def takeWindow (s : Settings) (p : Part) (x : ImageWindow) : Part :=
  match windowOf x.d.index with
  | none => p
  | some w =>
    let i := ((s.patrols.reverse.find? fun y => y.1 == x.d.index).map fun y => clampInterval y.2).getD 0
    p.modWindow w fun _ => { windowOfImage x with interval := i }

/-- Give the four bays their profiles. -/
def takeProfiles (l : List BayProfile) (p : Part) : Part :=
  allBays.foldl (fun q b => q.modBay b fun x => { x with profile := (l[b.val]?).getD x.profile }) p

/-- The wake table of the image: every hit count 0, every last hit time absent (R160). -/
def wakeTable (l : List (Option WakeDef)) : Vector (Option WakeEntry) 24 :=
  Vector.ofFn fun i => ((l[i.val]?).getD none).map entryOf

/-- The comparison of R17 for the members of the image's windows whose bays hold an identity (R198). The bays are taken in
number order (DESIGN CHOICE, log entry 39). The comparison starts no rebuild (DESIGN CHOICE, log entry 71). -/
def judgeKnown (p : Part) : Part :=
  allBays.foldl (fun q b =>
    match (q.bay b).identity with
    | none => q
    | some i => q.foreignCheck b i) p

/-- The box settings put in force: a grace count above the new interval is set to it (R129). -/
def takeBox (s : Settings) (p : Part) : Part :=
  { p with box := { p.box with
      settings := { grace := s.grace, resumeLimit := s.resumeLimit, attachWakes := s.attachWakes
                    startOnPower := s.startOnPower }
      grace := p.box.grace.map fun n => min n s.grace } }

/-- Put every setting of an image in force, in the judging event; the windows it gives are all the windows there are. The hit
counts and last hit times that it clears are the wake entries'; the summons's stay (DESIGN CHOICE, log entry 90). -/
def putInForce (s : Settings) (p : Part) : Part :=
  let p1 : Part := { p with
    power := { p.power with budget := s.budget, bLow := s.bLow, spProfile := s.sp }
    windows := Vector.replicate 16 {}
    matcher := { p.matcher with
      station := s.station, groups := s.groups, summons := s.summons, table := wakeTable s.wakes } }
  ((s.windows.foldl (takeWindow s) (p1.takeProfiles s.profiles)).takeBox s).judgeKnown

/-- A load has ended with a verdict: the load result, the CFG_BAD condition and notice, the settings or the defaults in
force (R197). -/
def loadEnds (v : Except FailReason Settings) (p : Part) : Part :=
  match v with
  | .ok s =>
    let q := p.putInForce s
    { q with loader := { q.loader with st := .idle, result := .loaded, cfgBad := false } }
  | .error r =>
    let q := p.putInForce {}
    ({ q with loader := { q.loader with st := .idle, result := .failed r, cfgBad := true } } : Part).raise .cfgBad

/-- Whether every window record is FREE. -/
def allFree (p : Part) : Bool := allWindows.all fun w => (p.window w).st == .free

/-- The last byte of the image is read (R197, R198): at start-up the box then takes its first state (R144); for CONFIG_LOAD
check 3 is made again and the command answered. -/
def imageRead (img : List Byte) (p : Part) : Part :=
  if p.loader.st ≠ .loading then p
  else if p.box.st.isNone then (p.loadEnds (judgeImage img)).firstState
  else if p.allFree then
    let q := p.loadEnds (judgeImage img)
    q.answer .mp .ok (.load q.loader.result)
  else ({ p with loader := { p.loader with st := .idle } } : Part).reply .mp .wrongState

/-- CONFIG_LOAD (R198). -/
def configLoad (who : Answerer) (p : Part) : Part :=
  p.checked who
    [(p.loader.configPresent, .wrongState), (p.loader.st == .idle, .busy), (p.allFree, .wrongState)]
    fun p => { p with loader := { p.loader with st := .loading } }

/-! ## Saving (R199) -/

/-- A bay profile's 16 bytes. -/
def profileBytes (x : BayProfile) : List Byte :=
  leBytes 2 x.pUp ++ leBytes 2 x.pRun ++ leBytes 2 x.pStby ++ leBytes 2 x.tStart ++ leBytes 2 x.idleStandby
    ++ leBytes 2 x.idleOff ++ [if x.mayPowerOff then 1 else 0, byteOfClasses x.mask, 0, 0]

/-- The attribute byte. -/
def attrByte (v : Window) : Byte :=
  BitVec.ofNat 8 ((if v.lazyAttr then 1 else 0) + (if v.patrolAttr then 2 else 0) + (if v.wakesAttr then 4 else 0))

/-- A member slot's 12 bytes. -/
def memberBytes (m : Member) : List Byte :=
  [BitVec.ofNat 8 m.bay.val, if m.serial.isSome then 1 else 0] ++ leBytes 5 m.base ++ leBytes 5 0

/-- A window entry's 156 bytes. Member slots and serials beyond the members are 0 (DESIGN CHOICE, log entry 84). -/
def windowBytes (w : Fin 16) (v : Window) : List Byte :=
  [BitVec.ofNat 8 w.val, BitVec.ofNat 8 (layoutCode v.layout), BitVec.ofNat 8 v.members.length
   , BitVec.ofNat 8 (unitCode v.unit), BitVec.ofNat 8 (rightCode v.ppRight), BitVec.ofNat 8 (rightCode v.dpRight)
   , attrByte v, BitVec.ofNat 8 (lostCode v.lost)]
    ++ leBytes 8 v.length ++ textBytes 12 (v.label.getD [])
    ++ (v.members.flatMap memberBytes ++ List.replicate 48 0).take 48
    ++ (v.members.flatMap (fun (m : Member) => textBytes 20 (m.serial.getD [])) ++ List.replicate 80 0).take 80

/-- A wake action's code (R206). -/
def actionCode : WakeAction → Byte
  | .wake => 0
  | .wakeSpin => 1
  | .ignore => 2

/-- A term's 10 bytes. -/
def termBytes (t : Term) : List Byte :=
  [BitVec.ofNat 8 t.offset, BitVec.ofNat 8 t.len] ++ leBytes 4 t.value ++ leBytes 4 t.mask

/-- A wake entry's 44 bytes (R206). The other bytes of an empty entry and the unused terms are 0 (DESIGN CHOICE, log entry 84). -/
def wakeBytes : Option WakeEntry → List Byte
  | none => List.replicate 44 0
  | some e =>
    ([BitVec.ofNat 8 (1 + (if e.enabled then 2 else 0) + (if e.hold then 4 else 0)), actionCode e.action
      , BitVec.ofNat 8 (e.bays.foldl (fun n (b : Fin 4) => n + 2 ^ b.val) 0), BitVec.ofNat 8 e.terms.length]
      ++ e.terms.flatMap termBytes ++ List.replicate 44 0).take 44

/-- An optional address with its presence flag, 7 bytes. An absent address is 0 (DESIGN CHOICE, log entry 84). -/
def placeBytes : Option Address → List Byte
  | none => List.replicate 7 0
  | some a => 1 :: a.toList

/-- A section with its 4-byte head. -/
def sectionBytes (kind : Nat) (contents : List Byte) : List Byte :=
  [BitVec.ofNat 8 kind, 0] ++ leBytes 2 contents.length ++ contents

/-- The OPEN windows, in index order. -/
def openWindows (p : Part) : List (Fin 16) := allWindows.filter fun w => (p.window w).st == .opened

/-- The sections of the settings in force, in kind order (R199, R207). Windows and patrol entries stand in index order (DESIGN
CHOICE, log entry 85). -/
def savedSections (p : Part) : List Byte :=
  let open_ := p.openWindows
  let patrolled := open_.filter fun w => (p.window w).layout == .mirror && (p.window w).patrolAttr
  sectionBytes 1 (leBytes 2 p.power.budget ++ leBytes 2 p.power.bLow)
    ++ sectionBytes 2 (p.profiles.flatMap profileBytes
        ++ leBytes 2 p.power.spProfile.sUp ++ leBytes 2 p.power.spProfile.sRun ++ leBytes 2 p.power.spProfile.tSp)
    ++ sectionBytes 3 (BitVec.ofNat 8 open_.length :: open_.flatMap fun w => windowBytes w (p.window w))
    ++ sectionBytes 4 (allEntries.flatMap fun i => wakeBytes p.matcher.table[i])
    ++ sectionBytes 5 (placeBytes p.matcher.station ++ p.matcher.groups.flatMap placeBytes
        ++ [if p.matcher.summons then 1 else 0])
    ++ sectionBytes 6 (leBytes 2 p.box.settings.grace ++ leBytes 2 p.box.settings.resumeLimit
        ++ [if p.box.settings.startOnPower then 1 else 0])
    ++ sectionBytes 7 (BitVec.ofNat 8 patrolled.length :: patrolled.flatMap fun w =>
        BitVec.ofNat 8 w.val :: leBytes 2 (p.window w).interval)
    ++ sectionBytes 8 [if p.box.settings.attachWakes then 1 else 0]

/-- The whole image of the settings in force, with its header and check (R207). -/
def savedImage (p : Part) : List Byte :=
  let body := p.savedSections
  let len := Config.imageHeader + body.length
  let blank := marker ++ leBytes 2 1 ++ leBytes 2 len ++ leBytes 2 0 ++ leBytes 6 0 ++ body
  marker ++ leBytes 2 1 ++ leBytes 2 len ++ leBytes 2 (imageCheck blank len) ++ leBytes 6 0 ++ body

/-- The header a save writes first: 16 bytes whose marker is not the image marker. R199 gives them no other bytes, so they are
free values, the first complemented where it would begin the marker (log entry 52). -/
def spoiltHeader : List Byte :=
  (if Config.spoiltByte 0 = byteAt marker 0 then ~~~Config.spoiltByte 0 else Config.spoiltByte 0)
    :: (List.range 15).map fun i => Config.spoiltByte (i + 1)

/-- CONFIG_SAVE (R199): the settings in force are captured; a header without the marker is written, and then the sections. -/
def configSave (who : Answerer) (p : Part) : Part :=
  p.checked who [(p.loader.configPresent, .wrongState), (p.loader.st == .idle, .busy)] fun p =>
    (({ p with loader := { p.loader with st := .saving, image := p.savedImage } } : Part).emit
      (.eeprom 0 spoiltHeader)).emit (.eeprom Config.imageHeader (p.savedImage.drop Config.imageHeader))

/-- The save ends (R199): the true header has been written and the image read back, and the read-back is judged. -/
def readBack (img : List Byte) (p : Part) : Part :=
  if p.loader.st ≠ .saving then p
  else
    let q := p.emit (.eeprom 0 (p.loader.image.take Config.imageHeader))
    if img.take p.loader.image.length = p.loader.image then
      ({ q with loader := { p.loader with st := .idle, result := .saved, cfgBad := false, image := [] } } : Part).answer
        .mp .ok (.load .saved)
    else
      (({ q with loader := { p.loader with
          st := .idle, result := .failed .write, cfgBad := true, image := [] } } : Part).raise .cfgBad).answer
        .mp .transferError (.load (.failed .write))

end Part

end Sys2Proof.Machine
end

