-- ==== Sys2Proof/Machine/Event.lean ====
section
/-! DEFINITION. What comes about inside one event (spec/95_what_each_step_holds.md): the consequences that follow a command's
own effect until none is due, and the outputs that follow the state. The order of the consequences is a design choice
(log entry 1). -/

namespace Sys2Proof.Machine

open Sys2Proof

namespace Part

/-! ## Slot grants (R33, R106, R120) -/

/-- The engine's chunk is granted its slots and passes to READING (R106, R120). -/
def chunkGranted (slots : List Nat) (p : Part) : Part :=
  p.modChunk fun c => { c with
    slots := slots, phase := .reading
    todo := if c.kind = ChunkKind.patrol then [.primary, .secondary] else [c.source] }

/-- A request is granted its slots: a READ passes to ROUTING, a WRITE to DATA_IN, and a WRITE the direct port holds its
pipe for begins to take its data (R33, R183). -/
def requestGranted (r : Request) (slots : List Nat) (p : Part) : Part :=
  let q := p.modRequest r.id fun x => { x with
    slots := slots, life := if r.kind = .write then .dataIn else .routing }
  if q.dp.out = .hold ∧ q.dp.writing = some r.id then
    { q with dp := { q.dp with out := .data, remaining := r.count * Config.blockBytes } }
  else q

/-- The holder a waiter becomes. -/
def holderOf : Waiter → Holder
  | .request id => .request id
  | .engine => .engine

/-- Whether the head of the slot-wait list is granted (R33). -/
def mayGrant (p : Part) : Bool :=
  match p.router.slotWait with
  | [] => false
  | e :: _ => decide (e.need ≤ p.freeSlots)

/-- Grant the head of the slot-wait list that many free slots (R33). -/
def grantHead (p : Part) : Part :=
  match p.router.slotWait with
  | [] => p
  | e :: rest =>
    let taken := takeSlots (holderOf e.who) e.need 0 p.router.pool
    let q (pool : List Holder) : Part := { p with router := { p.router with slotWait := rest, pool := pool } }
    match e.who with
    | .engine => if p.engine.chunk.isSome then (q taken.1).chunkGranted taken.2 else q p.router.pool
    | .request id =>
      match p.request? id with
      | some r => (q taken.1).requestGranted r taken.2
      | none => q p.router.pool

/-! ## Requests (R36 to R41) -/

/-- What a request does next within the event, if anything: it is routed; its fragments are placed, at the end of which, or at
once where it has none, it passes from ROUTING to AT_BAYS (R31, R38); a second FLUSH is placed; or it leaves AT_BAYS. -/
def advance (p : Part) (r : Request) : Option Part :=
  if r.life = .routing ∧ !r.routed then some (p.route r)
  else if r.routed ∧ r.pausedAt.isNone ∧ (r.life = .routing ∨ (nextFragment r).isSome) then some (p.placeRequest r)
  else if r.routed ∧ r.waits.isEmpty ∧ !r.second.isEmpty then some (p.secondFlush r)
  else if leavesBays r then some (p.leaveBays r)
  else none

/-- The next of the requests that have come to leave AT_BAYS, in the order in which they did, leaves it (R41); failing one,
the first request in list order that has something to do. -/
def advanceRequests (p : Part) : Option Part :=
  match p.router.ended with
  | id :: rest =>
    let q : Part := { p with router := { p.router with ended := rest } }
    some (match (q.request? id).filter leavesBays with
      | some r => q.leaveBays r
      | none => q)
  | [] => p.router.requests.findSome? p.advance

/-- The first dropped request whose every operation has ended. -/
def advanceDropped (p : Part) : Option Part := (p.router.dropped.find? allResults).map fun r => p.settleDropped r

/-! ## The copy engine's chunk -/

/-- What the current chunk does next within the event, if anything: it ends, abandoned and with no operation left (R106);
or, a compare chunk that a LOST mark of its window has taken off the slot-wait list (R34, where `Config.lostUnlistsCompare` has
it hold), it ends as R122 gives for such a window (DESIGN CHOICE, log entry 68); or it places its next operation. -/
def advanceChunk (p : Part) : Option Part :=
  match p.engine.chunk with
  | none => none
  | some c =>
    if c.abandoned then (if p.chunkLive then none else some p.endChunk)
    else if c.kind = .patrol ∧ c.phase = .slotWait ∧ (p.window c.window).lost.isSome
        ∧ !(p.router.slotWait.any fun e => e.who == .engine) then some (p.patrolEnd c false false)
    else if !c.todo.isEmpty ∧ !c.paused then some p.placeChunk
    else none

/-! ## Room-wait lists (R38) -/

/-- Whether the head of a bay's room-wait list resumes. -/
def mayResume (x : Bay) : Bool := !x.roomWait.isEmpty && decide (x.queue.length < Config.queueLimit)

/-- The head of bay `b`'s room-wait list resumes placing at its paused fragment (R38). -/
def resumeRoom (b : Fin 4) (p : Part) : Part :=
  match (p.bay b).roomWait with
  | [] => p
  | .request id :: _ =>
    match p.request? id with
    | some r => p.placeRequest r
    | none => p.leaveRooms (.request id)
  | .engine :: _ =>
    match p.engine.chunk with
    | some c => if c.todo.isEmpty then p.leaveRooms .engine else p.placeChunk
    | none => p.leaveRooms .engine

/-! ## DORMANT (R88) -/

/-- Whether bay `b` is sent an order while the box is DORMANT: stopped once quiet, powered off once in STANDBY. -/
def dormantOrder (p : Part) (b : Fin 4) : Bool := (p.bay b).quiet || (p.bay b).power == .standby

/-! ## The consequences of an event -/

/-- The consequence due in a state, the first of the order of log entry 1; absent where none is due. -/
def consequence (p : Part) : Option Part :=
  if p.mayPost then some p.postOne
  else if p.inGrace ∧ p.box.grace = some 0 then some p.graceEnds
  else
    match p.advanceRequests with
    | some q => some q
    | none =>
    match p.advanceDropped with
    | some q => some q
    | none =>
    match p.advanceChunk with
    | some q => some q
    | none =>
    match allBays.find? fun b => mayIssue (p.bay b) with
    | some b => some (p.issueNext b)
    | none =>
    match allBays.find? fun b => mayResume (p.bay b) with
    | some b => some (p.resumeRoom b)
    | none =>
    if p.mayGrant then some p.grantHead
    else if p.admits then some p.admitHead
    else
      match (if p.box.st = some .dormant then allBays.find? p.dormantOrder else none) with
      | some b => some (p.orderBay b)
      | none =>
      match allWindows.find? p.closes with
      | some w => some (p.freeWindow w)
      | none =>
      if p.draining then some p.drainEnds
      else if p.engine.seek then some p.seekJob
      else none

/-- Take consequences until none is due, `fuel` at most. -/
def settle : Nat → Part → Part
  | 0, p => p
  | n + 1, p =>
    match p.consequence with
    | none => p
    | some q => settle n q

/-- Post completions while the ring has room (R179). -/
def postAll : Nat → Part → Part
  | 0, p => p
  | n + 1, p => if p.mayPost then postAll n p.postOne else p

/-! ## The frame of an event -/

/-- An event begins: nothing has been put out in it yet. -/
def begin (p : Part) : Part := { p with out := [] }

/-- The levels of the bay rail enables (R89). -/
def railsNow (p : Part) : Vector Bool 4 := Vector.ofFn fun b => (p.bay b).railOn

/-- The outputs that follow the state: bay rails (R89), attention line (R192), status code (R201), computed here alone
(DESIGN CHOICE, log entry 32). -/
def refresh (p : Part) : Part :=
  { p with
    bayRails := p.railsNow
    mp := { p.mp with attention := p.attentionLine }
    statusCode := p.codeNow }

/-- An event ends: its batch of completions with it (R179). -/
def finish (p : Part) : Part := p.closeBatch.refresh

/-- One event of the main domain: the command's own effect, its consequences, the outputs. While the POR line is held the
main domain takes no command (R195). -/
def event (f : Part → Part) (p : Part) : Part :=
  if p.held then p else (settle Config.cascadeLimit (f p.begin)).finish

/-- The event of a command whose effect is input to no consequence but the posting of completions. -/
def quietEvent (f : Part → Part) (p : Part) : Part :=
  if p.held then p else (postAll Config.ppLimit (f p.begin)).finish

/-! ## Resets (R195) -/

/-- The boot mode of the two straps (R194). -/
def modeOf (i : ResetInputs) : BootMode :=
  match i.strap1, i.strap2 with
  | false, false => .normal
  | true, false => .defaults
  | false, true => .readOnly
  | true, true => .service

/-- The presence line of bay `b` in a reset event. -/
def presenceIn (i : ResetInputs) (b : Fin 4) : Bool := [i.present0, i.present1, i.present2, i.present3][b.val]

/-- A bay record after a power-on reset or RESTART (R46). -/
def bayAtReset (i : ResetInputs) (b : Fin 4) : Bay where
  present := presenceIn i b
  power := if presenceIn i b then .off else .absent
  serviceHold := modeOf i == .service

/-- The main domain with every item at its reset value (R195 step 1). The backup domain is kept, and so are the slots'
contents and the model's next request name (log entry 7). The events held by R144 are discarded (DESIGN CHOICE, log entry 74). -/
def mainAtReset (p : Part) : Part :=
  { clock := p.clock, router := { data := p.router.data, nextId := p.router.nextId }, out := p.out }

/-- The inputs read in the reset event (R46, R71, R188, R194). -/
def readInputs (i : ResetInputs) (p : Part) : Part :=
  let q : Part := { p with
    bays := Vector.ofFn fun b => bayAtReset i b
    mp := { p.mp with addressStrap := i.addressStrap }
    power := { p.power with lowAsserted := i.lowSupply }
    loader := { p.loader with mode := modeOf i, configPresent := i.configPresent } }
  if i.lowSupply then q.raise .lowSupply else q

/-- The undelivered expiries are handed to the power controller, ahead of any event of the load (R170, R195). -/
def handUndelivered (p : Part) : Part :=
  { p with
    clock := { p.clock with undelivered := [] }
    box := { p.box with heldEvents := p.clock.undelivered.map fun u => .alarm u.id u.spins } }

/-- Whether the start sequence loads an image (R195 step 3). -/
def loads (p : Part) : Bool :=
  (p.loader.mode == .normal || p.loader.mode == .readOnly) && p.loader.configPresent

/-- The start sequence of a power-on reset or RESTART (R195). -/
def startSequence (i : ResetInputs) (p : Part) : Part :=
  let q := (p.mainAtReset.readInputs i).handUndelivered
  if q.loads then { q with loader := { q.loader with st := .loading } } else q.firstState

/-! ## Handing commands on (R177, R183, R190, R195) -/

/-- A command is carried out by the block that owns it (R177 and R190). The block requests go to the router by their
ports. -/
def carryOut (who : Answerer) (c : Cmd) (p : Part) : Part :=
  match c with
  | .read .. | .write .. | .flush .. => p
  | .sleep t => p.sleepCmd t who
  | .resume => p.resumeCmd who
  | .frameFetch => p.frameFetch who
  | .windowDefine d => p.windowDefine d who
  | .windowDelete i => p.windowDelete i who
  | .replaceMember i m b base => p.replaceMember i m b base who
  | .windowInfo i => p.windowInfo i who
  | .bayInfo b => p.bayInfo b who
  | .baySpin b => p.baySpin b who
  | .bayStop b => p.bayStop b who
  | .bayClear b => p.bayClear b who
  | .bayQuery b n => p.bayQuery b n who
  | .profileSet a => p.profileSet a who
  | .budgetSet b l => p.budgetSet b l who
  | .patrolSet a => p.patrolSet a who
  | .wakeEntrySet a => p.wakeEntrySet a who
  | .stationSet a => p.stationSet a who
  | .alarmSet a => p.alarmSet a who
  | .alarmClear i all => p.alarmClear i all who
  | .timeSet v => p.timeSet v who
  | .status first => p.statusCmd first who
  | .noticeClear w => p.noticeClear w who
  | .boxWake => p.boxWake who
  | .forceDormant => p.forceDormant who
  | .configSave => p.configSave who
  | .configLoad => p.configLoad who
  | .mpMode m => p.mpMode m who
  | .restart i => p.startSequence i
  | .unknown _ => p.reply who .badRequest

/-- The block request a command is, on a port. -/
def askOf (port : ReqPort) (tag : Tag) : Cmd → Option Ask
  | .read w o n l m => some {
      port := port, tag := tag, kind := .read, window := w, offset := o, count := n, bufList := l, mirrorBoth := m }
  | .write w o n l m => some {
      port := port, tag := tag, kind := .write, window := w, offset := o, count := n, bufList := l, mirrorBoth := m }
  | .flush w m => some { port := port, tag := tag, kind := .flush, window := w, mirrorBoth := m }
  | _ => none

/-- A record fetched by the processor port is handed on by its kind (R177). -/
def handOnPp (tag : Tag) (bufAddr bufLen : Nat) (c : Cmd) (p : Part) : Part :=
  let who : Answerer := .pp tag bufAddr bufLen
  match askOf .pp tag c with
  | some a => if p.box.st = some .waking then p.reply who .wrongState else p.takeRequest a
  | none =>
    match cmdKind c with
    | none => p.reply who .badRequest
    | some k => if ppMayIssue k then p.carryOut who c else p.reply who .denied

/-- A record taken by the direct port is handed on by its kind (R183). -/
def handOnDp (tag : Tag) (c : Cmd) (p : Part) : Part :=
  let who : Answerer := .dp tag
  match askOf .dp tag c with
  | some a => if a.kind = .write then p.dpWrite a else p.takeRequest a
  | none =>
    match cmdKind c with
    | none => p.reply who .badRequest
    | some k => if dpMayIssue k then p.carryOut who c else p.reply who .denied

/-- A frame with a good check byte taken by the management port is dealt with by its kind (R190, R195). -/
def handOnMp (c : Cmd) (p : Part) : Part :=
  match cmdKind c with
  | none => p.reply .mp .badRequest
  | some k =>
    if !mpMayIssue k then p.reply .mp .denied
    else if p.box.st.isNone ∧ busyInLoad k then p.reply .mp .busy
    else p.carryOut .mp c

/-- A whole frame reaches the management port (R189, R190): in EXECUTING it is an overrun. -/
def frameIn (seq : Byte) (kind : Option Kind) (f : Part → Part) (p : Part) : Part :=
  if p.mp.st = .executing then p.overrun else f (p.frameTaken seq kind)

/-- A command comes through a port: the port takes its record or frame where it may, and hands it on. A record the port
does not take stays where it is, and nothing changes (R176, R183; log entry 11). -/
def issue (via : Via) (c : Cmd) (p : Part) : Part :=
  match via with
  | .pp tag addr len => if p.mayFetch then p.fetched.handOnPp tag addr len c else p
  | .dp tag => if p.mayTake then p.taken.handOnDp tag c else p
  | .mp seq => p.frameIn seq (cmdKind c) (handOnMp c)

/-- The processor port fetches its next record, with its operands where they are read from SP memory (R176, R177, R202). -/
def fetchRecord (r : RecordRead) (p : Part) : Part :=
  if !p.mayFetch then p
  else
    match r with
    | .error => p.fetchError
    | .record bytes ops =>
      let tag := recordTag bytes
      let addr := leField bytes 24 8
      let len := leField bytes 32 2
      let q := p.fetched.readOperands bytes
      match askOfRecord bytes ops with
      | .command c => q.handOnPp tag addr len c
      | .refuse st => q.reply (.pp tag addr len) st

/-- An SP memory read is answered with an error (R176, R178, R202). One of operands can arise for a record whose operands
are read from SP memory alone (log entry 5). -/
def memoryError (e : SpReadError) (p : Part) : Part :=
  match e with
  | .record => p.fetchRecord .error
  | .operands record => if (operandRead record).isSome then p.fetchRecord (.record record .error) else p
  | .list tag came => p.listError tag came
  | .block tag list i data => p.blockError tag list i data

/-- A record of 64 bytes on the out pipe is taken and handed on (R183, R202). -/
def dpRecord (bytes : List Byte) (p : Part) : Part :=
  let tag := recordTag bytes
  match askOfDpRecord bytes with
  | .command c => p.taken.handOnDp tag c
  | .refuse st => p.taken.reply (.dp tag) st

/-- A unit on the out pipe, by the out state (R183): in RECORD, where the port takes one, a record or a framing error; in HOLD
nothing is taken; in DATA its bytes go into the WRITE's slots; in DISCARD they are dropped. While the box state is absent a
transfer of any length is refused in RECORD and counts nothing (DESIGN CHOICE, log entry 73). -/
def dpUnit (bytes : List Byte) (p : Part) : Part :=
  match p.dp.out with
  | .record =>
    if !p.mayTake then p
    else if bytes.length = 64 then p.dpRecord bytes
    else p.framingError
  | .hold => p
  | .data => p.dpData bytes
  | .discard => p.dpDiscard bytes.length

/-- A write transaction from the SC with these bytes ends (R189, R190, R205): in EXECUTING it is refused and counted as an
overrun; a frame shorter than its operand length says is not taken; a whole one is. -/
def writeTransaction (f : List Byte) (p : Part) : Part :=
  if p.mp.st = .executing then p.overrun
  else if !wholeFrame f then p
  else
    let q := p.frameTaken (byteAt f 1) (kindOfCode (byteAt f 0))
    match askOfFrame f with
    | .command c => q.handOnMp c
    | .refuse st => q.reply .mp st

end Part

end Sys2Proof.Machine
end

