-- ==== Sys2Proof/Machine/Frame.lean ====
section
/-! DEFINITION. The form of every meaning: an event of the part, the queue of waiting commands untouched. -/

namespace Sys2Proof.Machine

open Sys2Proof

/-- The state with its part changed by `f`; the queue of waiting commands is not touched. -/
def change (f : Part → Part) (s : State) : Host.Outcome State Fault Refusal := .next { s with part := f s.part }

/-- A command as one event of the main domain, with its consequences. -/
def onEvent (f : Part → Part) (s : State) : Host.Outcome State Fault Refusal := change (Part.event f) s

/-- A command as one event whose effect is input to no consequence but the posting of completions. -/
def onQuiet (f : Part → Part) (s : State) : Host.Outcome State Fault Refusal := change (Part.quietEvent f) s

/-- A command as one event of a bay's controller: `f` where the bay meets `c`, nothing where the event cannot arise (log
entry 5). -/
def onBayEvent (b : Fin 4) (c : Bay → Bool) (f : Part → Part) (s : State) : Host.Outcome State Fault Refusal :=
  onEvent (fun p => if c (p.bay b) then f p else p) s

/-- An event of the part where its condition holds, nothing where it does not (log entries 3 and 5). -/
def onCondition (c : Part → Bool) (f : Part → Part) (s : State) : Host.Outcome State Fault Refusal :=
  onEvent (fun p => if c p then f p else p) s

/-- An event of the backup domain: the main domain takes part in it unless it is held (R163, R170). -/
def Part.clockEvent (f : Part → Part) (p : Part) : Part :=
  if p.held then (f p.begin).finish else p.event f

/-- A command as one event of the backup domain. -/
def onClock (f : Part → Part) (s : State) : Host.Outcome State Fault Refusal := change (Part.clockEvent f) s

end Sys2Proof.Machine
end

