-- ==== Sys2Proof/Machine/PortFamily.lean ====
section
/-! DEFINITION. The meanings of the requests and commands that come through a port, in the order of R204: each is the port's
taking of a record or frame and its owner's rule (`Part.issue`, `Part.carryOut`). -/

namespace Sys2Proof.Machine

open Sys2Proof

/-- READ (R28, R29, R177, R183). -/
def execRead (via : Via) (window offset count bufList : Nat) (mirrorBoth : Bool) (s : State) :
    Host.Outcome State Fault Refusal :=
  onEvent (Part.issue via (.read window offset count bufList mirrorBoth)) s

/-- WRITE (R28, R29, R177, R183). -/
def execWrite (via : Via) (window offset count bufList : Nat) (mirrorBoth : Bool) (s : State) :
    Host.Outcome State Fault Refusal :=
  onEvent (Part.issue via (.write window offset count bufList mirrorBoth)) s

/-- FLUSH (R28, R42, R102, R103). -/
def execFlush (via : Via) (window : Nat) (mirrorBoth : Bool) (s : State) : Host.Outcome State Fault Refusal :=
  onEvent (Part.issue via (.flush window mirrorBoth)) s

/-- SLEEP (R131). -/
def execSleep (via : Via) (target : Option SleepTarget) (s : State) : Host.Outcome State Fault Refusal :=
  onEvent (Part.issue via (.sleep target)) s

/-- RESUME (R140). -/
def execResume (via : Via) (s : State) : Host.Outcome State Fault Refusal := onEvent (Part.issue via .resume) s

/-- FRAME_FETCH (R156). -/
def execFrameFetch (via : Via) (s : State) : Host.Outcome State Fault Refusal := onEvent (Part.issue via .frameFetch) s

/-- WINDOW_DEFINE (R7 to R11). -/
def execWindowDefine (via : Via) (d : WindowDef) (s : State) : Host.Outcome State Fault Refusal :=
  onQuiet (Part.issue via (.windowDefine d)) s

/-- WINDOW_DELETE (R13, R15). -/
def execWindowDelete (via : Via) (index : Nat) (s : State) : Host.Outcome State Fault Refusal :=
  onEvent (Part.issue via (.windowDelete index)) s

/-- REPLACE_MEMBER (R19, R110). -/
def execReplaceMember (via : Via) (index : Nat) (which : Option Side) (bay base : Nat) (s : State) :
    Host.Outcome State Fault Refusal :=
  onEvent (Part.issue via (.replaceMember index which bay base)) s

/-- WINDOW_INFO (R16). -/
def execWindowInfo (via : Via) (index : Option Nat) (s : State) : Host.Outcome State Fault Refusal :=
  onQuiet (Part.issue via (.windowInfo index)) s

/-- BAY_INFO (R67). -/
def execBayInfo (via : Via) (bay : Nat) (s : State) : Host.Outcome State Fault Refusal :=
  onQuiet (Part.issue via (.bayInfo bay)) s

/-- BAY_SPIN (R68). -/
def execBaySpin (via : Via) (bay : Nat) (s : State) : Host.Outcome State Fault Refusal :=
  onEvent (Part.issue via (.baySpin bay)) s

/-- BAY_STOP (R69). -/
def execBayStop (via : Via) (bay : Nat) (s : State) : Host.Outcome State Fault Refusal :=
  onEvent (Part.issue via (.bayStop bay)) s

/-- BAY_CLEAR (R66). -/
def execBayClear (via : Via) (bay : Nat) (s : State) : Host.Outcome State Fault Refusal :=
  onEvent (Part.issue via (.bayClear bay)) s

/-- BAY_QUERY (R70). -/
def execBayQuery (via : Via) (bay : Nat) (noWake : Bool) (s : State) : Host.Outcome State Fault Refusal :=
  onEvent (Part.issue via (.bayQuery bay noWake)) s

/-- PROFILE_SET (R77). -/
def execProfileSet (via : Via) (a : ProfileArgs) (s : State) : Host.Outcome State Fault Refusal :=
  onEvent (Part.issue via (.profileSet a)) s

/-- BUDGET_SET (R73). -/
def execBudgetSet (via : Via) (b bLow : Nat) (s : State) : Host.Outcome State Fault Refusal :=
  onEvent (Part.issue via (.budgetSet b bLow)) s

/-- PATROL_SET (R115). -/
def execPatrolSet (via : Via) (a : PatrolArgs) (s : State) : Host.Outcome State Fault Refusal :=
  onEvent (Part.issue via (.patrolSet a)) s

/-- WAKE_ENTRY_SET (R158). -/
def execWakeEntrySet (via : Via) (w : WakeArgs) (s : State) : Host.Outcome State Fault Refusal :=
  onQuiet (Part.issue via (.wakeEntrySet w)) s

/-- STATION_SET (R159). -/
def execStationSet (via : Via) (a : StationArgs) (s : State) : Host.Outcome State Fault Refusal :=
  onQuiet (Part.issue via (.stationSet a)) s

/-- ALARM_SET (R167). -/
def execAlarmSet (via : Via) (a : AlarmArgs) (s : State) : Host.Outcome State Fault Refusal :=
  onEvent (Part.issue via (.alarmSet a)) s

/-- ALARM_CLEAR (R168). -/
def execAlarmClear (via : Via) (id : Nat) (all : Bool) (s : State) : Host.Outcome State Fault Refusal :=
  onQuiet (Part.issue via (.alarmClear id all)) s

/-- TIME_SET (R165). -/
def execTimeSet (via : Via) (v : Seconds) (s : State) : Host.Outcome State Fault Refusal :=
  onEvent (Part.issue via (.timeSet v)) s

/-- STATUS (R193). -/
def execStatus (via : Via) (first : Nat) (s : State) : Host.Outcome State Fault Refusal :=
  onQuiet (Part.issue via (.status first)) s

/-- NOTICE_CLEAR (R180, R192). -/
def execNoticeClear (via : Via) (word : Word16) (s : State) : Host.Outcome State Fault Refusal :=
  onQuiet (Part.issue via (.noticeClear word)) s

/-- BOX_WAKE (R143). -/
def execBoxWake (via : Via) (s : State) : Host.Outcome State Fault Refusal := onEvent (Part.issue via .boxWake) s

/-- FORCE_DORMANT (R143). -/
def execForceDormant (via : Via) (s : State) : Host.Outcome State Fault Refusal :=
  onEvent (Part.issue via .forceDormant) s

/-- CONFIG_SAVE (R199). -/
def execConfigSave (via : Via) (s : State) : Host.Outcome State Fault Refusal := onQuiet (Part.issue via .configSave) s

/-- CONFIG_LOAD (R198). -/
def execConfigLoad (via : Via) (s : State) : Host.Outcome State Fault Refusal := onQuiet (Part.issue via .configLoad) s

/-- MP_MODE (R193). -/
def execMpMode (via : Via) (m : Option MpMode) (s : State) : Host.Outcome State Fault Refusal :=
  onQuiet (Part.issue via (.mpMode m)) s

/-- RESTART (R195). -/
def execRestart (via : Via) (inputs : ResetInputs) (s : State) : Host.Outcome State Fault Refusal :=
  onEvent (Part.issue via (.restart inputs)) s

/-- A record or frame whose kind code names no command (R177, R183, R190). -/
def execUnknownKindRecord (via : Via) (code : Byte) (s : State) : Host.Outcome State Fault Refusal :=
  onQuiet (Part.issue via (.unknown code)) s

end Sys2Proof.Machine
end

