-- ==== Sys2Proof/Machine/PortEvents.lean ====
section
/-! DEFINITION. The meanings of the ports' own events: the management port's transactions (section 11.1), the SP's writes to
the processor port and its data movement (sections 10.1 to 10.6), the direct port's pipes (section 10.7). -/

namespace Sys2Proof.Machine

open Sys2Proof

/-! ## Management port -/

/-- BAD_CHECK_FRAME (R190 case 1, R205): a write transaction with these bytes; where its check byte disagrees, the frame is
taken and answered BAD_REQUEST. -/
def execBadCheckFrame (bytes : List Byte) (s : State) : Host.Outcome State Fault Refusal :=
  onEvent (Part.writeTransaction bytes) s

/-- MP_OVERRUN (R189): in EXECUTING the transaction is refused and counted. -/
def execMpOverrun (s : State) : Host.Outcome State Fault Refusal :=
  onQuiet (fun p => if p.mp.st = .executing then p.overrun else p) s

/-- MP_SHORT_FRAME (R189): nothing is taken, nothing is counted, in EXECUTING too (DESIGN CHOICE, log entry 81). -/
def execMpShortFrame (s : State) : Host.Outcome State Fault Refusal := onQuiet (fun p => p) s

/-- MP_READ (R191). -/
def execMpRead (n : Nat) (s : State) : Host.Outcome State Fault Refusal := onQuiet (Part.mpRead n) s

/-- MP_HOLD_TIMEOUT (R191). -/
def execMpHoldTimeout (s : State) : Host.Outcome State Fault Refusal := onQuiet Part.holdTimeout s

/-! ## Processor port -/

/-- SETUP_WORD_WRITE (R174). -/
def execSetupWordWrite (w : SetupWord) (value : Nat) (s : State) : Host.Outcome State Fault Refusal :=
  onQuiet (Part.setupWord w value) s

/-- RING_START (R174). -/
def execRingStart (value : Nat) (s : State) : Host.Outcome State Fault Refusal := onQuiet (Part.ringStart value) s

/-- SUBMISSION_TAIL_NOTICE (R175). -/
def execSubmissionTailNotice (value : Nat) (s : State) : Host.Outcome State Fault Refusal :=
  onQuiet (Part.tailNotice value) s

/-- COMPLETION_HEAD_NOTICE (R175, R179). -/
def execCompletionHeadNotice (value : Nat) (s : State) : Host.Outcome State Fault Refusal :=
  onEvent (Part.headNotice value) s

/-- INTERRUPT_MASK (R180). -/
def execInterruptMask (word : Word16) (s : State) : Host.Outcome State Fault Refusal := onQuiet (Part.maskWrite word) s

/-- RECORD_FETCH (R176, R177). -/
def execRecordFetch (r : RecordRead) (s : State) : Host.Outcome State Fault Refusal := onEvent (Part.fetchRecord r) s

/-- PP_WRITE_DATA_DONE (R35, R178). -/
def execPpWriteDataDone (tag : Tag) (r : WriteRead) (s : State) : Host.Outcome State Fault Refusal :=
  onEvent (Part.writeTaken tag r.list r.data) s

/-- PP_READ_DELIVERY_DONE (R41, R178). -/
def execPpReadDeliveryDone (tag : Tag) (list : List Byte) (s : State) : Host.Outcome State Fault Refusal :=
  onEvent (Part.readDelivered tag list) s

/-- SP_MEMORY_ERROR (R176, R178, R202). -/
def execSpMemoryError (e : SpReadError) (s : State) : Host.Outcome State Fault Refusal := onEvent (Part.memoryError e) s

/-- Whether the SLEEP completion has been written and the grace count has not begun (R132). -/
def Part.sleepWritten (p : Part) : Bool :=
  p.inGrace && p.box.grace.isNone && !(p.pp.list.any fun c => c.isSleep)

/-- SLEEP_COMPLETION_WRITTEN (R132). -/
def execSleepCompletionWritten (s : State) : Host.Outcome State Fault Refusal :=
  onCondition Part.sleepWritten Part.beginGrace s

/-- FRAME_TRANSFER_DONE (R156). -/
def execFrameTransferDone (s : State) : Host.Outcome State Fault Refusal := onEvent Part.transferDone s

/-- LINK_RESET (R132, R181). -/
def execLinkReset (s : State) : Host.Outcome State Fault Refusal := onEvent (fun p => p.ppReset.linkResetBox) s

/-! ## Direct port -/

/-- DP_ATTACH (R182). -/
def execDpAttach (s : State) : Host.Outcome State Fault Refusal := onEvent Part.attach s

/-- DP_DETACH (R185). -/
def execDpDetach (s : State) : Host.Outcome State Fault Refusal := onEvent Part.detach s

/-- DP_BAD_UNIT (R183): a transfer in RECORD of a length other than 64 bytes. While the box state is absent it is refused and
counts nothing (DESIGN CHOICE, log entry 73). -/
def execDpBadUnit (len : Nat) (s : State) : Host.Outcome State Fault Refusal :=
  onQuiet (fun p => if p.mayTake ∧ len ≠ 64 then p.framingError else p) s

/-- DP_DATA_UNIT (R183, R202): a transfer of these bytes on the out pipe. -/
def execDpDataUnit (bytes : List Byte) (s : State) : Host.Outcome State Fault Refusal := onEvent (Part.dpUnit bytes) s

/-- DP_DISCARD_DATA (R183). -/
def execDpDiscardData (n : Nat) (s : State) : Host.Outcome State Fault Refusal := onQuiet (Part.dpDiscard n) s

/-- DP_READ_DATA_SENT (R184). -/
def execDpReadDataSent (s : State) : Host.Outcome State Fault Refusal := onEvent Part.dpReadSent s

/-- DP_COMPLETION_SENT (R184). -/
def execDpCompletionSent (s : State) : Host.Outcome State Fault Refusal := onQuiet Part.dpCompletionSent s

end Sys2Proof.Machine
end

