-- ==== Sys2Proof/Machine/EngineEvents.lean ====
section
/-! DEFINITION. The meanings of the part's own steps that the opcode table lists as rows: slot grants, room, the drain's end,
a window's close, admissions, the copy engine's choice and the issue of bay operations. Each acts exactly where its condition
holds (log entry 3); the same steps come about inside the events that make them due (Machine/Event.lean). -/

namespace Sys2Proof.Machine

open Sys2Proof

/-- SLOT_GRANT (R33). -/
def execSlotGrant (s : State) : Host.Outcome State Fault Refusal := onCondition Part.mayGrant Part.grantHead s

/-- ROOM_RESUME (R38). -/
def execRoomResume (bay : Fin 4) (s : State) : Host.Outcome State Fault Refusal :=
  onBayEvent bay Part.mayResume (Part.resumeRoom bay) s

/-- DRAIN_END (R132). -/
def execDrainEnd (s : State) : Host.Outcome State Fault Refusal := onCondition Part.draining Part.drainEnds s

/-- WINDOW_CLOSE_END (R15). -/
def execWindowCloseEnd (window : Fin 16) (s : State) : Host.Outcome State Fault Refusal :=
  onCondition (fun p => p.closes window) (Part.freeWindow window) s

/-- START_ADMISSION (R82, R83). -/
def execStartAdmission (s : State) : Host.Outcome State Fault Refusal := onCondition Part.admits Part.admitHead s

/-- COPY_JOB_START (R105). -/
def execCopyJobStart (s : State) : Host.Outcome State Fault Refusal := onEvent Part.seekJob s

/-- BAY_OP_ISSUE (R60, R61). -/
def execBayOpIssue (bay : Fin 4) (s : State) : Host.Outcome State Fault Refusal :=
  onBayEvent bay Part.mayIssue (Part.issueNext bay) s

end Sys2Proof.Machine
end

