-- ==== Sys2Proof/Machine/DriveEvents.lean ====
section
/-! DEFINITION. The meanings of the bays' events: drive answers, command limits, link and bring-up events, presence
(chapter 3). An event that cannot arise in the bay's state changes nothing (log entry 5). -/

namespace Sys2Proof.Machine

open Sys2Proof

/-- DRIVE_ANSWER (R61): the operation in flight at a READY bay with its link LOCKED is answered. -/
def execDriveAnswer (bay : Fin 4) (a : DriveAnswer) (s : State) : Host.Outcome State Fault Refusal :=
  onEvent (fun p =>
    match Part.answerable (p.bay bay) with
    | none => p
    | some o =>
      match a with
      | .done data => p.answerDone bay o data
      | .mediaError sector => p.answerMedia bay o sector
      | .abort => p.answerAbort bay o) s

/-- Whether a command in flight at a bay has its 30 s limit running (R62, R63). -/
def Bay.limited (x : Bay) : Bool :=
  (x.power == .ready || x.power == .stopping) && x.link == .locked && x.inFlight != .nothing

/-- COMMAND_TIMEOUT (R62). -/
def execCommandTimeout (bay : Fin 4) (s : State) : Host.Outcome State Fault Refusal :=
  onBayEvent bay Bay.limited (Part.limitExpired bay) s

/-- LINK_LOSS (R53, R54, R59, R63). -/
def execLinkLoss (bay : Fin 4) (s : State) : Host.Outcome State Fault Refusal :=
  onBayEvent bay (fun x => x.link == .locked) (Part.linkLost bay) s

/-- LINK_LOCKED (R53, R54, R63). -/
def execLinkLocked (bay : Fin 4) (s : State) : Host.Outcome State Fault Refusal :=
  onBayEvent bay (fun x => x.link == .training) (Part.linkGained bay) s

/-- RETRAIN_ATTEMPT_END (R63): a further attempt, or FAULT with kind LINK at the third. -/
def execRetrainAttemptEnd (bay : Fin 4) (s : State) : Host.Outcome State Fault Refusal :=
  onBayEvent bay (fun x => (x.power == .ready || x.power == .stopping) && x.link == .training) (fun p =>
    if (p.bay bay).retrain < Config.retrainLimit then p.beginRetrain bay
    else (p.recordError bay .link none).enterFault bay) s

/-- SUPPLY_SETTLE_END (R53 steps 1 and 2). -/
def execSupplySettleEnd (bay : Fin 4) (s : State) : Host.Outcome State Fault Refusal :=
  onBayEvent bay (fun x => x.power == .starting && x.startedFrom == some .off && x.link == .down)
    (Part.modBay bay fun x => { x with link := .training }) s

/-- BRINGUP_TRAINING_TIMEOUT (R53 step 3): the link returns to DOWN and training begins again at once. -/
def execBringupTrainingTimeout (bay : Fin 4) (s : State) : Host.Outcome State Fault Refusal :=
  onBayEvent bay (fun x => x.power == .starting && x.link == .training)
    (Part.modBay bay fun x => { x with link := .training }) s

/-- DRIVE_READY_REPORT (R53 step 4). -/
def execDriveReadyReport (bay : Fin 4) (s : State) : Host.Outcome State Fault Refusal :=
  onBayEvent bay (fun x => x.power == .starting && x.startedFrom == some .off && x.link == .locked
    && x.inFlight == .nothing) (Part.issueIdentify bay) s

/-- IDENTIFY_ANSWER (R53 steps 4 to 8). -/
def execIdentifyAnswer (bay : Fin 4) (a : IdentifyAnswer) (s : State) : Host.Outcome State Fault Refusal :=
  onBayEvent bay (fun x => x.power == .starting && x.link == .locked && x.inFlight == .identify) (fun p =>
    match a with
    | .done sectors serial => p.identified bay (Part.identityOf sectors serial)
    | .mediaError | .abort => p.issueIdentify bay) s

/-- SPIN_UP_ANSWER (R54). -/
def execSpinUpAnswer (bay : Fin 4) (a : SimpleAnswer) (s : State) : Host.Outcome State Fault Refusal :=
  onBayEvent bay (fun x => x.power == .starting && x.link == .locked && x.inFlight == .spinUp) (fun p =>
    match a with
    | .done => ((p.clearFlight bay).clearRun bay).enterReady bay
    | .mediaError | .abort => p.issueSpinUp bay) s

/-- START_TIMEOUT (R55). -/
def execStartTimeout (bay : Fin 4) (s : State) : Host.Outcome State Fault Refusal :=
  onEvent (Part.startFails bay) s

/-- GO_STANDBY_ANSWER (R57). -/
def execGoStandbyAnswer (bay : Fin 4) (a : SimpleAnswer) (s : State) : Host.Outcome State Fault Refusal :=
  onBayEvent bay (fun x => x.power == .stopping && x.link == .locked && x.inFlight == .goStandby) (fun p =>
    match a with
    | .done => p.standbyReached bay
    | .mediaError | .abort => p.standbyRefused bay) s

/-- The drive has answered HEALTH READ: nothing is in flight, timeout run is 0, and the completion is reported with class MP
(R70, R85). -/
def Part.healthAnswered (bay : Fin 4) (p : Part) : Part := ((p.clearFlight bay).clearRun bay).reportClass bay .mp

/-- HEALTH_READ_ANSWER (R70). A query answered TIMEOUT carries an empty answer (DEDUCED, log entry 31). -/
def execHealthReadAnswer (bay : Fin 4) (a : HealthAnswer) (s : State) : Host.Outcome State Fault Refusal :=
  onBayEvent bay (fun x => x.power == .ready && x.link == .locked && x.inFlight == .healthRead) (fun p =>
    let q := p.healthAnswered bay
    match a with
    | .done temperature hours realloc =>
      let h := q.healthOf temperature hours realloc
      (q.modBay bay fun x => { x with health := some h }).answerQuery bay .ok (.health (some h))
    | .mediaError | .abort => q.answerQuery bay .timeout .nothing) s

/-- BAY_PRESENCE_ASSERT (R48). -/
def execBayPresenceAssert (bay : Fin 4) (s : State) : Host.Outcome State Fault Refusal :=
  onBayEvent bay (fun x => !x.present) (Part.presenceTaken bay) s

/-- BAY_PRESENCE_RELEASE (R49). -/
def execBayPresenceRelease (bay : Fin 4) (s : State) : Host.Outcome State Fault Refusal :=
  onBayEvent bay (fun x => x.present) (Part.presenceLost bay) s

end Sys2Proof.Machine
end

