-- ==== Sys2Proof/Machine/BoxEvents.lean ====
section
/-! DEFINITION. The meanings of the box's events: the low-supply input, the power button, the tick and the timers, frames,
resets and the configuration loader's ends. -/

namespace Sys2Proof.Machine

open Sys2Proof

/-! ## Inputs -/

/-- LOW_SUPPLY_ASSERT (R72). -/
def execLowSupplyAssert (s : State) : Host.Outcome State Fault Refusal :=
  onCondition (fun p => !p.power.lowAsserted)
    (fun p => ({ p with power := { p.power with lowAsserted := true } } : Part).raise .lowSupply) s

/-- LOW_SUPPLY_RELEASE (R72). -/
def execLowSupplyRelease (s : State) : Host.Outcome State Fault Refusal :=
  onCondition (fun p => p.power.lowAsserted)
    (fun p => { p with power := { p.power with lowAsserted := false } }) s

/-- A press of the power button begins or ceases to be measured. -/
def Part.setPressed (v : Bool) (p : Part) : Part := { p with box := { p.box with pressed := v } }

/-- BUTTON_PRESS (R142). -/
def execButtonPress (s : State) : Host.Outcome State Fault Refusal := onQuiet (Part.setPressed true) s

/-- BUTTON_RELEASE (R142): the release of a press still measured is a short press, held during start-up (R144). -/
def execButtonRelease (s : State) : Host.Outcome State Fault Refusal :=
  onCondition (fun p => p.box.pressed) (fun p =>
    let q := p.setPressed false
    if q.box.st.isNone then q.hold .shortPress else q.shortPress) s

/-- BUTTON_LONG_PRESS (R142): the forced stop is made without waiting for the release, which then does nothing. -/
def execButtonLongPress (s : State) : Host.Outcome State Fault Refusal :=
  onCondition (fun p => p.box.pressed) (fun p =>
    let q := p.setPressed false
    if q.box.st.isNone then q.hold .longPress else q.forcedStop) s

/-! ## The tick and the timers -/

/-- The counter advances, and the expiry pass is made (R163). -/
def Part.tickClock (p : Part) : Part :=
  ({ p with clock := { p.clock with counter := bump Config.maxSeconds p.clock.counter } } : Part).expiryPass

/-- BOX_CLOCK_TICK (R163): with no supply to the backup domain there is no tick; the main domain's timers run unless it is
held. -/
def execBoxClockTick (s : State) : Host.Outcome State Fault Refusal :=
  onClock (fun p =>
    if !p.clock.supplied then p
    else if p.held then p.tickClock
    else p.tickClock.tickMain) s

/-- ALARM_EXPIRY (R169): the head of the list, where it is at or before the counter. -/
def execAlarmExpiry (s : State) : Host.Outcome State Fault Refusal :=
  onClock (fun p => if p.alarmDue then p.expireHead else p) s

/-- IDLE_STANDBY_EXPIRY (R86): a quiet bay's counter is at idle_standby, so the stop order is sent. -/
def execIdleStandbyExpiry (bay : Fin 4) (s : State) : Host.Outcome State Fault Refusal :=
  onBayEvent bay (fun x => x.quiet && x.profile.idleStandby != 0) (fun p =>
    (p.modBay bay fun x => { x with idle := max x.idle x.profile.idleStandby }).stopOrder bay) s

/-- IDLE_OFF_EXPIRY (R87): a STANDBY bay's counter is at idle_off with may_power_off set, so the power-off order is sent. -/
def execIdleOffExpiry (bay : Fin 4) (s : State) : Host.Outcome State Fault Refusal :=
  onBayEvent bay (fun x => x.power == .standby && x.profile.mayPowerOff && x.profile.idleOff != 0) (fun p =>
    (p.modBay bay fun x => { x with idle := max x.idle x.profile.idleOff }).powerOffOrder bay) s

/-- T_SP_END (R79). -/
def execTSpEnd (s : State) : Host.Outcome State Fault Refusal :=
  onCondition (fun p => p.power.spRail && p.power.tSpLeft.isSome) Part.spSettled s

/-- GRACE_END (R134). -/
def execGraceEnd (s : State) : Host.Outcome State Fault Refusal :=
  onCondition (fun p => p.inGrace && p.box.grace.isSome) Part.graceEnds s

/-- RESUME_LIMIT_EXPIRY (R141). -/
def execResumeLimitExpiry (s : State) : Host.Outcome State Fault Refusal :=
  onCondition (fun p => p.box.st == some .waking && p.power.spRail && p.box.resumeCount.isSome) Part.resumeExpires s

/-- PATROL_DUE (R116, R117). -/
def execPatrolDue (window : Fin 16) (s : State) : Host.Outcome State Fault Refusal :=
  onCondition (fun p => Part.patrolRuns (p.window window)) (Part.patrolFallsDue window) s

/-- FRAME_ARRIVAL (R147 to R154). -/
def execFrameArrival (f : Arrival) (s : State) : Host.Outcome State Fault Refusal :=
  onEvent (Part.frameArrives f.bytes f.fromStart) s

/-! ## Resets, supplies and the loader -/

/-- The box clock as the return of supply to the backup domain leaves it (R164). -/
def Part.clockRestored (p : Part) : Part := { p with clock := {} }

/-- POWER_ON_RESET (R195): the POR line is released. A backup domain without supply has it again, the main supply being
present (R164). -/
def execPowerOnReset (inputs : ResetInputs) (s : State) : Host.Outcome State Fault Refusal :=
  change (fun p =>
    let q := if p.clock.supplied then p.begin else p.begin.clockRestored
    (Part.settle Config.cascadeLimit (q.startSequence inputs)).finish) s

/-- BACKUP_SUPPLY_LOSS (R164): it can happen only while the main domain is unpowered. -/
def execBackupSupplyLoss (s : State) : Host.Outcome State Fault Refusal :=
  change (fun p => if p.held then { p with clock := { supplied := false } } else p) s

/-- IMAGE_JUDGED (R197, R198). -/
def execImageJudged (image : List Byte) (s : State) : Host.Outcome State Fault Refusal :=
  onEvent (Part.imageRead image) s

/-- SAVE_READBACK_END (R199). -/
def execSaveReadbackEnd (image : List Byte) (s : State) : Host.Outcome State Fault Refusal :=
  onQuiet (Part.readBack image) s

/-- POR_LINE_ASSERTED (R195): the main domain is held at its reset values, its rails off, the status code 0
(DEDUCED, log entry 26). -/
def execPorLineAsserted (s : State) : Host.Outcome State Fault Refusal :=
  change (fun p => ({ p.begin.mainAtReset with held := true } : Part).finish) s

/-- BACKUP_DOMAIN_SUPPLY_RETURN (R164). -/
def execBackupDomainSupplyReturn (s : State) : Host.Outcome State Fault Refusal :=
  change (fun p => if p.clock.supplied then p else p.clockRestored) s

end Sys2Proof.Machine
end

