-- ==== Sys2Proof/Machine/Dispatch.lean ====
section
/-! DEFINITION. The meaning of each command: one arm for each row of spec/opcode_table.json, each a direct call. -/

namespace Sys2Proof.Machine

open Sys2Proof

def exec (i : Instr) (s : State) : Host.Outcome State Fault Refusal :=
  match i with
  | .read via window offset count bufList mirrorBoth => Sys2Proof.Machine.execRead via window offset count bufList mirrorBoth s
  | .write via window offset count bufList mirrorBoth => Sys2Proof.Machine.execWrite via window offset count bufList mirrorBoth s
  | .flush via window mirrorBoth => Sys2Proof.Machine.execFlush via window mirrorBoth s
  | .sleep via target => Sys2Proof.Machine.execSleep via target s
  | .resume via => Sys2Proof.Machine.execResume via s
  | .frameFetch via => Sys2Proof.Machine.execFrameFetch via s
  | .windowDefine via d => Sys2Proof.Machine.execWindowDefine via d s
  | .windowDelete via index => Sys2Proof.Machine.execWindowDelete via index s
  | .replaceMember via index which bay base => Sys2Proof.Machine.execReplaceMember via index which bay base s
  | .windowInfo via index => Sys2Proof.Machine.execWindowInfo via index s
  | .bayInfo via bay => Sys2Proof.Machine.execBayInfo via bay s
  | .baySpin via bay => Sys2Proof.Machine.execBaySpin via bay s
  | .bayStop via bay => Sys2Proof.Machine.execBayStop via bay s
  | .bayClear via bay => Sys2Proof.Machine.execBayClear via bay s
  | .bayQuery via bay noWake => Sys2Proof.Machine.execBayQuery via bay noWake s
  | .profileSet via p => Sys2Proof.Machine.execProfileSet via p s
  | .budgetSet via b bLow => Sys2Proof.Machine.execBudgetSet via b bLow s
  | .patrolSet via p => Sys2Proof.Machine.execPatrolSet via p s
  | .wakeEntrySet via w => Sys2Proof.Machine.execWakeEntrySet via w s
  | .stationSet via a => Sys2Proof.Machine.execStationSet via a s
  | .alarmSet via a => Sys2Proof.Machine.execAlarmSet via a s
  | .alarmClear via id all => Sys2Proof.Machine.execAlarmClear via id all s
  | .timeSet via v => Sys2Proof.Machine.execTimeSet via v s
  | .status via first => Sys2Proof.Machine.execStatus via first s
  | .noticeClear via word => Sys2Proof.Machine.execNoticeClear via word s
  | .boxWake via => Sys2Proof.Machine.execBoxWake via s
  | .forceDormant via => Sys2Proof.Machine.execForceDormant via s
  | .configSave via => Sys2Proof.Machine.execConfigSave via s
  | .configLoad via => Sys2Proof.Machine.execConfigLoad via s
  | .mpMode via m => Sys2Proof.Machine.execMpMode via m s
  | .restart via inputs => Sys2Proof.Machine.execRestart via inputs s
  | .unknownKindRecord via code => Sys2Proof.Machine.execUnknownKindRecord via code s
  | .badCheckFrame bytes => Sys2Proof.Machine.execBadCheckFrame bytes s
  | .mpOverrun => Sys2Proof.Machine.execMpOverrun s
  | .mpShortFrame => Sys2Proof.Machine.execMpShortFrame s
  | .mpRead n => Sys2Proof.Machine.execMpRead n s
  | .mpHoldTimeout => Sys2Proof.Machine.execMpHoldTimeout s
  | .setupWordWrite w value => Sys2Proof.Machine.execSetupWordWrite w value s
  | .ringStart value => Sys2Proof.Machine.execRingStart value s
  | .submissionTailNotice value => Sys2Proof.Machine.execSubmissionTailNotice value s
  | .completionHeadNotice value => Sys2Proof.Machine.execCompletionHeadNotice value s
  | .interruptMask word => Sys2Proof.Machine.execInterruptMask word s
  | .recordFetch r => Sys2Proof.Machine.execRecordFetch r s
  | .ppWriteDataDone tag r => Sys2Proof.Machine.execPpWriteDataDone tag r s
  | .ppReadDeliveryDone tag list => Sys2Proof.Machine.execPpReadDeliveryDone tag list s
  | .spMemoryError e => Sys2Proof.Machine.execSpMemoryError e s
  | .sleepCompletionWritten => Sys2Proof.Machine.execSleepCompletionWritten s
  | .frameTransferDone => Sys2Proof.Machine.execFrameTransferDone s
  | .linkReset => Sys2Proof.Machine.execLinkReset s
  | .dpAttach => Sys2Proof.Machine.execDpAttach s
  | .dpDetach => Sys2Proof.Machine.execDpDetach s
  | .dpBadUnit len => Sys2Proof.Machine.execDpBadUnit len s
  | .dpDataUnit bytes => Sys2Proof.Machine.execDpDataUnit bytes s
  | .dpDiscardData n => Sys2Proof.Machine.execDpDiscardData n s
  | .dpReadDataSent => Sys2Proof.Machine.execDpReadDataSent s
  | .dpCompletionSent => Sys2Proof.Machine.execDpCompletionSent s
  | .slotGrant => Sys2Proof.Machine.execSlotGrant s
  | .roomResume bay => Sys2Proof.Machine.execRoomResume bay s
  | .drainEnd => Sys2Proof.Machine.execDrainEnd s
  | .windowCloseEnd window => Sys2Proof.Machine.execWindowCloseEnd window s
  | .startAdmission => Sys2Proof.Machine.execStartAdmission s
  | .copyJobStart => Sys2Proof.Machine.execCopyJobStart s
  | .bayOpIssue bay => Sys2Proof.Machine.execBayOpIssue bay s
  | .driveAnswer bay a => Sys2Proof.Machine.execDriveAnswer bay a s
  | .commandTimeout bay => Sys2Proof.Machine.execCommandTimeout bay s
  | .linkLoss bay => Sys2Proof.Machine.execLinkLoss bay s
  | .linkLocked bay => Sys2Proof.Machine.execLinkLocked bay s
  | .retrainAttemptEnd bay => Sys2Proof.Machine.execRetrainAttemptEnd bay s
  | .supplySettleEnd bay => Sys2Proof.Machine.execSupplySettleEnd bay s
  | .bringupTrainingTimeout bay => Sys2Proof.Machine.execBringupTrainingTimeout bay s
  | .driveReadyReport bay => Sys2Proof.Machine.execDriveReadyReport bay s
  | .identifyAnswer bay a => Sys2Proof.Machine.execIdentifyAnswer bay a s
  | .spinUpAnswer bay a => Sys2Proof.Machine.execSpinUpAnswer bay a s
  | .startTimeout bay => Sys2Proof.Machine.execStartTimeout bay s
  | .goStandbyAnswer bay a => Sys2Proof.Machine.execGoStandbyAnswer bay a s
  | .healthReadAnswer bay a => Sys2Proof.Machine.execHealthReadAnswer bay a s
  | .bayPresenceAssert bay => Sys2Proof.Machine.execBayPresenceAssert bay s
  | .bayPresenceRelease bay => Sys2Proof.Machine.execBayPresenceRelease bay s
  | .lowSupplyAssert => Sys2Proof.Machine.execLowSupplyAssert s
  | .lowSupplyRelease => Sys2Proof.Machine.execLowSupplyRelease s
  | .buttonPress => Sys2Proof.Machine.execButtonPress s
  | .buttonRelease => Sys2Proof.Machine.execButtonRelease s
  | .buttonLongPress => Sys2Proof.Machine.execButtonLongPress s
  | .boxClockTick => Sys2Proof.Machine.execBoxClockTick s
  | .alarmExpiry => Sys2Proof.Machine.execAlarmExpiry s
  | .idleStandbyExpiry bay => Sys2Proof.Machine.execIdleStandbyExpiry bay s
  | .idleOffExpiry bay => Sys2Proof.Machine.execIdleOffExpiry bay s
  | .tSpEnd => Sys2Proof.Machine.execTSpEnd s
  | .graceEnd => Sys2Proof.Machine.execGraceEnd s
  | .resumeLimitExpiry => Sys2Proof.Machine.execResumeLimitExpiry s
  | .patrolDue window => Sys2Proof.Machine.execPatrolDue window s
  | .frameArrival f => Sys2Proof.Machine.execFrameArrival f s
  | .powerOnReset inputs => Sys2Proof.Machine.execPowerOnReset inputs s
  | .backupSupplyLoss => Sys2Proof.Machine.execBackupSupplyLoss s
  | .imageJudged image => Sys2Proof.Machine.execImageJudged image s
  | .saveReadbackEnd image => Sys2Proof.Machine.execSaveReadbackEnd image s
  | .porLineAsserted => Sys2Proof.Machine.execPorLineAsserted s
  | .backupDomainSupplyReturn => Sys2Proof.Machine.execBackupDomainSupplyReturn s

end Sys2Proof.Machine
end

