-- ==== Sys2Proof/Safety.lean ====
section
/-! DEFINITION. What is claimed of the machine's states: the invariants that every step keeps, and the form in which a
command's effect is stated. -/

namespace Sys2Proof.Machine

open Sys2Proof

namespace Part

/-! ## Invariants -/

/-- The pool has its 512 slots and the slots' contents stand in canonical form (R32). -/
def PoolInv (p : Part) : Prop := p.router.pool.length = Config.poolSlots ∧ memWf p.router.data

/-- The seconds counter is in range, the alarm list holds at most eight alarms with distinct ids in ascending time, and every
alarm lies after the counter and in its range (R163, R166, R169). -/
def AlarmInv (p : Part) : Prop :=
  p.clock.counter ≤ Config.maxSeconds
    ∧ p.clock.alarms.length ≤ Config.alarmLimit
    ∧ (p.clock.alarms.map fun a => a.id).Nodup
    ∧ p.clock.alarms.Pairwise (fun a b => a.time ≤ b.time)
    ∧ ∀ a ∈ p.clock.alarms, p.clock.counter < a.time ∧ a.time ≤ Config.maxSeconds

/-- The resync log holds at most 64 entries, no two of one window and region; the high-mark state follows its count; the
repair queue holds at most eight entries (R93, R94, R104). -/
def LogInv (p : Part) : Prop :=
  p.engine.log.length ≤ Config.logLimit
    ∧ (p.engine.log.map fun e => (e.window, e.region)).Nodup
    ∧ p.engine.above = decide (Config.highMark ≤ p.engine.log.length)
    ∧ p.engine.repairs.length ≤ Config.repairLimit

/-- Every bay's queue holds at most 32 operations (R37, R46). -/
def QueueInv (p : Part) : Prop := ∀ b, (p.bay b).queue.length ≤ Config.queueLimit

/-- The start queue never holds an entry twice; it holds a bay's entry exactly when the bay is WAITING and the SP entry
exactly when the box is WAKING with the SP rail off; a bay is ABSENT exactly when its presence is ABSENT; the SP rail is on
in RUN, DRAINING and WAKING alone (R80, R90). -/
def StartInv (p : Part) : Prop :=
  p.power.startQueue.Nodup
    ∧ (∀ b, StartEntry.bay b ∈ p.power.startQueue ↔ (p.bay b).power = .waiting)
    ∧ (StartEntry.sp ∈ p.power.startQueue ↔ p.box.st = some .waking ∧ p.power.spRail = false)
    ∧ (∀ b, (p.bay b).present = false ↔ (p.bay b).power = .absent)
    ∧ (p.power.spRail = true → p.box.st = some .run ∨ p.box.st = some .draining ∨ p.box.st = some .waking)

/-- Whether an output is a drive command that writes blocks. -/
def writesDrive : Output → Bool
  | .drive _ (.writeBlocks _ _ _) => true
  | _ => false

/-- Whether a bay has a WRITE in flight. -/
def writeInFlight (x : Bay) : Bool :=
  match x.inFlight with
  | .op o => o.kind == .write
  | _ => false

/-- In READ_ONLY boot mode no drive is written: no WRITE is in flight at any bay and none was issued in the last event
(R61, R194). -/
def ReadOnlyInv (p : Part) : Prop :=
  p.readOnly = true → (∀ b, writeInFlight (p.bay b) = false) ∧ ∀ o ∈ p.out, writesDrive o = false

/-- The status-code outputs show the code of the highest-ranking condition present (R201), 0 while the POR line is held. -/
def ShowsHighestRank (p : Part) : Prop :=
  (p.held = true → p.statusCode = 0)
    ∧ (p.held = false →
      (p.box.noResume = true → p.statusCode = 8)
      ∧ (p.box.noResume = false →
        ((∃ b, (p.bay b).power = .fault) → p.statusCode = 9)
        ∧ ((∀ b, (p.bay b).power ≠ .fault) →
          (p.loader.cfgBad = true → p.statusCode = 2)
          ∧ (p.loader.cfgBad = false →
            (p.power.lowAsserted = true → p.statusCode = 10)
            ∧ (p.power.lowAsserted = false →
              (p.loader.mode = .service → p.statusCode = 11)
              ∧ (p.loader.mode ≠ .service → p.statusCode = match p.box.st with
                | none => 1
                | some .run => 3
                | some .draining => 4
                | some .sleep => 5
                | some .dormant => 6
                | some .waking => 7))))))

/-! ## The form of an effect -/

/-- No consequence is due: an event with this own effect ends here. -/
def settled (p : Part) : Bool := p.consequence.isNone

end Part

/-- The command answers a next state in which the queue stands as it was and the part is `q`, the command's own effect,
followed by the consequences of the event; where none is due, the part is exactly `q` with the outputs that follow the state
(log entry 1). -/
def Gives (c : Instr) (s : State) (q : Part) : Prop :=
  exec c s = .next { s with part := (Part.settle Config.cascadeLimit q).finish }
    ∧ (q.settled = true → exec c s = .next { s with part := q.finish })

/-- The same for a command whose own effect is input to no consequence but the writing of completions (R179). -/
def GivesQuietly (c : Instr) (s : State) (q : Part) : Prop :=
  exec c s = .next { s with part := (Part.postAll Config.ppLimit q).finish }
    ∧ (q.mayPost = false → exec c s = .next { s with part := q.finish })

/-! ## How a port takes a command -/

/-- Whether a port may issue a kind (section 10.8, R190). -/
def portMayIssue : Via → Kind → Bool
  | .pp _ _ _, k => ppMayIssue k
  | .dp _, k => dpMayIssue k
  | .mp _, k => mpMayIssue k

/-- Whom the answer of a command that came through a port goes to. -/
def answererOf : Via → Answerer
  | .pp tag addr len => .pp tag addr len
  | .dp tag => .dp tag
  | .mp _ => .mp

/-- Whether a port takes what is presented to it now: the PP fetches, the DP takes a record, the MP is not EXECUTING
(R176, R183, R189). -/
def portReady (p : Part) : Via → Bool
  | .pp _ _ _ => p.mayFetch
  | .dp _ => p.mayTake
  | .mp _ => p.mp.st != .executing

/-- The part with the record or frame of a kind taken, nothing carried out yet (R176, R183, R190): the PP has read its record
from SP memory. -/
def portTook (p : Part) (k : Option Kind) : Via → Part
  | .pp _ _ _ => { p with out := [.spRead (p.pp.subBase + 64 * p.pp.fetchPos) 64], pp := { p.pp with
      fetchPos := (p.pp.fetchPos + 1) % p.pp.subSize, owed := p.pp.owed + 1 } }
  | .dp _ => { p with out := [], dp := { p.dp with owed := p.dp.owed + 1 } }
  | .mp seq => { p with out := [], mp := { p.mp with
      st := .executing, execKind := k, execSeq := seq, reply := none, late := false, readPos := 0 } }

/-- Whether the management port answers a kind BUSY because an image is being loaded at start-up (R195). -/
def startUpBusy (p : Part) (via : Via) (k : Kind) : Bool :=
  match via with
  | .mp _ => p.box.st.isNone && Part.busyInLoad k
  | .pp _ _ _ => false
  | .dp _ => false

/-- A command of kind `k` is presented through a port that takes it and may issue it, while the main domain runs. -/
def Taken (via : Via) (k : Kind) (p : Part) : Prop :=
  p.held = false ∧ portReady p via = true ∧ portMayIssue via k = true ∧ startUpBusy p via k = false

/-! ## Tables of the manual that statements read -/

/-- The results of R40 from the most severe to the least. -/
def resultOrder : List Status :=
  [.bayAbsent, .bayFault, .memberForeign, .staleCopy, .timeout, .media, .okDegraded, .okRecovered, .ok]

/-- The bay block window offset `x` lies at on member `m` of a window without units (R20), or on its own member of a STRIPE
window (R21). -/
def blockOnMember (w : Window) (m x : Nat) : Nat :=
  match w.layout with
  | .stripe => (w.member m).base + x / w.unit.getD 1 / w.members.length * w.unit.getD 1 + x % w.unit.getD 1
  | .single | .mirror | .whole => (w.member m).base + x

/-- The member and bay block window offset `x` lies at in a window that is not MIRROR (R20, R21). -/
def blockOf (w : Window) (x : Nat) : Nat × Nat :=
  match w.layout with
  | .stripe => (x / w.unit.getD 1 % w.members.length, blockOnMember w (x / w.unit.getD 1 % w.members.length) x)
  | .single | .mirror | .whole => (0, blockOnMember w 0 x)

/-! ## Block requests -/

/-- The kind of a block request as a kind of record. -/
def requestKind : ReqKind → Kind
  | .read => .read
  | .write => .write
  | .flush => .flush

/-- A block request as the port it comes through presents it (R26); the management port presents none. -/
def askThrough (via : Via) (k : ReqKind) (window offset count bufList : Nat) (mirrorBoth : Bool) : Option Ask :=
  match via with
  | .pp tag _ _ => some { port := .pp, tag := tag, kind := k, window := window, offset := offset, count := count
                          bufList := bufList, mirrorBoth := mirrorBoth }
  | .dp tag => some { port := .dp, tag := tag, kind := k, window := window, offset := offset, count := count
                      bufList := bufList, mirrorBoth := mirrorBoth }
  | .mp _ => none

/-- The block request a command is, with the port it comes through. -/
def requestOf : Instr → Option (Via × Ask)
  | .read via w o n l m => (askThrough via .read w o n l m).map fun a => (via, a)
  | .write via w o n l m => (askThrough via .write w o n l m).map fun a => (via, a)
  | .flush via w m => (askThrough via .flush w 0 0 0 m).map fun a => (via, a)
  | _ => none

/-- A request's completion as it joins its port (R41): its tag, its status, its failing offset. -/
def requestCompletion (tag : Tag) (st : Status) (failing : Nat) : Completion :=
  { tag := tag, status := st, answerLen := 0, result := leBytes 8 failing }

/-- Whether a command is a block request. -/
def isBlockRequest : Cmd → Bool
  | .read .. | .write .. | .flush .. => true
  | _ => false

/-- A completion at the tail of the processor port's internal list (R179). -/
def listed (p : Part) (c : Completion) : Part := { p with pp := { p.pp with list := p.pp.list ++ [c] } }

/-- A completion at the tail of the direct port's send list (R184). -/
def queuedUp (p : Part) (c : Completion) : Part :=
  { p with dp := { p.dp with sendList := p.dp.sendList ++ [.completion none c] } }

/-! ## What the copy engine's rules share -/

/-- The part once chunk `c` is abandoned (R106): its slot-wait entry is withdrawn, its queued operations and its pause are
gone, and it has nothing left to place. -/
def chunkAbandoned (p : Part) (c : Chunk) : Part := { p with
  router := { p.router with slotWait := p.router.slotWait.filter fun e => e.who != .engine }
  bays := p.bays.map fun x => { x with
    roomWait := x.roomWait.filter fun y => y != .engine
    queue := x.queue.filter fun o => match o.parent with | .chunk _ => false | .request _ _ => true }
  engine := { p.engine with chunk := some { c with abandoned := true, todo := [], paused := false } } }

/-- The part once chunk `c` is stopped short: its work takes the effect of its kind (R108, R109, R111, R126), and it is
abandoned. -/
def chunkStopped (p : Part) (c : Chunk) : Part :=
  let v := p.window c.window
  chunkAbandoned (match c.kind with
    | .resync => { p with engine := { p.engine with log := p.engine.log.map fun e =>
        if e.window = c.window ∧ e.region = c.offset / 4096
          then { e with copying := false, next := 0, redirtied := false } else e } }
    | .repair => p
    | .rebuild => { p with windows := p.windows.set c.window { v with rebuildChunk := 0 } }
    | .patrol => { p with windows := p.windows.set c.window { v with due := true } }) c

/-- The part once its chunk has ended: the engine's slots are free, no repair piece is in progress, and the engine seeks its
next job (R34, R105). -/
def chunkEnded (p : Part) : Part := { p with
  router := { p.router with pool := p.router.pool.map fun h => if h = .engine then .free else h }
  engine := { p.engine with
    chunk := none, repairs := p.engine.repairs.map fun e => { e with busy := false }, seek := true } }

/-- The part once the rebuild of window `w` is abandoned (R112): its chunk is abandoned, its cursor is gone, and MEMBER_LOST
is raised; nothing where no rebuild runs. -/
def rebuildAbandoned (p : Part) (w : Fin 16) : Part :=
  let v := p.window w
  let q : Part := match p.engine.chunk with
    | some c => if c.window = w ∧ c.kind = ChunkKind.rebuild then chunkAbandoned p c else p
    | none => p
  if v.cursor = none then p
  else Part.raise .memberLost { q with windows := q.windows.set w { v with cursor := none, rebuildChunk := 0 } }

/-! ## A bay that fails -/

/-- The part once bay `b` has entered FAULT with an error of kind `k` (R64, R65): the error recorded, rail off, link DOWN,
nothing queued or in flight, every flag of the bay clear, its operations ended BAY_FAULT in order, the rebuilds on it abandoned,
its held query and stops answered BAY_FAULT, and BAY_FAULT raised. -/
def bayFaulted (p : Part) (b : Fin 4) (k : ErrorKind) : Part :=
  let x := p.bay b
  let y : Bay := { x with
    power := .fault, waitingFrom := none, startedFrom := none, startLeft := none, startAfterStop := false, link := .down
    retrain := 0, timeoutRun := false, queue := [], inFlight := .nothing, healthPending := false
    errorCount := if x.errorCount < 255 then x.errorCount + 1 else x.errorCount
    firstError := if x.firstError.isSome then x.firstError
      else some { kind := k, block := none, time := p.clock.counter } }
  let q : Part := { p with bays := p.bays.set b y }
  let q1 := if x.power = .ready then q.bayLeavesReady b else q
  let q2 := ((Part.bayOps x).foldl (fun r o => r.reportResult .bayFault none o) q1).targetGone b
  ((q2.answerQuery b .bayFault .nothing).answerStops b .bayFault).raise .bayFault

/-! ## The configuration image (R196, R197, R200, R207) -/

/-- The sections `l` stand one after another in an image from byte `pos` on, and the last ends at byte `len`: each has its kind
in its byte 0, its contents length in its bytes 2 and 3, and its contents next (R207). -/
def sectionsAt (img : List Byte) (len : Nat) : Nat → List Section → Prop
  | pos, [] => pos = len
  | pos, x :: l =>
    let c := leField img (pos + 2) 2
    pos + 4 + c ≤ len ∧ x.kind = byteAt img pos ∧ x.contents = (List.range c).map (fun i => byteAt img (pos + 4 + i))
      ∧ sectionsAt img len (pos + 4 + c) l

/-- The sum of an image's first `len` bytes but for the two of its check (R207). -/
def imageSum (img : List Byte) (len : Nat) : Nat :=
  (((List.range len).filter fun i => i ≠ 8 ∧ i ≠ 9).map fun i => (byteAt img i).toNat).sum

/-- The bytes from `o` on of a text field of `n` bytes, up to the first 0x00 (R202). -/
def textAt (c : List Byte) (o n : Nat) : List Byte := ((List.range n).map fun i => byteAt c (o + i)).takeWhile (· ≠ 0)

/-- The bay profile in the 16 bytes from `o` on, an idle figure of 1 to 59 as 60 (R77, R207). -/
def profileAt (c : List Byte) (o : Nat) : BayProfile :=
  let idle (n : Nat) : Nat := if 1 ≤ n ∧ n ≤ 59 then 60 else n
  { pUp := leField c o 2, pRun := leField c (o + 2) 2, pStby := leField c (o + 4) 2, tStart := leField c (o + 6) 2
    idleStandby := idle (leField c (o + 8) 2), idleOff := idle (leField c (o + 10) 2)
    mayPowerOff := (byteAt c (o + 12)).getLsbD 0
    mask := ([(0, ActClass.pp), (1, .dp), (2, .copy), (3, .patrol), (4, .mp)].filter fun x =>
      (byteAt c (o + 13)).getLsbD x.1).map fun x => x.2 }

/-- The window in the 156 bytes `c` (R207). -/
def windowIn (c : List Byte) : ImageWindow :=
  let n := (byteAt c 2).toNat
  let right (b : Byte) : Option Right := if b = 0 then some .none else if b = 1 then some .read
    else if b = 2 then some .readWrite else none
  let bit (i : Nat) : Bool := (byteAt c 6).getLsbD i
  { d := {
      index := (byteAt c 0).toNat
      layout := [Layout.single, .mirror, .stripe, .whole][(byteAt c 1).toNat]?
      members := (List.range n).map fun k => ((byteAt c (28 + 12 * k)).toNat, leField c (30 + 12 * k) 5)
      length := leField c 8 8
      unit := [16, 32, 64, 128, 256][(byteAt c 3).toNat]?
      ppRight := right (byteAt c 4), dpRight := right (byteAt c 5)
      lazyAttr := bit 0, patrolAttr := bit 1, wakesAttr := bit 2
      label := if textAt c 16 12 = [] then none else some (textAt c 16 12) }
    lost := if byteAt c 7 = 1 then some .primary else if byteAt c 7 = 2 then some .secondary else none
    serials := (List.range n).map fun k =>
      if byteAt c (29 + 12 * k) = 0 then none else some (textAt c (76 + 20 * k) 20) }

/-- The wake entry in the 44 bytes `c`; none where it is empty (R206). -/
def wakeIn (c : List Byte) : Option WakeDef :=
  if (byteAt c 0).getLsbD 0 = false then none
  else some {
    enabled := (byteAt c 0).getLsbD 1, hold := (byteAt c 0).getLsbD 2
    action := [WakeAction.wake, .wakeSpin, .ignore][(byteAt c 1).toNat]?
    bays := (List.range 8).filter fun i => (byteAt c 2).getLsbD i
    terms := (List.range (byteAt c 3).toNat).map fun t => {
      offset := (byteAt c (4 + 10 * t)).toNat, len := (byteAt c (5 + 10 * t)).toNat
      value := leField c (6 + 10 * t) 4, mask := leField c (10 + 10 * t) 4 } }

/-- The address in the 7 bytes from `o` on, the first its presence flag (R207). -/
def addressAt (c : List Byte) (o : Nat) : Option Address :=
  if byteAt c o = 0 then none else some (Vector.ofFn fun i => byteAt c (o + 1 + i.val))

/-- The settings an image of these sections gives: of each kind's first section its own (log entry 51), of a kind that is absent
the defaults (R196, R200, R207). -/
def settingsGiven (l : List Section) : Settings :=
  let contents (k : Nat) : Option (List Byte) := (l.find? fun x => x.kind.toNat == k).map fun x => x.contents
  let given {α : Type} (k : Nat) (default : α) (f : List Byte → α) : α := ((contents k).map f).getD default
  { budget := given 1 600 fun c => leField c 0 2
    bLow := given 1 350 fun c => leField c 2 2
    profiles := given 2
      (List.replicate 4 {
        pUp := 240, pRun := 70, pStby := 8, tStart := 30, idleStandby := 1200, idleOff := 0, mayPowerOff := false
        mask := [.pp, .dp, .copy] })
      fun c => (List.range 4).map fun i => profileAt c (16 * i)
    sp := given 2 { sUp := 200, sRun := 120, tSp := 10 } fun c => {
      sUp := leField c 64 2, sRun := leField c 66 2, tSp := leField c 68 2 }
    windows := given 3 [] fun c => (List.range (byteAt c 0).toNat).map fun i => windowIn ((c.drop (1 + 156 * i)).take 156)
    wakes := given 4 (List.replicate 24 none) fun c => (List.range 24).map fun i => wakeIn ((c.drop (44 * i)).take 44)
    station := given 5 none fun c => addressAt c 0
    groups := given 5 (List.replicate 4 none) fun c => (List.range 4).map fun i => addressAt c (7 + 7 * i)
    summons := given 5 true fun c => decide (byteAt c 35 ≠ 0)
    grace := given 6 5 fun c => leField c 0 2
    resumeLimit := given 6 120 fun c => leField c 2 2
    startOnPower := given 6 true fun c => decide (byteAt c 4 ≠ 0)
    patrols := given 7 [] fun c => (List.range (byteAt c 0).toNat).map fun i =>
      ((byteAt c (1 + 3 * i)).toNat, leField c (2 + 3 * i) 2)
    attachWakes := given 8 false fun c => decide (byteAt c 0 ≠ 0) }

/-- The record a window of an image becomes (R11, R12): its members bound to the serials the image carries, its lost member the
image's, its interval `i`. -/
def recordGiven (x : ImageWindow) (i : Nat) : Window :=
  { st := .opened
    layout := x.d.layout.getD .single
    members := x.d.members.zipWith
      (fun m s => { bay := (bayOf m.1).getD 0, base := m.2, serial := s, isForeign := false }) x.serials
    length := x.d.length
    unit := if x.d.layout = some .stripe then x.d.unit else none
    ppRight := x.d.ppRight.getD .none, dpRight := x.d.dpRight.getD .none
    lazyAttr := x.d.lazyAttr, patrolAttr := x.d.patrolAttr, wakesAttr := x.d.wakesAttr
    label := labelOf x.d.label
    lost := x.lost
    patrol := if x.d.layout = some .mirror ∧ x.d.patrolAttr = true
      then some { region := 0, chunk := 0, passes := 0, lastEnd := none, mismatches := 0 } else none
    interval := i }

/-- A section of an image passes check 5 of R197, `s` being the settings of the whole image: its kind is known, its contents have
their kind's length, and every entry passes the rule of R196. -/
def sectionPasses (s : Settings) (x : Section) : Prop :=
  let c := x.contents
  let n := (byteAt c 0).toNat
  let limit := min s.budget s.bLow
  let groupBit (a : Address) : Bool := a[0].getLsbD 0
  match x.kind.toNat with
  | 1 => c.length = 4 ∧ 100 ≤ s.budget ∧ s.budget ≤ 4000 ∧ 100 ≤ s.bLow ∧ s.bLow ≤ 4000 ∧ s.sp.sUp ≤ limit
      ∧ ∀ y ∈ s.profiles, y.pUp ≤ limit
  | 2 => c.length = 70
      ∧ (∀ y ∈ s.profiles, y.pUp ≤ 600 ∧ y.pRun ≤ 300 ∧ y.pStby ≤ 100 ∧ 5 ≤ y.tStart ∧ y.tStart ≤ 60
        ∧ y.idleStandby ≤ 65535 ∧ y.idleOff ≤ 65535 ∧ y.pStby ≤ y.pRun ∧ y.pRun ≤ y.pUp ∧ y.pUp ≤ limit)
      ∧ s.sp.sUp ≤ 600 ∧ s.sp.sRun ≤ 600 ∧ 1 ≤ s.sp.tSp ∧ s.sp.tSp ≤ 30 ∧ s.sp.sRun ≤ s.sp.sUp ∧ s.sp.sUp ≤ limit
  | 3 => c.length = 1 + 156 * n ∧ n ≤ 16
      ∧ (∀ i < n, byteAt c (1 + 156 * i + 7) = 0
        ∨ ((byteAt c (1 + 156 * i + 7)).toNat ≤ 2 ∧ byteAt c (1 + 156 * i + 1) = 1))
      ∧ ∀ before w after, s.windows = before ++ w :: after →
        let others := before.map fun y => recordGiven y 0
        w.d.index < 16 ∧ (∀ y ∈ before, y.d.index ≠ w.d.index) ∧ wellFormedDef w.d = true
          ∧ noOverlap (recordGiven w 0) others = true ∧ wholeAlone (recordGiven w 0) others = true
          ∧ stripeLength (recordGiven w 0) = true
  | 4 => c.length = 1056 ∧ ∀ d, some d ∈ s.wakes → 1 ≤ d.terms.length ∧ d.terms.length ≤ 4
      ∧ (∀ t ∈ d.terms, t.offset ≤ 255 ∧ 1 ≤ t.len ∧ t.len ≤ 4 ∧ t.value < 2 ^ (8 * t.len) ∧ t.mask < 2 ^ (8 * t.len))
      ∧ ((d.action = some .wakeSpin ∧ d.bays ≠ [] ∧ ∀ b ∈ d.bays, b < 4) ∨ (d.action = some .wake ∧ d.bays = [])
        ∨ (d.action = some .ignore ∧ d.bays = [] ∧ d.hold = false))
  | 5 => c.length = 36 ∧ (∀ a, s.station = some a → groupBit a = false ∧ a ≠ Vector.replicate 6 0)
      ∧ ∀ g, some g ∈ s.groups → groupBit g = true ∧ g ≠ Vector.replicate 6 0xFF
  | 6 => c.length = 5 ∧ s.grace ≤ 60 ∧ 10 ≤ s.resumeLimit ∧ s.resumeLimit ≤ 600
  | 7 => c.length = 1 + 3 * n
      ∧ ∀ y ∈ s.patrols, y.1 < 16 ∧ ∃ w ∈ s.windows, w.d.index = y.1 ∧ w.d.layout = some .mirror ∧ w.d.patrolAttr = true
  | 8 => c.length = 1
  | _ => False

/-! ## Resets of the processor port -/

/-- An answerer once the processor port has been reset: a PP command's held answer is owed to no one (R181). -/
def owedAfterReset : Answerer → Answerer
  | .pp _ _ _ => .void
  | .mp => .mp
  | .dp tag => .dp tag
  | .void => .void

/-- The part with the batch of completions of its event ended: one completion interrupt where one was written and completion
interrupts are on (R179). -/
def batchEnded (p : Part) : Part := { p with
  out := p.out ++ (if p.pp.batch = true ∧ p.pp.compIntOff = false then [.completionInterrupt] else [])
  pp := { p.pp with batch := false } }

/-- The part once the processor port has been reset (R157, R181): its requests dropped, its rings and list forgotten but for
the notice set and the notice errors count, the answers its commands hold owed to no one, no FRAME_FETCH in transfer. A batch
of completions written in the event ends ahead of it (log entry 56). -/
def portReset (p : Part) : Part :=
  let d := (batchEnded p).dropPort .pp
  { d with
    windows := d.windows.map fun v => { v with deleteFor := v.deleteFor.map owedAfterReset }
    bays := d.bays.map fun x => { x with stopFor := x.stopFor.map owedAfterReset }
    pp := { ({} : PpPort) with notices := d.pp.notices, noticeErrors := d.pp.noticeErrors }
    matcher := { d.matcher with transfer := none } }

end Sys2Proof.Machine
end

