-- ==== Sys2Proof/Certificates/Slice0/Obligations.lean ====
section
/-! DEFINITION. The statements for the provers. Each says what the rules of spec/ that it cites say of a command, of the
machine, or of one of its tables. An effect is stated with `Gives`: the command answers a next state, its own effect is the
part written out, and nothing else changes but what the event's further consequences bring. -/

section

open Sys2Proof Sys2Proof.Machine

/-! ## The machine -/

/-- A step takes the command at the front of the queue and is `exec` of it on the state with the queue's rest, which answers
a next state and leaves the waiting commands as they stand: the part never stops. On an empty queue the part idles (the model's
choice, log entry 2). -/
def Obligations.StepRunsFrontCommand : Prop :=
  (∀ (c : Instr) (s : State),
    step { s with pending := c :: s.pending } = exec c s ∧ ∃ t : State, exec c s = .next t ∧ t.pending = s.pending)
  ∧ ∀ s : State, s.pending = [] → step s = .next s

/-! ## Invariants that every step keeps -/

/-- From a pool of 512 slots with its contents in canonical form, a step leaves the same, and the free slots, the slots of
requests and the slots of the copy engine total 512. The canonical form of the contents is the model's own (log entry 7). -/
def Obligations.StepKeepsPool : Prop :=
  ∀ s t : State, s.part.PoolInv → step s = .next t →
    t.part.PoolInv ∧ t.part.freeSlots + t.part.requestSlots + t.part.engineSlots = 512

/-- A step keeps the alarm list: at most eight alarms, distinct ids, in ascending time, all after the counter. -/
def Obligations.StepKeepsAlarmList : Prop :=
  ∀ s t : State, s.part.AlarmInv → step s = .next t → t.part.AlarmInv

/-- A step keeps the resync log at 64 entries of distinct regions, the repair queue at eight, the high-mark state following
the log's count, and every bay's queue at 32 operations. -/
def Obligations.StepKeepsLimits : Prop :=
  (∀ s t : State, s.part.LogInv → step s = .next t → t.part.LogInv)
  ∧ ∀ s t : State, s.part.QueueInv → step s = .next t → t.part.QueueInv

/-- A step keeps the start queue: a bay's entry exactly while the bay is WAITING, the SP entry exactly while the box is WAKING
with its rail off, no entry twice. -/
def Obligations.StepKeepsStartQueue : Prop :=
  ∀ s t : State, s.part.StartInv → step s = .next t → t.part.StartInv

/-- In READ_ONLY boot mode no step writes a drive. -/
def Obligations.StepKeepsReadOnlyDrives : Prop :=
  ∀ s t : State, s.part.ReadOnlyInv → step s = .next t → t.part.ReadOnlyInv

/-- The six invariants hold of the machine right after reset. The input levels of the reset are the model's choice (log
entry 6). -/
def Obligations.ResetMeetsInvariants : Prop :=
  State.reset.part.PoolInv ∧ State.reset.part.AlarmInv ∧ State.reset.part.LogInv ∧ State.reset.part.QueueInv
    ∧ State.reset.part.StartInv ∧ State.reset.part.ReadOnlyInv

/-! ## Events and outputs -/

/-- What every event ends with: the bay rail enables are on exactly while the bay is STARTING, READY, STOPPING or STANDBY,
or WAITING from STANDBY; a batch of completions sends one completion interrupt where they are on; nothing else of the part
moves but the attention line, the status code and the mark of the batch. That they follow at the end of the event is the
model's form (log entries 28, 32 and 56). -/
def Obligations.EventEndsWithOutputs : Prop :=
  ∀ p : Part,
    (∀ b : Fin 4, p.finish.bayRails[b] = true ↔
      (p.bay b).power ∈ [Power.starting, .ready, .stopping, .standby]
        ∨ ((p.bay b).power = .waiting ∧ (p.bay b).waitingFrom = some .standby))
    ∧ p.finish.out = p.out ++ (if p.pp.batch = true ∧ p.pp.compIntOff = false then [Output.completionInterrupt] else [])
    ∧ p.finish.pp = { p.pp with batch := false }
    ∧ p.finish.mp.attention = decide ((p.mp.st = .replyReady ∧ (p.mp.mode = .notify ∨ p.mp.late = true)) ∨ p.mp.notices ≠ [])
    ∧ { p.finish with bayRails := p.bayRails, out := p.out, statusCode := p.statusCode, pp := p.pp
                      mp := { p.finish.mp with attention := p.mp.attention } } = p

/-! ## Translation and results -/

/-- R40: the status is the most severe of the results, by the table's order alone; with no result it is OK. -/
def Obligations.WorstIsMostSevere : Prop :=
  ∀ l : List Status, (∀ r ∈ l, r ∈ resultOrder) →
    worst l ∈ Status.ok :: l ∧ ∀ r ∈ l, resultOrder.idxOf (worst l) ≤ resultOrder.idxOf r

/-- R20 to R23: the fragments of a request on a window that is not MIRROR cover its offsets in ascending order without gap
or overlap, each of at least one block and, on a STRIPE window, within one unit; every block of a fragment lies where the
translation of its window offset puts it. A request of 1 to 256
blocks touches one region, or two exactly when (o mod 4096) + n exceeds 4096. -/
def Obligations.FragmentsCoverRequest : Prop :=
  (∀ (w : Window) (o n : Nat), w.layout ≠ .mirror → 0 < n → (w.layout = .stripe → 0 < w.unit.getD 1 ∧ w.members ≠ []) →
     ((translate w o n).flatMap fun f => (List.range f.count).map fun i => f.first + i) = ((List.range n).map fun i => o + i)
     ∧ ∀ f ∈ translate w o n, 1 ≤ f.count ∧ f.bay = (w.member f.member).bay ∧ f.placed = false ∧ f.result = none
       ∧ ∀ i < f.count, ((f.member, f.block + i) : Nat × Nat) = blockOf w (f.first + i))
  ∧ (∀ o n : Nat, 1 ≤ n → n ≤ 256 →
       (∀ g, g ∈ touched o n ↔ ∃ x, o ≤ x ∧ x < o + n ∧ g = x / 4096)
       ∧ (touched o n).length = if 4096 < o % 4096 + n then 2 else 1)

/-- R24: the bay block a window offset lies at maps back to that offset, within the member's extent. -/
def Obligations.ReverseMapUndoesTranslation : Prop :=
  ∀ (w : Window) (m x : Nat), x < w.length →
    (w.layout = .stripe → 0 < w.unit.getD 1 ∧ w.members ≠ [] ∧ (w.unit.getD 1 * w.members.length) ∣ w.length) →
    (w.layout = .mirror → m < 2) →
    (w.layout ≠ .mirror → m = (blockOf w x).1) →
    inExtent w m (blockOnMember w m x) = true ∧ reverseMap w m (blockOnMember w m x) = x

/-! ## Block requests -/

/-- R29: a READ, WRITE or FLUSH that passes the six checks of R28 becomes outstanding in its event: its record is created,
its port's count and its window's in-flight count go up by one, a READ or WRITE joins the slot-wait list at the tail and a
FLUSH passes to ROUTING; a DP WRITE holds the out pipe (R183). The record's name `id` is the model's own (log entry 12). -/
def Obligations.RequestAccepted : Prop :=
  ∀ (c : Instr) (s : State) (via : Via) (a : Ask) (w : Fin 16),
    requestOf c = some (via, a) → Taken via (requestKind a.kind) s.part →
    (a.port = .pp → s.part.box.st ≠ some .waking) →
    (a.kind ≠ .flush → 1 ≤ a.count ∧ a.count ≤ 256) →
    (∀ r ∈ s.part.router.requests, r.port = a.port → r.tag ≠ a.tag) →
    a.window = w.val → (s.part.window w).st = .opened →
    ((s.part.window w).right a.port = .readWrite ∨ ((s.part.window w).right a.port = .read ∧ a.kind ≠ .write)) →
    (a.kind ≠ .flush → a.offset + a.count ≤ (s.part.window w).length) →
    (a.kind = .write → s.part.loader.mode ≠ .readOnly) →
    let p := portTook s.part (some (requestKind a.kind)) via
    let v := s.part.window w
    let r : Request := {
      id := p.router.nextId, port := a.port, tag := a.tag, kind := a.kind, window := w
      mirrorBoth := decide (a.mirrorBoth = true ∧ a.kind = .flush ∧ v.layout = .mirror)
      offset := if a.kind = .flush then 0 else a.offset
      count := if a.kind = .flush then 0 else a.count
      bufList := if a.port = .pp then a.bufList else 0
      life := if a.kind = .flush then .routing else .slotWait }
    Gives c s { p with
      router := { p.router with
        requests := p.router.requests ++ [r]
        nextId := p.router.nextId + 1
        ppCount := if a.port = .pp then p.router.ppCount + 1 else p.router.ppCount
        dpCount := if a.port = .dp then p.router.dpCount + 1 else p.router.dpCount
        slotWait := if a.kind = .flush then p.router.slotWait
          else p.router.slotWait ++ [{ who := .request r.id, need := a.count }] }
      windows := p.windows.set w { v with inFlight := v.inFlight + 1 }
      dp := if a.port = .dp ∧ a.kind = .write then { p.dp with out := .hold, writing := some r.id } else p.dp }

/-- R28: the first of the six checks that fails gives the completion's status, with failing offset 0; nothing becomes
outstanding. A DP WRITE refused with a count of 1 to 256 has its data discarded (R183). -/
def Obligations.RequestRefused : Prop :=
  ∀ (c : Instr) (s : State) (via : Via) (a : Ask) (st : Status),
    requestOf c = some (via, a) → Taken via (requestKind a.kind) s.part →
    (a.port = .pp → s.part.box.st ≠ some .waking) →
    let v : Window := if h : a.window < 16 then s.part.window ⟨a.window, h⟩ else {}
    firstRefusal
      [(decide (a.kind = .flush ∨ (1 ≤ a.count ∧ a.count ≤ 256)), .badRequest),
       (decide (∀ r ∈ s.part.router.requests, ¬(r.port = a.port ∧ r.tag = a.tag)), .tagInUse),
       (decide (a.window < 16 ∧ v.st = .opened), .noWindow),
       (decide (v.right a.port = .readWrite ∨ (v.right a.port = .read ∧ a.kind ≠ .write)), .denied),
       (decide (a.kind = .flush ∨ a.offset + a.count ≤ v.length), .range),
       (decide (a.kind = .write → s.part.loader.mode ≠ .readOnly), .readOnly)] = some st →
    let p := portTook s.part (some (requestKind a.kind)) via
    Gives c s (match a.port with
      | .pp => listed p (requestCompletion a.tag st 0)
      | .dp =>
        let q := queuedUp p (requestCompletion a.tag st 0)
        if a.kind = .write ∧ 1 ≤ a.count ∧ a.count ≤ 256 then
          { q with dp := { q.dp with out := .discard, remaining := a.count * 4096 } }
        else q)

/-- R33: the head of the slot-wait list is given as many free slots as it needs and leaves the list, a WRITE passing to DATA_IN
and a READ to ROUTING; which free slots is the pool's choice. A head that does not fit is not granted.

R36, R37: a READ or WRITE of a window that is not MIRROR is routed to the fragments of its translation, a FLUSH to one fragment
for each member. They are placed in turn: the next one without a result ends MEMBER_FOREIGN, BAY_ABSENT or BAY_FAULT by its
member and its bay, MEMBER_FOREIGN first (the model's choice, log entry 88); or joins the tail of its bay's queue, with a start request to the bay, where the queue has room and no other
waits for room there; or pauses the request on that bay's room-wait list alone. R31: after the last, or at once where it has
none, the request leaves every room-wait list and is AT_BAYS. That a request at the head of a list goes on past its paused
fragment on the same bay is the model's choice (log entry 57).

R38: the head of a bay's room-wait list resumes while the queue holds fewer than 32 operations; a request whose last fragment is
the paused one places it at the tail of the queue, leaves the list and passes to AT_BAYS. -/
def Obligations.SlotGrantAndRoomResume : Prop :=
  (∀ (s : State) (e : SlotWait) (rest : List SlotWait), s.part.held = false → s.part.router.slotWait = e :: rest →
     (∀ (id : Nat) (r : Request), e.who = .request id → s.part.request? id = some r → e.need ≤ s.part.freeSlots →
       ∃ slots : List Nat, slots.length = e.need ∧ slots.Nodup ∧ (∀ k ∈ slots, s.part.router.pool[k]? = some .free)
         ∧ let p : Part := { s.part with out := [], router := { s.part.router with
             slotWait := rest
             pool := s.part.router.pool.mapIdx fun k h => if k ∈ slots then .request id else h } }
           let q := p.modRequest r.id fun x => { x with
             slots := slots, life := if r.kind = .write then .dataIn else .routing }
           Gives .slotGrant s
             (if p.dp.out = .hold ∧ p.dp.writing = some r.id then
               { q with dp := { q.dp with out := .data, remaining := r.count * 4096 } } else q))
     ∧ (∀ c : Chunk, e.who = .engine → s.part.engine.chunk = some c → e.need ≤ s.part.freeSlots →
       ∃ slots : List Nat, slots.length = e.need ∧ slots.Nodup ∧ (∀ k ∈ slots, s.part.router.pool[k]? = some .free)
         ∧ Gives .slotGrant s { s.part with
             out := []
             router := { s.part.router with
               slotWait := rest
               pool := s.part.router.pool.mapIdx fun k h => if k ∈ slots then .engine else h }
             engine := { s.part.engine with chunk := some { c with
               slots := slots, phase := .reading
               todo := if c.kind = .patrol then [.primary, .secondary] else [c.source] } } })
     ∧ (s.part.freeSlots < e.need → Gives .slotGrant s { s.part with out := [] }))
  ∧ (∀ (s : State) (b : Fin 4) (r : Request) (rest : List Waiter) (done : List Fragment) (f : Fragment),
       s.part.held = false → (s.part.bay b).roomWait = .request r.id :: rest → (s.part.bay b).queue.length < 32 →
       s.part.request? r.id = some r → r.frags = done ++ [f] → (∀ x ∈ done, x.placed = true ∨ x.result.isSome) →
       f.placed = false → f.result = none → f.bay = b →
       ((s.part.window r.window).member f.member).isForeign = false →
       (s.part.bay b).power ≠ .absent → (s.part.bay b).power ≠ .fault →
       let p : Part := { s.part with out := [] }
       let op : BayOp := {
         kind := r.kind, block := f.block, count := f.count, origin := if r.port = .pp then .pp else .dp
         parent := .request r.id done.length, slots := (r.slots.drop (f.first - r.offset)).take f.count }
       let q := (p.modRequest r.id fun x => { x with pausedAt := none }).modFrag r.id done.length fun x => { x with placed := true }
       let q1 := (q.modBay b fun x => { x with queue := x.queue ++ [op] }).requestStart b
       Gives (.roomResume b) s
         ((q1.leaveRooms (.request r.id)).modRequest r.id fun x => { x with life := .atBays, pausedAt := none }))
  ∧ (∀ (p : Part) (r : Request), (p.window r.window).layout ≠ .mirror →
       let v := p.window r.window
       p.route r = p.modRequest r.id fun x => { x with
         routed := true, gather := .worst
         frags := if r.kind = .flush
           then (List.range v.members.length).map fun m => { member := m, bay := (v.member m).bay }
           else translate v r.offset r.count })
  ∧ (∀ (p : Part) (r : Request) (done : List Fragment) (f : Fragment) (rest : List Fragment) (fuel : Nat),
       p.request? r.id = some r → r.frags = done ++ f :: rest → (∀ x ∈ done, x.placed = true ∨ x.result.isSome = true) →
       f.placed = false → f.result = none →
       let k := done.length
       let x := p.bay f.bay
       let foreign := ((p.window r.window).member f.member).isForeign
       let goes (q : Part) : Prop := Part.placeAll (fuel + 1) r.id p = Part.placeAll fuel r.id q
       let op : BayOp := {
         kind := r.kind, block := f.block, count := f.count, origin := if r.port = .pp then .pp else .dp
         parent := .request r.id k, slots := (r.slots.drop (f.first - r.offset)).take f.count }
       let room : Prop := x.queue.length < 32 ∧ (x.roomWait = [] ∨ ∃ l, x.roomWait = .request r.id :: l)
       (foreign = true → goes (p.fragResult r.id k .memberForeign none))
       ∧ (foreign = false → x.power = .absent → goes (p.fragResult r.id k .bayAbsent none))
       ∧ (foreign = false → x.power = .fault → goes (p.fragResult r.id k .bayFault none))
       ∧ (foreign = false → x.power ≠ .absent → x.power ≠ .fault →
         (room → goes (({ p.modFrag r.id k fun y => { y with placed := true } with
           bays := p.bays.set f.bay { x with queue := x.queue ++ [op] } } : Part).requestStart f.bay))
         ∧ (¬room →
           let paused (q : Part) : Part := q.modRequest r.id fun y => { y with pausedAt := some k }
           (.request r.id ∈ x.roomWait → Part.placeAll (fuel + 1) r.id p = paused p)
           ∧ (.request r.id ∉ x.roomWait → Part.placeAll (fuel + 1) r.id p = paused { p with
               bays := Vector.ofFn fun b =>
                 let left := (p.bay b).roomWait.filter fun y => y != .request r.id
                 { p.bay b with roomWait := if b = f.bay then left ++ [.request r.id] else left } }))))
  ∧ (∀ (p : Part) (r : Request) (fuel : Nat), p.request? r.id = some r →
       (∀ x ∈ r.frags, x.placed = true ∨ x.result.isSome = true) →
       Part.placeAll (fuel + 1) r.id p = ({ p with bays := p.bays.map fun x => { x with
           roomWait := x.roomWait.filter fun y => y != .request r.id } } : Part).modRequest r.id fun x => { x with
         life := .atBays, pausedAt := none })
  ∧ ∀ (p : Part) (r : Request), r.routed = true → r.pausedAt = none →
       (r.life = .routing ∨ ∃ f ∈ r.frags, f.placed = false ∧ f.result = none) →
       p.advance r = some (Part.placeAll (2 * r.frags.length + 2) r.id (p.modRequest r.id fun x => { x with pausedAt := none }))

/-- Slot contents: writing a run of bytes into a run of distinct slots gives each byte of it back, and leaves every byte
outside it as it was. That a byte nothing has written reads as 0 is the model's choice (log entry 7). -/
def Obligations.StreamWritesItsSlots : Prop :=
  ∀ (m : List Host.Cell) (slots : List Nat) (i : Nat) (bs : List Byte), memWf m → slots.Nodup →
    i + bs.length ≤ 4096 * slots.length →
    (∀ (j k : Nat) (v : Byte), bs[j]? = some v → slots[(i + j) / 4096]? = some k →
      readByte (writeStream slots m i bs) (4096 * k + (i + j) % 4096) = v)
    ∧ (∀ a : Nat, (∀ j < bs.length, slots[(i + j) / 4096]? ≠ some (a / 4096) ∨ a % 4096 ≠ (i + j) % 4096) →
      readByte (writeStream slots m i bs) a = readByte m a)
    ∧ memWf (writeStream slots m i bs)

/-- R35, R41, R178: a request's buffer list of 8 bytes a block is read from its own address; the last block of a PP WRITE, read
from the address its list gives, brings the WRITE to ROUTING with its data in its slots; the end of a PP READ's delivery writes
each slot to the address the list gives for it and completes the READ. An SP memory error completes the request TRANSFER_ERROR:
of a WRITE, an error of the list with no block read, and one of block i with the blocks before it in their slots and none after
it read. That a READ whose list errs has written the blocks whose addresses had come is the model's choice (log entry 77), an
error of a block that the request does not read cannot arise (log entry 5), and what stands in the outputs at the end of a
transfer is the model's form (log entries 20 and 28). -/
def Obligations.PpDataMoved : Prop :=
  ∀ (s : State) (tag : Tag) (list : List Byte), s.part.held = false →
    let addrs (r : Request) : List Nat := (List.range (min r.count (list.length / 8))).map fun i => leField list (8 * i) 8
    let listRead (r : Request) : Output := .spRead r.bufList (8 * r.count)
    let blocksRead (r : Request) (k : Nat) : List Output := listRead r :: ((addrs r).take k).map fun a => .spRead a 4096
    let blocksWritten (r : Request) : List Output :=
      listRead r :: (r.slots.zip (addrs r)).map fun x => .spWrite x.2 (readSlot s.part.router.data x.1)
    let filled (r : Request) (data : List Byte) : Router :=
      { s.part.router with data := writeStream r.slots s.part.router.data 0 data }
    (∀ (r : Request) (data : List Byte), s.part.ppRequest tag .write .dataIn = some r →
      Gives (.ppWriteDataDone tag { list := list, data := data }) s
        (({ s.part with out := blocksRead r r.count, router := filled r data } : Part).modRequest r.id
          fun x => { x with life := .routing })
      ∧ Gives (.spMemoryError (.list tag list)) s (({ s.part with out := [listRead r] } : Part).complete r .transferError)
      ∧ ∀ i, (i < r.count → Gives (.spMemoryError (.block tag list i data)) s
          (({ s.part with out := blocksRead r (i + 1), router := filled r (data.take (i * 4096)) } : Part).complete r
            .transferError))
        ∧ (r.count ≤ i → Gives (.spMemoryError (.block tag list i data)) s { s.part with out := [] }))
    ∧ ∀ r : Request, s.part.ppRequest tag .read .dataOut = some r →
      Gives (.ppReadDeliveryDone tag list) s
        (({ s.part with out := blocksWritten r } : Part).complete r (r.outcome.getD .ok))
      ∧ (s.part.ppRequest tag .write .dataIn = none →
        Gives (.spMemoryError (.list tag list)) s
          (({ s.part with out := blocksWritten r } : Part).complete r .transferError)
        ∧ ∀ i data, Gives (.spMemoryError (.block tag list i data)) s { s.part with out := [] })

/-! ## Mirrored windows -/

/-- R96: the copy a READ of a MIRROR window goes to, by the first case that applies, and STALE_COPY where no current copy can be
read. Case 5 is stated where a repair overlaps the extent on one copy alone (log entry 14).

R97: a MEDIA result of a READ fragment of a MIRROR window turns it into an unplaced fragment of the other copy where that copy
is clean, and is the fragment's result where it is not; a retry that ends OK gives OK_RECOVERED and queues the repair of the
copy that failed, as LoggingRegions says; a retry that ends otherwise gives the more severe of MEDIA and its result. R112: a
result other than OK of a fragment on the target of a running rebuild abandons the rebuild: that a fragment is on the target by
its member alone, also where it was placed on a bay that REPLACE_MEMBER has replaced, is the model's choice (log entry 69). That
the failing block is mapped to its window offset with the member's base as it stands when the result comes is the model's choice
(log entry 38). -/
def Obligations.MirrorReadCopyAndRetry : Prop :=
  (∀ (p : Part) (r : Request), (p.window r.window).layout = .mirror → r.kind = .read →
     let w := r.window
     let v := p.window w
     let touchedBy (e : LogEntry) : Prop := e.window = w ∧ e.region ∈ touched r.offset r.count
     let unlogged : Prop := ∀ e ∈ p.engine.log, ¬touchedBy e
     let repairing (x : Side) : Prop := ∃ e ∈ p.engine.repairs, e.window = w ∧ e.copy = x
       ∧ e.offset < r.offset + r.count ∧ r.offset < e.offset + e.count
     let ready (x : Side) : Prop := (p.bay (v.copy x).bay).power = .ready
     let load (x : Side) : Nat := (p.bay (v.copy x).bay).queue.length
       + (match (p.bay (v.copy x).bay).inFlight with | .op _ => 1 | _ => 0)
     let goes (x : Side) : Prop := p.route r = p.modRequest r.id fun q => { q with
       routed := true, gather := .worst
       frags := [{ member := sideIndex x, bay := (v.copy x).bay, block := (v.copy x).base + r.offset
                   count := r.count, first := r.offset }] }
     let stale : Prop := p.route r = p.modRequest r.id fun q => { q with
       routed := true, gather := .worst, frags := [], notes := q.notes ++ [.staleCopy] }
     (∀ x, v.lost = some x → goes (otherSide x))
     ∧ (v.lost = none →
       (∀ g, (∃ e ∈ p.engine.log, touchedBy e) → (∀ e ∈ p.engine.log, touchedBy e → e.good = g) →
         (p.usable w g = true → goes g) ∧ (p.usable w g = false → stale))
       ∧ (∀ e ∈ p.engine.log, ∀ e' ∈ p.engine.log, touchedBy e → touchedBy e' → e.good ≠ e'.good → stale)
       ∧ (unlogged →
         (∀ x, p.usable w x = true → p.usable w (otherSide x) = false → goes x)
         ∧ (p.usable w .primary = false → p.usable w .secondary = false → goes .primary)
         ∧ (p.usable w .primary = true → p.usable w .secondary = true →
           (∀ x, repairing x → ¬repairing (otherSide x) → goes (otherSide x))
           ∧ (¬repairing .primary → ¬repairing .secondary →
             (ready .primary → ready .secondary → load .primary ≤ load .secondary → goes .primary)
             ∧ (ready .primary → ready .secondary → load .secondary < load .primary → goes .secondary)
             ∧ (∀ x, ready x → ¬ready (otherSide x) → goes x)
             ∧ (¬ready .primary → ¬ready .secondary → goes .primary))))))
  ∧ (∀ (p : Part) (r : Request) (k : Nat) (f : Fragment), p.request? r.id = some r → r.frags[k]? = some f → r.kind = .read →
       (p.window r.window).layout = .mirror →
       let v := p.window r.window
       let failed := sideOf f.member
       let clean : Prop := v.lost = none ∧ (∀ e ∈ p.engine.log, ¬(e.window = r.window ∧ e.region ∈ touched f.first f.count))
         ∧ p.usable r.window (otherSide failed) = true
         ∧ ¬∃ e ∈ p.engine.repairs, e.window = r.window ∧ e.copy = otherSide failed
           ∧ e.offset < f.first + f.count ∧ f.first < e.offset + e.count
       let after (q : Part) (res : Status) : Part :=
         (if res ≠ .ok ∧ v.cursor.isSome = true ∧ v.lost = some failed then q.abandonRebuild r.window else q).markEnded
       let noted (block : Nat) : Part := p.modRequest r.id fun x => { x with
         failing := lowerOffset x.failing (failOffset v f.member block) }
       let resolved (q : Part) (st : Status) : Part := q.modFrag r.id k fun x => { x with result := some st }
       (∀ block, f.retry = false → clean → p.fragResult r.id k .media (some block)
         = ((noted block).modFrag r.id k fun x => {
           member := sideIndex (otherSide (sideOf x.member)), bay := (v.copy (otherSide (sideOf x.member))).bay
           block := (v.copy (otherSide (sideOf x.member))).base + x.first, count := x.count, first := x.first
           retry := true }).markEnded)
       ∧ (∀ block, f.retry = false → ¬clean →
         p.fragResult r.id k .media (some block) = after (resolved (noted block) .media) .media)
       ∧ (f.retry = false → ∀ res, res ≠ .media → p.fragResult r.id k res none = after (resolved p res) res)
       ∧ (f.retry = true → p.fragResult r.id k .ok none
         = ((resolved p .okRecovered).repairOrLog r.window (otherSide failed) f.first f.count).markEnded)
       ∧ (∀ block, f.retry = true → p.fragResult r.id k .media (some block) = after (resolved (noted block) .media) .media)
       ∧ (f.retry = true → ∀ res, res ≠ .ok → res ≠ .media → p.fragResult r.id k res none
         = after (resolved p (if severity .media ≤ severity res then .media else res)) res))

/-- R98, R101: the copies a WRITE goes to: the survivor of a LOST member, or both copies where a rebuild has reached one of its
regions; the one usable copy, the other being marked LOST; the primary where neither is usable; the one good copy of its logged
regions, its other regions logged with them, or both where the entries disagree or the log has no room; both where both are
READY, or where the window is not LAZY or the secondary is READY; the primary alone, its regions logged, where LAZY is set, the
secondary is not READY and the log has room. A write over the chunk in progress makes it run again (R109, R121; log entry 46). Of
the fragments on both copies the primary's stands first (the model's choice, log entry 61).

R102, R103: the copies a FLUSH goes to; outside READ_ONLY boot mode a FLUSH with MIRROR_BOTH first records the entries it waits
on and then asks for the bays of the window where there are any, the primary's first and ahead of what the placing of its
fragments asks for (the model's choice, log entry 60); at the last of them its second operations are placed.

R99, R100: the status and the effect of a WRITE by its results; what a write to the survivor and the target does whose rebuild has
ended meanwhile is the model's choice (log entry 33), and so are the order of two second operations (log entry 78) and that a
write to both copies goes by the lost member as it stands at the last result (log entry 89). That the entries judged are those before the
write's own logging is deduced (log entry 15); that a FLUSH with no usable copy goes to the primary, and that entries are recorded
before a LOST mark of the FLUSH's own routing, are deduced too (log entry 36). -/
def Obligations.MirrorWriteCopiesAndPair : Prop :=
  (∀ (p : Part) (r : Request), (p.window r.window).layout = .mirror → r.kind = .write →
     let w := r.window
     let v := p.window w
     let gs := touched r.offset r.count
     let on (x : Side) : Fragment := {
       member := sideIndex x, bay := (v.copy x).bay, block := (v.copy x).base + r.offset, count := r.count, first := r.offset }
     let goes (q : Part) (l : List Side) (g : Gather) : Part := q.modRequest r.id fun x => { x with
       routed := true, gather := g, frags := l.map on }
     let again (both : Bool) (q : Part) : Part := { q with engine := { q.engine with chunk := q.engine.chunk.map fun c =>
       if c.window = w ∧ c.offset < r.offset + r.count ∧ r.offset < c.offset + c.count
           ∧ (c.kind = .rebuild ∨ (both = true ∧ (c.kind = .repair ∨ c.kind = .patrol))) then { c with again := true } else c } }
     let both (q : Part) (g : Gather) : Part := again true (goes q [.primary, .secondary] g)
     let redirtied (q : Part) : Part := { q with engine := { q.engine with
       log := q.engine.log.map fun e =>
         if e.window = w ∧ e.region ∈ gs then { e with redirtied := e.redirtied || e.copying, unreadable := false } else e
       seek := q.engine.seek || q.engine.log.any fun e => decide (e.window = w ∧ e.region ∈ gs) && e.unreadable } }
     let mine (e : LogEntry) : Prop := e ∈ p.engine.log ∧ e.window = w ∧ e.region ∈ gs
     (∀ x, v.lost = some x →
       (v.cursor = none → p.route r = goes p [otherSide x] (.survivor (otherSide x)))
       ∧ ∀ g, v.cursor = some g →
         ((∀ y ∈ gs, g < y) → p.route r = again false (goes p [otherSide x] (.survivor (otherSide x))))
         ∧ ((∃ y ∈ gs, y ≤ g) → p.route r = both p (.survivor (otherSide x))))
     ∧ (v.lost = none →
       (∀ x, p.usable w x = true → p.usable w (otherSide x) = false →
         p.route r = goes (p.markLost w (otherSide x)) [x] (.survivor x))
       ∧ (p.usable w .primary = false → p.usable w .secondary = false → p.route r = goes p [.primary] .worst)
       ∧ (p.usable w .primary = true → p.usable w .secondary = true →
         (∀ g, (∃ e, mine e) → (∀ e, mine e → e.good = g) →
           (∀ q, p.tryLog w gs g = some q → p.route r = goes (redirtied q) [g] .worst)
           ∧ (p.tryLog w gs g = none → p.route r = both (redirtied p) .both))
         ∧ (∀ e e', mine e → mine e' → e.good ≠ e'.good → p.route r = both (redirtied p) .both)
         ∧ ((∀ e, ¬mine e) →
           ((p.copyReady w .secondary = true ∨ v.lazyAttr = false) → p.route r = both p .both)
           ∧ (p.copyReady w .secondary = false → v.lazyAttr = true →
             (p.tryLog w gs .primary = none → p.route r = both p .both)
             ∧ ∀ q, p.tryLog w gs .primary = some q → p.route r = goes q [.primary] .worst)))))
  ∧ (∀ (p : Part) (r : Request), (p.window r.window).layout = .mirror → r.kind = .flush →
       let w := r.window
       let v := p.window w
       let on (x : Side) : Fragment := { member := sideIndex x, bay := (v.copy x).bay }
       let goes (q : Part) (l : List Side) (notes : List Status) : Part := q.modRequest r.id fun x => { x with
         routed := true, gather := .worst, frags := l.map on, notes := x.notes ++ notes }
       let waitedOn := p.engine.log.filter fun e => e.window == w && !e.unreadable
       let bad := p.engine.log.filter fun e => e.window == w && e.unreadable
       let recorded : Part := ({ p with engine := { p.engine with
           log := p.engine.log.map fun e =>
             if e.window = w ∧ e.unreadable = false then { e with flushes := e.flushes + 1 } else e
           seek := p.engine.seek || !waitedOn.isEmpty } } : Part).modRequest r.id fun x => { x with
         waits := waitedOn.map fun e => e.region
         notes := x.notes ++ bad.map fun _ => .media
         failing := if bad = [] then x.failing else match v.lastUnreadable with
           | none => x.failing
           | some o => lowerOffset x.failing o }
       (∀ x, v.lost = some x →
         (v.cursor = none → p.flushCopies r = goes p [otherSide x] [])
         ∧ (v.cursor.isSome = true → p.flushCopies r = goes p [.primary, .secondary] []))
       ∧ (v.lost = none →
         (∀ x, p.usable w x = true → p.usable w (otherSide x) = false →
           p.flushCopies r = goes (p.markLost w (otherSide x)) [x] [.okDegraded])
         ∧ (p.usable w .primary = false → p.usable w .secondary = false → p.flushCopies r = goes p [.primary] [])
         ∧ (p.usable w .primary = true → p.usable w .secondary = true →
           p.flushCopies r = goes p ([Side.primary, Side.secondary].filter fun x =>
             p.copyReady w x || !(p.engine.log.any fun e => decide (e.window = w ∧ e.good = otherSide x))) []))
       ∧ ((r.mirrorBoth = false ∨ p.loader.mode = .readOnly) → p.route r = p.flushCopies r)
       ∧ (r.mirrorBoth = true → p.loader.mode ≠ .readOnly →
         (waitedOn = [] → p.route r = recorded.flushCopies r)
         ∧ (waitedOn ≠ [] → p.route r
           = ((recorded.flushCopies r).wakeBay (v.copy .primary).bay).wakeBay (v.copy .secondary).bay))
       ∧ (r.life = .atBays → r.routed = true → (∀ f ∈ r.frags, f.result.isSome = true) → r.waits = [] → r.second ≠ [] →
         p.advance r = some (p.modRequest r.id fun x => { x with frags := x.frags ++ x.second.map on, second := [] })))
  ∧ (∀ (p : Part) (r : Request),
       let res (x : Side) : Status := (Part.copyResult r x).getD .ok
       (r.gather = .both → p.gathered r = p.pairEnd r (res .primary) (res .secondary))
       ∧ ∀ x, r.gather = .survivor x →
         let st := if res x = .ok then .okDegraded else res x
         ((res x ≠ .ok ∨ res (otherSide x) = .ok ∨ (p.window r.window).lost.isSome = true) → p.gathered r = (p, st))
         ∧ (res x = .ok → res (otherSide x) ≠ .ok → (p.window r.window).lost = none →
           let t := res (otherSide x)
           p.gathered r = (if t = .media ∨ t = .timeout
             then (p.tryLog r.window (touched r.offset r.count) x).getD (p.markLost r.window (otherSide x))
             else p.markLost r.window (otherSide x), st)))
  ∧ (∀ (p : Part) (r : Request) (a b : Status),
       let w := r.window
       let gs := touched r.offset r.count
       let holds (x : Side) : Prop := ∃ e ∈ p.engine.log, e.window = w ∧ e.region ∈ gs ∧ e.good = x
       (∀ x, (p.window w).lost = some x →
         let res := if x = .primary then b else a
         p.pairEnd r a b = (p, if res = .ok then .okDegraded else res))
       ∧ ((p.window w).lost = none →
         (a = .ok → b = .ok → p.pairEnd r a b = (p, .ok))
         ∧ (a ≠ .ok → b ≠ .ok → p.pairEnd r a b = (p, if severity a ≤ severity b then a else b))
         ∧ (a = .ok → b ≠ .ok →
           ((b = .media ∨ b = .timeout) → (p.pairEnd r a b).1 = (p.tryLog w gs .primary).getD (p.markLost w .secondary))
           ∧ (b ≠ .media → b ≠ .timeout → (p.pairEnd r a b).1 = p.markLost w .secondary)
           ∧ (holds .secondary → (p.pairEnd r a b).2 = b) ∧ (¬holds .secondary → (p.pairEnd r a b).2 = .okDegraded))
         ∧ (a ≠ .ok → b = .ok →
           ((a = .media ∨ a = .timeout) → (p.pairEnd r a b).1 = (p.tryLog w gs .secondary).getD (p.markLost w .primary))
           ∧ (a ≠ .media → a ≠ .timeout → (p.pairEnd r a b).1 = p.markLost w .primary)
           ∧ (holds .primary → (p.pairEnd r a b).2 = a) ∧ (¬holds .primary → (p.pairEnd r a b).2 = .okDegraded))))

/-- R93: logging regions with a good copy: regions that hold an entry keep it, set re-dirtied where it is COPYING; the others
get new DIRTY entries with the counter's value; where they do not fit in 64 entries nothing is logged; and nothing is done while
the window has a lost member.

R94: the high mark follows the log: its rise to 48 entries raises RESYNC_HIGH and, outside READ_ONLY boot mode, asks for the
bays of the oldest entry that can be resynced that are not READY, the primary's first (the model's choice, log entry 59).

R95: marking a copy's member LOST: its window's log entries go, those that held the copy's regions as good counted as orphaned,
the flushes that waited on them told OK_DEGRADED and owed no second FLUSH on the copy (deduced, log entry 36); the window's
repair entries go; a resync or repair chunk of it is abandoned; MEMBER_LOST is raised and the high mark follows the log. Nothing
where a member is LOST already. R34, R121: the mark does nothing at once to a compare chunk of the window, but that one that
waits for its slots leaves the slot-wait list without a grant where R34 holds: which of the two rules does is a free value (log
entry 68).

R104: queueing a repair of blocks of a copy: an entry that holds them from its next block on has them already; else the first
entry not busy that they overlap or adjoin, with a union of at most 256 blocks, takes them (of several, the first in queue
order: the model's choice, log entry 43); else a new entry joins the tail of a queue of fewer than eight. R97, R109, R125: where
the queue is full the regions are logged with the other copy as good, and where the log has no room the copy's member is marked
LOST. -/
def Obligations.LoggingRegions : Prop :=
  (∀ (p : Part) (w : Fin 16) (gs : List Nat) (good : Side),
    let fresh := gs.filter fun g => !(p.engine.log.any fun e => e.window == w && e.region == g)
    ((p.window w).lost.isSome → p.tryLog w gs good = some p)
    ∧ ((p.window w).lost = none → 64 - p.engine.log.length < fresh.length → p.tryLog w gs good = none)
    ∧ ((p.window w).lost = none → fresh.length ≤ 64 - p.engine.log.length → ∃ q, p.tryLog w gs good = some q
      ∧ q.engine.log = (p.engine.log.map fun e =>
          if e.window = w ∧ e.region ∈ gs ∧ e.copying = true then { e with redirtied := true } else e)
        ++ (fresh.map fun g => ({ window := w, region := g, good := good, logged := p.clock.counter } : LogEntry))
      ∧ q.engine.above = decide (48 ≤ q.engine.log.length)
      ∧ q.engine.seek = (p.engine.seek || !fresh.isEmpty)
      ∧ q.windows = p.windows ∧ q.router = p.router ∧ q.box = p.box ∧ q.clock = p.clock ∧ q.matcher = p.matcher
      ∧ q.engine.repairs = p.engine.repairs ∧ q.engine.chunk = p.engine.chunk
      ∧ q = { ({ p with engine := { p.engine with log := q.engine.log } } : Part).followMark with engine := q.engine }))
  ∧ (∀ p : Part,
      let above (v : Bool) : Part := { p with engine := { p.engine with above := v } }
      (p.engine.log.length < 48 → p.followMark = above false)
      ∧ (48 ≤ p.engine.log.length → p.engine.above = true → p.followMark = p)
      ∧ (48 ≤ p.engine.log.length → p.engine.above = false →
        let q := (above true).raise .resyncHigh
        (p.loader.mode = .readOnly → p.followMark = q)
        ∧ (p.loader.mode ≠ .readOnly →
          let oldest := p.engine.log.find? fun e => !e.unreadable && (p.window e.window).st != .free
          (oldest = none → p.followMark = q)
          ∧ ∀ e, oldest = some e → p.followMark
            = (q.wakeBay ((p.window e.window).copy .primary).bay).wakeBay ((p.window e.window).copy .secondary).bay)))
  ∧ (∀ (p : Part) (w : Fin 16) (x : Side),
      let v := p.window w
      let gone := p.engine.log.filter fun e => e.window == w
      let log := p.engine.log.filter fun e => e.window != w
      let told (q : Part) (e : LogEntry) : Part := ({ q with router := { q.router with
        requests := q.router.requests.map fun r =>
          if r.window = w ∧ r.kind = .flush ∧ e.region ∈ r.waits
            then { r with waits := r.waits.erase e.region, notes := r.notes ++ [.okDegraded] } else r } } : Part).markEnded
      (v.lost.isSome = true → p.markLost w x = p)
      ∧ (v.lost = none → (48 ≤ log.length → p.engine.above = true) →
        let q1 : Part := { p with
          windows := p.windows.set w { v with
            lost := some x, orphaned := min 65535 (v.orphaned + (gone.filter fun e => e.good == x).length) }
          engine := { p.engine with log := log } }
        let q2 := gone.foldl told q1
        let q3 := ({ q2 with router := { q2.router with requests := q2.router.requests.map fun r =>
          if r.window = w then { r with second := r.second.filter fun y => y != x } else r } } : Part).markEnded
        let q4 : Part := { q3 with engine := { q3.engine with repairs := q3.engine.repairs.filter fun e => e.window != w } }
        let unlisted : Part := { q4 with router := { q4.router with
          slotWait := q4.router.slotWait.filter fun e => e.who != .engine } }
        let stopped (c : Chunk) : Part :=
          if c.window = w ∧ (c.kind = .resync ∨ c.kind = .repair) then chunkAbandoned q4 c
          else if c.window = w ∧ c.kind = .patrol ∧ c.phase = .slotWait ∧ c.abandoned = false
              ∧ Config.lostUnlistsCompare = true then unlisted
          else q4
        let q5 := (match p.engine.chunk with | some c => stopped c | none => q4).raise .memberLost
        p.markLost w x = { q5 with engine := { q5.engine with above := decide (48 ≤ log.length) } }))
  ∧ ∀ (p : Part) (w : Fin 16) (x : Side) (o n : Nat),
    let holds (e : RepairEntry) : Prop := e.window = w ∧ e.copy = x ∧ e.next ≤ o ∧ o + n ≤ e.offset + e.count
    let size (e : RepairEntry) : Nat := max (o + n) (e.offset + e.count) - min o e.offset
    let takes (e : RepairEntry) : Prop := e.window = w ∧ e.copy = x ∧ e.busy = false ∧ o ≤ e.offset + e.count
      ∧ e.offset ≤ o + n ∧ size e ≤ 256
    let put (l : List RepairEntry) : Part := { p with engine := { p.engine with repairs := l } }
    ((∃ e ∈ p.engine.repairs, holds e) → p.tryRepair w x o n = some p)
    ∧ ((∀ e ∈ p.engine.repairs, ¬holds e) →
      (∀ before e after, p.engine.repairs = before ++ e :: after → (∀ y ∈ before, ¬takes y) → takes e →
        p.tryRepair w x o n = some (put (before
          ++ { e with offset := min o e.offset, count := size e, next := min e.next o } :: after)))
      ∧ ((∀ e ∈ p.engine.repairs, ¬takes e) →
        (p.engine.repairs.length < 8 → p.tryRepair w x o n = some { p with engine := { p.engine with
          repairs := p.engine.repairs ++ [{ window := w, copy := x, offset := o, count := n, next := o }], seek := true } })
        ∧ (8 ≤ p.engine.repairs.length → p.tryRepair w x o n = none)))
    ∧ (∀ q, p.tryRepair w x o n = some q → p.repairOrLog w x o n = q)
    ∧ (p.tryRepair w x o n = none →
      p.repairOrLog w x o n = (p.tryLog w (touched o n) (otherSide x)).getD (p.markLost w x))

/-- R105, R108, R112: what the engine does with COPY_JOB_START: nothing while it has a chunk or the box is DORMANT; else the
first place of the order that has a job. That COPY_JOB_START makes the engine seek whatever came before is the model's
choice (log entry 3); the passing over of single entries is deduced (log entry 16).

R94: where no repair and no resync can be begun while the high mark is ABOVE, the bays of the oldest entry that can be resynced
are asked for, and then a rebuild is sought, and then a patrol: that no start is asked for where a repair is taken is deduced (log
entry 35), and that the primary's bay is asked first is the model's choice (log entry 59).

R104, R105, R109: the first repair entry that can be worked is dropped where a region it touches is logged, and else gives a
chunk of its next piece. R105, R107: the resync is the first of the entries waited on by flushes, and then of the log, that can be
worked. R111: the rebuild is that of the lowest window that has one it can work. R118 to R120: the patrol is that of the lowest
window that is due and can be patrolled; its cursor moves past its logged regions to a chunk, or to the end of the pass.

R106 to R109, R111, R112: what the result of an operation of a resync, repair or rebuild chunk leads to: a READ that ends OK is
followed by the WRITE; a WRITE that ends OK advances the work, and ends it at its last chunk, unless the chunk is to run again; a
MEDIA result marks the entry unreadable, drops or logs the repair, marks the destination LOST or abandons the rebuild; any other
result stops the chunk short; a result of an abandoned chunk is set aside. That an entry marked unreadable has its re-dirtied flag
cleared is the model's choice (log entry 67), and so is that a TIMEOUT or a MEMBER_FOREIGN sets back the work of the current chunk
alone (log entry 70).

R108, R111, R126: a bay that leaves READY sends the COPYING entries of its windows back to DIRTY and their rebuilds to the
start of the region at the cursor, and stops the chunk in progress on it. Where it leaves READY by an order of DORMANT, the chunk
in progress goes on with its work (R105, R126): that its own entry or rebuild stays as it is, is the model's choice (log entry
49). -/
def Obligations.CopyJobOrder : Prop :=
  (∀ s : State, s.part.held = false →
    let p : Part := { s.part with out := [], engine := { s.part.engine with seek := false } }
    (s.part.engine.chunk.isSome ∨ s.part.box.st = some .dormant → Gives .copyJobStart s p)
    ∧ (s.part.engine.chunk = none → s.part.box.st ≠ some .dormant →
      (s.part.loader.mode = .readOnly → Gives .copyJobStart s p.seekPatrol)
      ∧ (s.part.loader.mode ≠ .readOnly →
        (∀ i e, p.repairJob = some (i, e) → Gives .copyJobStart s (p.takeRepair i e))
        ∧ (p.repairJob = none → ∀ e, p.resyncJob = some e →
          let c := if e.copying then e.next else 0
          let off := e.region * 4096 + c * 64
          let q := p.modEntry e.window e.region fun x => { x with copying := true, next := c }
          Gives .copyJobStart s { q with
            engine := { q.engine with chunk := some {
              kind := .resync, window := e.window, source := e.good, dest := otherSide e.good, offset := off
              count := min 64 ((p.window e.window).length - off) } }
            router := { q.router with slotWait := q.router.slotWait ++ [{ who := .engine, need := 64 }] } })
        ∧ (p.repairJob = none → p.resyncJob = none → Gives .copyJobStart s p.seekAfterResync))))
  ∧ (∀ p : Part,
      let asked : Part := if p.engine.above = false ∨ p.loader.mode = .readOnly then p
        else match p.engine.log.find? fun e => !e.unreadable && (p.window e.window).st != .free with
          | none => p
          | some e => (p.wakeBay ((p.window e.window).copy .primary).bay).wakeBay ((p.window e.window).copy .secondary).bay
      (asked.rebuildJob = none → p.seekAfterResync = asked.seekPatrol)
      ∧ ∀ w x g, asked.rebuildJob = some (w, x, g) →
        let off := g * 4096 + (asked.window w).rebuildChunk * 64
        p.seekAfterResync = { asked with
          engine := { asked.engine with chunk := some {
            kind := .rebuild, window := w, source := otherSide x, dest := x, offset := off
            count := min 64 ((asked.window w).length - off) } }
          router := { asked.router with slotWait := asked.router.slotWait ++ [{ who := .engine, need := 64 }] } })
  ∧ (∀ p : Part,
      let works (w : Fin 16) : Prop := ∀ x : Side,
        (p.bay ((p.window w).copy x).bay).power = .ready ∧ ((p.window w).copy x).isForeign = false
      let joined (q : Part) (c : Chunk) (need : Nat) : Part := { q with
        engine := { q.engine with chunk := some c }
        router := { q.router with slotWait := q.router.slotWait ++ [{ who := .engine, need := need }] } }
      let can (e : RepairEntry) : Prop := (p.window e.window).st ≠ .free ∧ works e.window
      let rebuilds (w : Fin 16) : Prop :=
        (p.window w).st = .opened ∧ (p.window w).lost.isSome = true ∧ (p.window w).cursor.isSome = true ∧ works w
      let patrols (w : Fin 16) : Prop :=
        let v := p.window w
        v.st = .opened ∧ v.layout = .mirror ∧ v.patrol.isSome = true ∧ v.interval ≠ 0 ∧ v.due = true ∧ v.lost = none ∧ works w
      let logged (w : Fin 16) (g : Nat) : Prop := ∃ e ∈ p.engine.log, e.window = w ∧ e.region = g
      ((∀ e ∈ p.engine.repairs, ¬can e) → p.repairJob = none)
      ∧ (∀ (before : List RepairEntry) (e : RepairEntry) (after : List RepairEntry),
        p.engine.repairs = before ++ e :: after → (∀ y ∈ before, ¬can y) → can e →
        let w := e.window
        let put (l : List RepairEntry) : Part := { p with engine := { p.engine with repairs := l } }
        p.repairJob = some (before.length, e)
        ∧ ((∃ g ∈ touched e.offset e.count, logged w g) → p.takeRepair before.length e
          = { p with engine := { p.engine with repairs := before ++ after, seek := true } })
        ∧ ((∀ g ∈ touched e.offset e.count, ¬logged w g) → p.takeRepair before.length e
          = joined (put (before ++ { e with busy := true } :: after)) {
              kind := .repair, window := w, source := otherSide e.copy, dest := e.copy, offset := e.next
              count := min 64 (e.offset + e.count - e.next) } 64))
      ∧ p.resyncJob = (((p.router.requests.flatMap fun r =>
          p.engine.log.filter fun e => e.window == r.window && decide (e.region ∈ r.waits)) ++ p.engine.log).find? fun e =>
            !e.unreadable && (p.window e.window).st != .free && p.workable e.window)
      ∧ (∀ w, p.workable w = true ↔ works w)
      ∧ ((∀ w, ¬rebuilds w) → p.rebuildJob = none)
      ∧ (∀ w x g, rebuilds w → (∀ u, u < w → ¬rebuilds u) → (p.window w).lost = some x → (p.window w).cursor = some g →
        p.rebuildJob = some (w, x, g))
      ∧ ((∀ w, ¬patrols w) → p.seekPatrol = p)
      ∧ ∀ (w : Fin 16) (r : PatrolRecord) (g : Nat), patrols w → (∀ u, u < w → ¬patrols u) → (p.window w).patrol = some r →
        r.region ≤ g → (∀ j, r.region ≤ j → j < g → logged w j) → ¬logged w g →
        let v := p.window w
        let k := if g = r.region then r.chunk else 0
        let put (y : PatrolRecord) : Part := { p with windows := p.windows.set w { v with due := false, patrol := some y } }
        ((v.length - 1) / 4096 < g → p.seekPatrol = { put { r with
            passes := if r.passes < 65535 then r.passes + 1 else r.passes, lastEnd := some p.clock.counter
            region := 0, chunk := 0 } with engine := { p.engine with seek := true } })
        ∧ (g ≤ (v.length - 1) / 4096 → p.seekPatrol = joined (put { r with region := g, chunk := k }) {
            kind := .patrol, window := w, source := .primary, dest := .secondary, offset := g * 4096 + k * 64
            count := min 64 (v.length - (g * 4096 + k * 64)) } 128))
  ∧ (∀ (p : Part) (c : Chunk) (o : BayOp) (x : Side) (res : Status) (block : Option Nat),
       p.engine.chunk = some c → o.parent = .chunk x →
       let w := c.window
       let v := p.window w
       let g := c.offset / 4096
       let k := c.offset % 4096 / 64
       let last : Prop := k + 1 = 64 ∨ v.length ≤ g * 4096 + (k + 1) * 64
       let goesOn (d : Chunk) : Prop := p.reportResult res block o = { p with engine := { p.engine with chunk := some d } }
       let set (q : Part) (u : Window) : Part := { q with windows := q.windows.set w u }
       let entries (q : Part) (f : LogEntry → LogEntry) : Part := { q with engine := { q.engine with
         log := q.engine.log.map fun e => if e.window = w ∧ e.region = g then f e else e } }
       let told (q : Part) (note : Status) (failing : Option Nat) (stale : List Side) : Part :=
         ({ q with router := { q.router with requests := q.router.requests.map fun r =>
             if r.window = w ∧ r.kind = .flush ∧ g ∈ r.waits then { r with
               waits := r.waits.erase g, notes := r.notes ++ [note]
               failing := match failing with | none => r.failing | some n => lowerOffset r.failing n
               second := r.second ++ stale.filter fun y => y ∉ r.second } else r } } : Part).markEnded
       (c.abandoned = true → p.reportResult res block o = p)
       ∧ (c.abandoned = false →
         (res ≠ .ok → res ≠ .media → p.reportResult res block o = chunkStopped p c)
         ∧ (c.kind ≠ .patrol → o.kind = .read → res = .ok → goesOn { c with phase := .writing, todo := [c.dest] })
         ∧ (c.kind ≠ .patrol → o.kind = .write → res = .ok → c.again = true → goesOn { c with
             phase := .reading, again := false, resPrimary := none, resSecondary := none, todo := [c.source] })
         ∧ (c.kind = .resync → o.kind = .write → res = .ok → c.again = false →
           (p.logEntry? w g = none → p.reportResult res block o = chunkEnded p)
           ∧ ∀ e, p.logEntry? w g = some e →
             (¬last → p.reportResult res block o = chunkEnded (entries p fun y => { y with next := k + 1 }))
             ∧ (last → e.redirtied = true →
               p.reportResult res block o = chunkEnded (entries p fun y => { y with redirtied := false, next := 0 }))
             ∧ (last → e.redirtied = false →
               let log := p.engine.log.filter fun y => !(y.window == w && y.region == g)
               (48 ≤ log.length → p.engine.above = true) →
               p.reportResult res block o = told { chunkEnded p with engine := { (chunkEnded p).engine with
                 log := log, above := decide (48 ≤ log.length) } } .ok none [otherSide e.good]))
         ∧ (c.kind = .resync → o.kind = .read → res = .media →
           let n := failOffset v (sideIndex x) (block.getD 0)
           p.reportResult res block o = chunkEnded (told (set (entries p fun y => { y with
               copying := false, next := 0, redirtied := false, unreadable := true, flushes := 0 })
             { v with unreadable := if v.unreadable < 65535 then v.unreadable + 1 else v.unreadable, lastUnreadable := some n })
             .media (some n) []))
         ∧ (c.kind = .resync → o.kind = .write → res = .media → p.reportResult res block o = p.markLost w c.dest)
         ∧ (c.kind = .repair → o.kind = .write → res = .ok → c.again = false →
           p.reportResult res block o = chunkEnded { p with engine := { p.engine with
             repairs := (p.engine.repairs.filter fun e => !e.busy || decide (e.next + c.count < e.offset + e.count)).map fun e =>
               if e.busy = true then { e with next := e.next + c.count } else e } })
         ∧ (c.kind = .repair → o.kind = .read → res = .media → p.reportResult res block o = chunkEnded (set { p with
             engine := { p.engine with repairs := p.engine.repairs.filter fun e => !e.busy } }
             { v with unrepairable := if v.unrepairable < 65535 then v.unrepairable + 1 else v.unrepairable }))
         ∧ (c.kind = .repair → o.kind = .write → res = .media →
           ∀ e, (p.engine.repairs.find? fun e => e.busy) = some e →
             let q : Part := { p with engine := { p.engine with repairs := p.engine.repairs.filter fun e => !e.busy } }
             p.reportResult res block o
               = chunkEnded ((q.tryLog w (touched e.offset e.count) c.source).getD (q.markLost w (otherSide c.source))))
         ∧ (c.kind = .rebuild → o.kind = .write → res = .ok → c.again = false →
           (¬last → p.reportResult res block o = set (chunkEnded p) { v with rebuildChunk := k + 1 })
           ∧ (last → g < (v.length - 1) / 4096 →
             p.reportResult res block o = set (chunkEnded p) { v with cursor := some (g + 1), rebuildChunk := 0 })
           ∧ (last → (v.length - 1) / 4096 ≤ g → p.reportResult res block o
             = (set (chunkEnded p) { v with lost := none, cursor := none, rebuildChunk := 0 }).raise .rebuildDone))
         ∧ (c.kind = .rebuild → o.kind = .read → res = .media → p.reportResult res block o = rebuildAbandoned (set p { v with
             unreadable := if v.unreadable < 65535 then v.unreadable + 1 else v.unreadable
             lastUnreadable := some (failOffset v (sideIndex x) (block.getD 0)) }) w)
         ∧ (c.kind = .rebuild → o.kind = .write → res = .media → p.reportResult res block o = rebuildAbandoned p w)))
  ∧ ∀ (p : Part) (b : Fin 4),
    let q : Part := { p with
      engine := { p.engine with log := p.engine.log.map fun e =>
        if e.copying = true ∧ (p.window e.window).onBay b = true
          then { e with copying := false, next := 0, redirtied := false } else e }
      windows := p.windows.map fun v =>
        if v.cursor.isSome = true ∧ v.onBay b = true then { v with rebuildChunk := 0 } else v }
    (p.engine.chunk = none → p.bayLeavesReady b = q ∧ p.bayLeavesForDormant b = q)
    ∧ ∀ c, p.engine.chunk = some c →
      ((c.abandoned = true ∨ (p.window c.window).onBay b = false) → p.bayLeavesReady b = q ∧ p.bayLeavesForDormant b = q)
      ∧ (c.abandoned = false → (p.window c.window).onBay b = true →
        p.bayLeavesReady b = chunkStopped q c
        ∧ p.bayLeavesForDormant b = { p with
          engine := { p.engine with log := p.engine.log.map fun e =>
            if e.copying = true ∧ (p.window e.window).onBay b = true
                ∧ ¬(c.kind = .resync ∧ e.window = c.window ∧ e.region = c.offset / 4096)
              then { e with copying := false, next := 0, redirtied := false } else e }
          windows := Vector.ofFn fun w =>
            let v := p.window w
            if v.cursor.isSome = true ∧ v.onBay b = true ∧ ¬(c.kind = .rebuild ∧ w = c.window)
              then { v with rebuildChunk := 0 } else v })

/-! ## Windows -/

/-- R7, R11: WINDOW_DEFINE records the window where every check passes, and is answered by the first check that fails, changing
nothing else. The checks of R8 to R10 are `wellFormedDef`, `noOverlap`, `wholeAlone` and `stripeLength`. -/
def Obligations.WindowDefined : Prop :=
  ∀ (via : Via) (d : WindowDef) (s : State), Taken via .windowDefine s.part →
    let p := portTook s.part (some .windowDefine) via
    let who := answererOf via
    (16 ≤ d.index → GivesQuietly (.windowDefine via d) s (p.reply who .badRequest))
    ∧ ∀ w : Fin 16, d.index = w.val →
      let v := windowOfDef d
      let others := (allWindows.filter (· ≠ w)).map s.part.window
      let capacity (m : Member) : Nat := ((s.part.bay m.bay).identity.map Identity.capacity).getD 0
      let checks : List (Bool × Status) :=
        [(decide ((s.part.window w).st = .free), .busy),
         (wellFormedDef d, .badRequest),
         (decide (∀ m ∈ v.members, (s.part.bay m.bay).identity.isSome = true), .bayUnknown),
         (decide (∀ m ∈ v.members, (s.part.bay m.bay).identity.isSome = true
           ∧ (v.layout = .whole → m.base = 0 ∧ v.length = capacity m)
           ∧ (v.layout ≠ .whole → m.base + v.extentLen ≤ capacity m)), .range),
         (noOverlap v others, .overlap),
         (wholeAlone v others, .overlap),
         (stripeLength v, .badRequest)]
      (∀ st, firstRefusal checks = some st → GivesQuietly (.windowDefine via d) s (p.reply who st))
      ∧ (firstRefusal checks = none →
        GivesQuietly (.windowDefine via d) s
          (({ p with windows := p.windows.set w { v with
              members := v.members.map fun m =>
                { m with serial := (s.part.bay m.bay).identity.map Identity.serial, isForeign := false } } } : Part).reply
            who .ok))

/-- R13, R15: WINDOW_DELETE sets a window CLOSING and holds its answer, or is refused and changes nothing; the window
becomes FREE, with its log and repair entries removed, every field cleared and the held delete answered OK, once no request
of it is in flight and no chunk of it in progress. The mark on dropped requests is the model's own (log entry 12). -/
def Obligations.WindowDeletedAndFreed : Prop :=
  (∀ (via : Via) (i : Nat) (s : State), Taken via .windowDelete s.part →
    let p := portTook s.part (some .windowDelete) via
    let who := answererOf via
    (16 ≤ i → Gives (.windowDelete via i) s (p.reply who .badRequest))
    ∧ ∀ w : Fin 16, i = w.val →
      let v := s.part.window w
      (v.st = .free → Gives (.windowDelete via i) s (p.reply who .noWindow))
      ∧ (v.st = .closing → Gives (.windowDelete via i) s (p.reply who .busy))
      ∧ (v.st = .opened → ((∃ e ∈ s.part.engine.log, e.window = w) ∨ v.cursor.isSome) →
        Gives (.windowDelete via i) s (p.reply who .resyncPending))
      ∧ (v.st = .opened → (∀ e ∈ s.part.engine.log, e.window ≠ w) → v.cursor = none →
        Gives (.windowDelete via i) s
          { p with windows := p.windows.set w { v with st := .closing, deleteFor := some who } }))
  ∧ ∀ (w : Fin 16) (s : State), s.part.held = false →
    let v := s.part.window w
    let log := s.part.engine.log.filter fun e => e.window != w
    v.st = .closing → v.inFlight = 0 → (∀ c, s.part.engine.chunk = some c → c.window ≠ w) →
    (48 ≤ log.length → s.part.engine.above = true) →
    let p : Part := { s.part with
      out := []
      engine := { s.part.engine with
        log := log, repairs := s.part.engine.repairs.filter fun e => e.window != w, above := decide (48 ≤ log.length) }
      router := { s.part.router with
        dropped := s.part.router.dropped.map fun r => if r.window = w then { r with windowGone := true } else r }
      windows := s.part.windows.set w {} }
    Gives (.windowCloseEnd w) s (match v.deleteFor with | none => p | some a => p.reply a .ok)

/-- R19: REPLACE_MEMBER binds the named lost member to the drive in its bay and starts the rebuild, or is answered by the first
check that fails. -/
def Obligations.MemberReplaced : Prop :=
  ∀ (via : Via) (i : Nat) (which : Option Side) (bay base : Nat) (s : State), Taken via .replaceMember s.part →
    let p := portTook s.part (some .replaceMember) via
    let who := answererOf via
    let c : Instr := .replaceMember via i which bay base
    ((16 ≤ i ∨ which = none ∨ 4 ≤ bay ∨ 2 ^ 40 ≤ base) → Gives c s (p.reply who .badRequest))
    ∧ ∀ (w : Fin 16) (x : Side) (b : Fin 4), i = w.val → which = some x → bay = b.val → base < 2 ^ 40 →
      let v := s.part.window w
      let capacity : Option Nat := (s.part.bay b).identity.map Identity.capacity
      let apart (u : Fin 16) : Prop := u ≠ w → (s.part.window u).st ≠ .free → ∀ m ∈ (s.part.window u).members, m.bay = b →
        (s.part.window u).layout ≠ .whole
          ∧ ¬(base < m.base + (s.part.window u).extentLen ∧ m.base < base + v.extentLen)
      (s.part.loader.mode = .readOnly → Gives c s (p.reply who .readOnly))
      ∧ (s.part.loader.mode ≠ .readOnly →
        (v.st = .free → Gives c s (p.reply who .noWindow))
        ∧ (v.st = .closing → Gives c s (p.reply who .busy))
        ∧ (v.st = .opened →
          (v.layout ≠ .mirror → Gives c s (p.reply who .badRequest))
          ∧ (v.layout = .mirror →
            (v.lost ≠ some x → Gives c s (p.reply who .wrongState))
            ∧ (v.lost = some x → v.cursor.isSome → Gives c s (p.reply who .busy))
            ∧ (v.lost = some x → v.cursor = none →
              ((v.copy (otherSide x)).bay = b → Gives c s (p.reply who .badRequest))
              ∧ ((v.copy (otherSide x)).bay ≠ b →
                (capacity = none → Gives c s (p.reply who .bayUnknown))
                ∧ (∀ k, capacity = some k → k < base + v.length → Gives c s (p.reply who .range))
                ∧ (∀ k, capacity = some k → base + v.length ≤ k →
                  (¬(∀ u, apart u) → Gives c s (p.reply who .overlap))
                  ∧ ((∀ u, apart u) → Gives c s
                    (({ p with
                      windows := p.windows.set w { v with
                        members := v.members.set (sideIndex x)
                          { bay := b, base := base, serial := (s.part.bay b).identity.map Identity.serial }
                        cursor := some 0, rebuildChunk := 0 }
                      engine := { p.engine with seek := true } } : Part).reply who .ok))))))))

/-- R16, R67, R193: WINDOW_INFO, BAY_INFO and STATUS are answered OK at once and change nothing beside the port's own taking
and answering; an index or bay that names nothing is BAD_REQUEST. The bytes of the answers are free values (log entry 10);
that the first byte of STATUS acts on the MP alone is deduced (log entry 25). -/
def Obligations.ReportsChangeNothing : Prop :=
  ∀ (via : Via) (s : State),
    (Taken via .windowInfo s.part →
      let p := portTook s.part (some .windowInfo) via
      let who := answererOf via
      (∀ tag, via = .dp tag → ∀ i, GivesQuietly (.windowInfo via i) s (p.answer who .ok (.dpWindowList s.part.dpWindowLines)))
      ∧ ((∀ tag, via ≠ .dp tag) →
        GivesQuietly (.windowInfo via none) s (p.answer who .ok (.windowList s.part.windowLines))
        ∧ (∀ i, 16 ≤ i → GivesQuietly (.windowInfo via (some i)) s (p.reply who .badRequest))
        ∧ ∀ w : Fin 16, GivesQuietly (.windowInfo via (some w.val)) s (p.answer who .ok
          (if (s.part.window w).st = .free then .windowFree w else .window (s.part.windowReport w)))))
    ∧ (Taken via .bayInfo s.part →
      let p := portTook s.part (some .bayInfo) via
      let who := answererOf via
      (∀ n, 4 ≤ n → GivesQuietly (.bayInfo via n) s (p.reply who .badRequest))
      ∧ ∀ b : Fin 4, GivesQuietly (.bayInfo via b.val) s (p.answer who .ok (.bay (Part.bayReport (s.part.bay b)))))
    ∧ (Taken via .status s.part →
      let p := portTook s.part (some .status) via
      ∀ first, GivesQuietly (.status via first) s (p.answerFrom first (answererOf via) .ok (.status p.statusReport)))

/-! ## Drive bays -/

/-- R51: what a start request does in each power state, with the service hold set or clear. -/
def Obligations.StartRequested : Prop :=
  ∀ (p : Part) (b : Fin 4),
    let x := p.bay b
    let waits (f : WaitFrom) : Part := { p with
      bays := p.bays.set b { x with power := .waiting, waitingFrom := some f }
      power := { p.power with startQueue := p.power.startQueue ++ [.bay b] } }
    (x.serviceHold = true → p.requestStart b = p)
    ∧ (x.serviceHold = false →
      (x.power = .off → p.requestStart b = waits .off)
      ∧ (x.power = .standby → p.requestStart b = waits .standby)
      ∧ (x.power = .stopping → p.requestStart b = { p with bays := p.bays.set b { x with startAfterStop := true } })
      ∧ (x.power ∈ [Power.waiting, .starting, .ready, .absent, .fault] → p.requestStart b = p))

/-- R66, R68, R69: BAY_CLEAR, BAY_SPIN and BAY_STOP by the bay's state, and BAD_REQUEST for a bay number above 3. -/
def Obligations.BayClearSpinStop : Prop :=
  ∀ (via : Via) (s : State),
    (Taken via .bayClear s.part →
      let p := portTook s.part (some .bayClear) via
      (∀ n, 4 ≤ n → Gives (.bayClear via n) s (p.reply (answererOf via) .badRequest))
      ∧ ∀ b : Fin 4,
        let x := s.part.bay b
        let y : Bay := { x with
          firstError := none, errorCount := 0, power := if x.power = .fault then .off else x.power
          link := if x.power = .fault then .down else x.link }
        Gives (.bayClear via b.val) s (({ p with bays := p.bays.set b y } : Part).reply (answererOf via) .ok))
    ∧ (Taken via .baySpin s.part →
      let p := portTook s.part (some .baySpin) via
      let who := answererOf via
      (∀ n, 4 ≤ n → Gives (.baySpin via n) s (p.reply who .badRequest))
      ∧ ∀ b : Fin 4,
        let x := s.part.bay b
        let c : Instr := .baySpin via b.val
        (x.power = .absent → Gives c s (p.reply who .bayAbsent))
        ∧ (x.power = .fault → Gives c s (p.reply who .bayFault))
        ∧ (x.power ≠ .absent → x.power ≠ .fault →
          (x.serviceHold = false → Gives c s ((p.requestStart b).reply who .ok))
          ∧ (x.serviceHold = true → who = .mp →
            Gives c s ((({ p with bays := p.bays.set b { x with serviceHold := false } } : Part).requestStart b).reply who .ok))
          ∧ (x.serviceHold = true → who ≠ .mp → Gives c s (p.reply who .wrongState))))
    ∧ (Taken via .bayStop s.part →
      let p := portTook s.part (some .bayStop) via
      let who := answererOf via
      (∀ n, 4 ≤ n → Gives (.bayStop via n) s (p.reply who .badRequest))
      ∧ ∀ b : Fin 4,
        let x := s.part.bay b
        let c : Instr := .bayStop via b.val
        let q : Part := { p with bays := p.bays.set b { x with power := .stopping, stopFor := x.stopFor ++ [who] } }
        (x.power = .absent → Gives c s (p.reply who .bayAbsent))
        ∧ (x.power = .fault → Gives c s (p.reply who .bayFault))
        ∧ (x.power = .standby ∨ x.power = .off → Gives c s (p.reply who .ok))
        ∧ (x.power = .waiting ∨ x.power = .starting → Gives c s (p.reply who .busy))
        ∧ (x.power = .stopping → Gives c s
          { p with bays := p.bays.set b { x with startAfterStop := false, stopFor := x.stopFor ++ [who] } })
        ∧ (x.power = .ready → x.quiet = false → Gives c s (p.reply who .busy))
        ∧ (x.quiet = true → x.link ≠ .locked → Gives c s (q.bayLeavesReady b))
        ∧ (x.quiet = true → x.link = .locked → Gives c s (((q.bayLeavesReady b).modBay b fun y => { y with
            inFlight := .goStandby }).emit (.drive b .goStandby))))

/-- R70: BAY_QUERY by the bay's state, NO_WAKE and the service hold; and what the answer to HEALTH READ does: the cache
takes the drive's figures clamped to their ranges and the query is answered OK with them, or the cache stays and the query
is answered TIMEOUT. That an answer of any kind clears timeout run and counts as work of class MP is deduced (log entry 19), and
so is that the answer TIMEOUT carries nothing (log entry 31). -/
def Obligations.BayQueriedForHealth : Prop :=
  (∀ (seq : Byte) (noWake : Bool) (s : State), Taken (.mp seq) .bayQuery s.part →
    let p := portTook s.part (some .bayQuery) (.mp seq)
    (∀ n, 4 ≤ n → Gives (.bayQuery (.mp seq) n noWake) s (p.reply .mp .badRequest))
    ∧ ∀ b : Fin 4,
      let x := s.part.bay b
      let c : Instr := .bayQuery (.mp seq) b.val noWake
      let q : Part := { p with bays := p.bays.set b { x with healthPending := true, queryHeld := true } }
      (x.power = .ready → Gives c s q)
      ∧ (x.power ∈ [Power.off, .waiting, .starting, .stopping, .standby] →
        (noWake = false → x.serviceHold = false → Gives c s (q.requestStart b))
        ∧ (noWake = true ∨ x.serviceHold = true → Gives c s (p.answer .mp .ok (.health x.health))))
      ∧ (x.power = .absent → Gives c s (p.reply .mp .bayAbsent))
      ∧ (x.power = .fault → Gives c s (p.answer .mp .bayFault (.health x.health))))
  ∧ ∀ (b : Fin 4) (s : State), s.part.held = false → (s.part.bay b).power = .ready → (s.part.bay b).link = .locked →
    (s.part.bay b).inFlight = .healthRead → (s.part.bay b).queryHeld = true →
    let x := s.part.bay b
    let y : Bay := { x with
      inFlight := .nothing, timeoutRun := false, queryHeld := false
      idle := if ActClass.mp ∈ x.profile.mask then 0 else x.idle }
    let p : Part := { s.part with out := [] }
    (∀ (t : Int) (h a : Nat),
      let health : Health := {
        temperature := if t < -40 then -40 else if 125 < t then 125 else t
        hours := if 65535 < h then 65535 else h, realloc := if 65535 < a then 65535 else a, time := s.part.clock.counter }
      Gives (.healthReadAnswer b (.done t h a)) s
        (({ p with bays := p.bays.set b { y with health := some health } } : Part).answer .mp .ok (.health (some health))))
    ∧ ∀ a, (a = .mediaError ∨ a = .abort) →
      Gives (.healthReadAnswer b a) s (({ p with bays := p.bays.set b y } : Part).reply .mp .timeout)

/-- R82, R83: while the head of the start queue fits the headroom it is admitted: it leaves the queue; a bay becomes STARTING
with its profile copied as its figures in use and T_start begun, SPIN UP issued where it starts from STANDBY; the SP's rail
goes on with its figures copied and T_sp begun. A head that does not fit stays. -/
def Obligations.StartAdmitted : Prop :=
  ∀ (s : State) (e : StartEntry) (rest : List StartEntry), s.part.held = false → s.part.power.startQueue = e :: rest →
    let p : Part := { s.part with out := [] }
    let fits : Prop := s.part.committedDraw ≤ s.part.bEff
      ∧ s.part.startDelta e ≤ (s.part.bEff : Int) - s.part.committedDraw
    (¬fits → Gives .startAdmission s p)
    ∧ (fits →
      (∀ b, e = .bay b → (s.part.bay b).power = .waiting →
        let x := s.part.bay b
        let spins : Prop := x.waitingFrom = some .standby ∧ x.link = .locked
        let q : Part := { p with
          power := { p.power with startQueue := rest }
          bays := p.bays.set b { x with
            power := .starting, startedFrom := x.waitingFrom, waitingFrom := none, startLeft := some x.profile.tStart
            inUse := some x.profile, inFlight := if spins then .spinUp else x.inFlight }
          out := if spins then [.drive b .spinUp] else [] }
        Gives .startAdmission s q)
      ∧ (e = .sp → Gives .startAdmission s { p with
          power := { p.power with
            startQueue := rest, spRail := true, spInUse := some p.power.spProfile, tSpLeft := some p.power.spProfile.tSp }
          box := { p.box with resumeCount := some 0 } }))

/-- R82: the head of the start queue asks for the increase of its start, by its start draw and its draw now; it is admitted
exactly if C ≤ B_eff and Δ ≤ B_eff − C, the committed draw after the admission being at most the budget in force; a head that is
not admitted stays, and no entry behind it is taken. -/
def Obligations.AdmissionTest : Prop :=
  (∀ (p : Part) (e : StartEntry) (rest : List StartEntry), p.power.startQueue = e :: rest →
    (e = .sp → p.startDelta e = p.power.spProfile.sUp)
    ∧ (∀ b, e = .bay b → (p.bay b).waitingFrom = some .off → p.startDelta e = (p.bay b).profile.pUp)
    ∧ (∀ b f, e = .bay b → (p.bay b).power = .waiting → (p.bay b).waitingFrom = some .standby → (p.bay b).inUse = some f →
      p.startDelta e = ((p.bay b).profile.pUp : Int) - f.pStby)
    ∧ (p.admits = true ↔ p.committedDraw ≤ p.bEff ∧ p.startDelta e ≤ (p.bEff : Int) - p.committedDraw)
    ∧ (p.admits = true →
      (∀ b, e = .bay b → (p.bay b).power = .waiting ∧ (p.bay b).waitingFrom.isSome = true) →
      (e = .sp → p.power.spRail = false) →
      p.admitHead.power.startQueue = rest ∧ p.admitHead.bEff = p.bEff ∧ p.admitHead.committedDraw ≤ p.bEff))
  ∧ ∀ s : State, s.part.held = false → s.part.admits = false → Gives .startAdmission s { s.part with out := [] }

/-- R60, R61, R70: a READY bay with its link LOCKED and nothing in flight issues HEALTH READ where one is pending, else
takes the head of its queue in flight with the drive command of its kind, eight sectors a block; in READ_ONLY boot mode a
WRITE at the head ends BAY_FAULT with no command. That the pending flag is cleared at the issue is deduced (log entry 27). -/
def Obligations.BayIssuesNext : Prop :=
  ∀ (b : Fin 4) (s : State), s.part.held = false → (s.part.bay b).power = .ready → (s.part.bay b).link = .locked →
    (s.part.bay b).inFlight = .nothing →
    let x := s.part.bay b
    let p : Part := { s.part with out := [] }
    (x.healthPending = true → Gives (.bayOpIssue b) s { p with
      bays := p.bays.set b { x with healthPending := false, inFlight := .healthRead }, out := [.drive b .healthRead] })
    ∧ (x.healthPending = false → ∀ o rest, x.queue = o :: rest →
      (¬(s.part.loader.mode = .readOnly ∧ o.kind = .write) → Gives (.bayOpIssue b) s { p with
        bays := p.bays.set b { x with queue := rest, inFlight := .op o }
        out := [.drive b (match o.kind with
          | .read => .readBlocks (8 * o.block) (8 * o.count)
          | .write => .writeBlocks (8 * o.block) (8 * o.count) (readSlots p.router.data o.slots)
          | .flush => .flushCache)] })
      ∧ (s.part.loader.mode = .readOnly → o.kind = .write → Gives (.bayOpIssue b) s
        (({ p with bays := p.bays.set b { x with queue := rest } } : Part).reportResult .bayFault none o)))
    ∧ (x.healthPending = false → x.queue = [] → Gives (.bayOpIssue b) s p)

/-- R61, R64, R85: what the drive's answer to an operation does to the bay, its fault record, its idle counter and the slots;
the result goes to the operation's parent. That data of another length than the slots' fills what it reaches, the bytes beyond
discarded, is deduced (log entry 20), and so is that any answer clears timeout run (log entry 19). -/
def Obligations.DriveAnswered : Prop :=
  ∀ (b : Fin 4) (o : BayOp) (s : State), s.part.held = false → (s.part.bay b).power = .ready →
    (s.part.bay b).link = .locked → (s.part.bay b).inFlight = .op o →
    let x := s.part.bay b
    let p : Part := { s.part with out := [] }
    let y : Bay := { x with
      inFlight := .nothing, timeoutRun := false, idle := if classOf o.origin ∈ x.profile.mask then 0 else x.idle }
    let err (k : ErrorKind) (block : Option Nat) (z : Bay) : Bay := { z with
      errorCount := if x.errorCount < 255 then x.errorCount + 1 else x.errorCount
      firstError := if x.firstError.isSome then x.firstError
        else some { kind := k, block := block, time := s.part.clock.counter } }
    (∀ data, Gives (.driveAnswer b (.done data)) s
      (({ p with
        bays := p.bays.set b y
        router := { p.router with
          data := if o.kind = .read then writeStream o.slots p.router.data 0 data else p.router.data } } : Part).reportResult
        .ok none o))
    ∧ (∀ sector, o.kind ≠ .flush → Gives (.driveAnswer b (.mediaError sector)) s
      (({ p with bays := p.bays.set b (err .media (some (sector / 8)) y) } : Part).reportResult .media (some (sector / 8)) o))
    ∧ (∀ sector, o.kind = .flush → Gives (.driveAnswer b (.mediaError sector)) s
      (let q : Part := { p with bays := p.bays.set b (err .media (some (sector / 8)) y) }
       q.reportResult .media (q.failingBlock o (sector / 8)) o))
    ∧ (o.reissue = false → Gives (.driveAnswer b .abort) s
      { p with
        bays := p.bays.set b { x with timeoutRun := false, inFlight := .op { o with reissue := true } }
        out := [.drive b (p.driveCmdOf o)] })
    ∧ (o.reissue = true → Gives (.driveAnswer b .abort) s
      (({ p with bays := p.bays.set b (err .timeout none y) } : Part).reportResult .timeout none o))

/-- R39, R41: the result of an operation of a request on a window that is not MIRROR is its fragment's result, and a MEDIA
result keeps the lower failing offset, its bay block mapped back by R24. A request whose last result is in has come to leave
AT_BAYS, and of several the first that came to it leaves first: a READ with one of the three statuses of success passes to
DATA_OUT, a DP READ joining the send list, and any other request is COMPLETE. A completed request leaves nothing behind: its
slots are free, its record and its places on the lists are gone, its port's count and its window's in-flight count are one
lower, and its completion, with its tag, its status and the failing offset of a MEDIA status alone, joins its port; it is
discarded where the PP's set-up is UNSET or the DP is DETACHED (R181, R185). The offset of a block outside the member's extent
is a free value (log entry 34); the list of the ended is the model's own (log entry 53). -/
def Obligations.RequestEndsWithItsResults : Prop :=
  (∀ (p : Part) (r : Request) (k : Nat) (f : Fragment) (o : BayOp) (res : Status) (block : Option Nat),
     o.parent = .request r.id k → p.request? r.id = some r → r.frags[k]? = some f →
     (p.window r.window).layout ≠ .mirror →
     let v := p.window r.window
     let at_ : Option Nat := if res = .media then block.map (fun n =>
       if (v.member f.member).base ≤ n ∧ n < (v.member f.member).base + v.extentLen then reverseMap v f.member n
       else Config.strayOffset n) else none
     p.reportResult res block o = (p.modRequest r.id fun x => { x with
       frags := if k < x.frags.length then x.frags.set k { (x.frags[k]?).getD {} with result := some res } else x.frags
       failing := match at_ with | none => x.failing | some n => lowerOffset x.failing n }).markEnded)
  ∧ (∀ p : Part,
       let done (r : Request) : Bool := (r.life == .atBays || r.life == .routing) && r.routed
         && r.frags.all (fun f => f.result.isSome) && r.waits.isEmpty && r.second.isEmpty
       p.markEnded = { p with router := { p.router with ended := p.router.ended
         ++ ((p.router.requests.filter fun r => done r && !p.router.ended.contains r.id).map fun r => r.id) } }
       ∧ ∀ (id : Nat) (rest : List Nat), p.router.ended = id :: rest →
         let q : Part := { p with router := { p.router with ended := rest } }
         (∀ r, p.request? id = some r → done r = true → p.advanceRequests = some (q.leaveBays r))
         ∧ ((∀ r, p.request? id = some r → done r = false) → p.advanceRequests = some q))
  ∧ (∀ (p : Part) (r : Request),
       let q := (p.gathered r).1
       let st := (p.gathered r).2
       (r.gather = .worst → q = p ∧ st = worst (r.frags.map (fun f => f.result.getD .ok) ++ r.notes))
       ∧ ((r.kind ≠ .read ∨ st ∉ [Status.ok, .okRecovered, .okDegraded]) → p.leaveBays r = q.complete r st)
       ∧ (r.kind = .read → st ∈ [Status.ok, .okRecovered, .okDegraded] →
         let q1 := q.modRequest r.id fun x => { x with life := .dataOut, outcome := some st }
         (r.port = .pp → p.leaveBays r = q1)
         ∧ (r.port = .dp → p.leaveBays r = { q1 with dp := { q1.dp with sendList := q1.dp.sendList ++ [.readData r.id] } })))
  ∧ (∀ (p : Part) (r : Request) (st : Status),
       let c := requestCompletion r.tag st (if st = .media then r.failing.getD 0 else 0)
       let v := p.window r.window
       let gone : Part := { p with
         router := { p.router with
           requests := p.router.requests.filter fun x => x.id != r.id
           slotWait := p.router.slotWait.filter fun e => e.who != .request r.id
           pool := p.router.pool.map fun h => if h = .request r.id then .free else h
           ended := p.router.ended.filter fun x => x != r.id
           ppCount := if r.port = .pp then p.router.ppCount - 1 else p.router.ppCount
           dpCount := if r.port = .dp then p.router.dpCount - 1 else p.router.dpCount }
         bays := p.bays.map fun x => { x with roomWait := x.roomWait.filter fun y => y != .request r.id }
         windows := p.windows.set r.window { v with inFlight := v.inFlight - 1 } }
       (r.port = .pp → p.pp.setup ≠ .unset → p.complete r st = listed gone c)
       ∧ (r.port = .pp → p.pp.setup = .unset → p.complete r st = gone)
       ∧ (r.port = .dp → p.dp.attached = true → p.complete r st = queuedUp gone c)
       ∧ (r.port = .dp → p.dp.attached = false → p.complete r st = gone))

/-- R55, R62, R63, R65: what brings a bay to FAULT, and what FAULT leaves: the error recorded, rail off, link DOWN, nothing
queued or in flight, every flag of the bay clear, its operations ended BAY_FAULT in order, its held query and stops answered
BAY_FAULT, and BAY_FAULT raised.

R62: the first expiry of a command's limit ends an operation TIMEOUT, records the error, sets timeout run and begins to
retrain the link; a GO STANDBY in flight stays to be issued again; a HEALTH READ in flight is abandoned at either expiry, its
query answered TIMEOUT. That START_TIMEOUT and RETRAIN_ATTEMPT_END say of themselves that the time has passed is the model's
choice (log entry 3), and so is that several held stops are answered in the order in which they were taken (log entry 58); that
the held query's answers TIMEOUT and BAY_FAULT carry nothing is deduced (log entry 31). -/
def Obligations.BayFaultsAndTimeouts : Prop :=
  (∀ (b : Fin 4) (s : State), s.part.held = false →
     let x := s.part.bay b
     let p : Part := { s.part with out := [] }
     let faulted (k : ErrorKind) (q : Part) : Part := bayFaulted q b k
     (x.power = .starting → Gives (.startTimeout b) s (faulted .start p))
     ∧ (x.power = .ready ∨ x.power = .stopping →
       (x.link = .training → x.retrain = 3 → Gives (.retrainAttemptEnd b) s (faulted .link p))
       ∧ (x.link = .training → x.retrain < 3 → Gives (.retrainAttemptEnd b) s
         { p with bays := p.bays.set b { x with retrain := x.retrain + 1 } })
       ∧ (x.link = .locked → x.inFlight ≠ .nothing → x.inFlight ≠ .healthRead → x.timeoutRun = true →
         Gives (.commandTimeout b) s (faulted .timeout p))
       ∧ (x.link = .locked → x.inFlight = .healthRead → x.timeoutRun = true →
         let q : Part := { p with bays := p.bays.set b { x with inFlight := .nothing, queryHeld := false } }
         Gives (.commandTimeout b) s (faulted .timeout (if x.queryHeld = true then q.reply .mp .timeout else q)))))
  ∧ (∀ (b : Fin 4) (s : State), s.part.held = false → (s.part.bay b).link = .locked →
       ((s.part.bay b).power = .ready ∨ (s.part.bay b).power = .stopping) → (s.part.bay b).timeoutRun = false →
       let p : Part := { s.part with out := [] }
       let after (q : Part) : Part :=
         let z := q.bay b
         { q with bays := q.bays.set b { z with
             errorCount := if z.errorCount < 255 then z.errorCount + 1 else z.errorCount
             firstError := if z.firstError.isSome then z.firstError
               else some { kind := .timeout, block := none, time := q.clock.counter }
             timeoutRun := true, link := .training, retrain := z.retrain + 1 } }
       (∀ o, (s.part.bay b).inFlight = .op o → Gives (.commandTimeout b) s
         (after (({ p with bays := p.bays.set b { s.part.bay b with inFlight := .nothing } } : Part).reportResult .timeout none o)))
       ∧ ((s.part.bay b).inFlight = .goStandby → Gives (.commandTimeout b) s (after p))
       ∧ ((s.part.bay b).inFlight = .healthRead → (s.part.bay b).queryHeld = true → Gives (.commandTimeout b) s
         (after (({ p with bays := p.bays.set b { s.part.bay b with inFlight := .nothing, queryHeld := false } } : Part).reply
           .mp .timeout))))

/-- R54, R56, R59, R63: what the loss of a link does in each power state, and what the link's return does: an operation in
flight is issued again with its mark set or ends TIMEOUT where the mark was set, a GO STANDBY or HEALTH READ is issued again, a
stop that waited for the link is issued, and a start from STANDBY issues SPIN UP. That a link lost in STANDBY clears start
after stop (log entry 40) and that a TIMEOUT at the link's return leaves timeout run (log entry 41) are the model's choices. -/
def Obligations.LinkLostAndLocked : Prop :=
  ∀ (b : Fin 4) (s : State), s.part.held = false →
    let x := s.part.bay b
    let p : Part := { s.part with out := [] }
    let put (y : Bay) (l : List DriveCmd) : Part := { p with bays := p.bays.set b y, out := l.map (Output.drive b) }
    (x.link = .locked →
      (x.power = .ready ∨ x.power = .stopping →
        Gives (.linkLoss b) s (put { x with link := .training, retrain := x.retrain + 1 } []))
      ∧ (x.power = .starting → Gives (.linkLoss b) s (put { x with link := .training, inFlight := .nothing } []))
      ∧ (x.power = .standby →
        let q := put { x with power := .off, link := .down, startAfterStop := false } []
        Gives (.linkLoss b) s (if x.queue ≠ [] ∨ x.startAfterStop = true then q.requestStart b else q)))
    ∧ (x.link = .training →
      (x.power = .starting → x.startedFrom ≠ some .standby → Gives (.linkLocked b) s (put { x with link := .locked } []))
      ∧ (x.power = .starting → x.startedFrom = some .standby →
        Gives (.linkLocked b) s (put { x with link := .locked, inFlight := .spinUp } [.spinUp]))
      ∧ (x.power = .ready ∨ x.power = .stopping →
        let y : Bay := { x with link := .locked, retrain := 0 }
        (∀ o, x.inFlight = .op o → o.reissue = false →
          Gives (.linkLocked b) s (put { y with inFlight := .op { o with reissue := true } } [p.driveCmdOf o]))
        ∧ (∀ o, x.inFlight = .op o → o.reissue = true →
          Gives (.linkLocked b) s ((put { y with inFlight := .nothing } []).reportResult .timeout none o))
        ∧ (x.inFlight = .goStandby → Gives (.linkLocked b) s (put y [.goStandby]))
        ∧ (x.inFlight = .healthRead → Gives (.linkLocked b) s (put y [.healthRead]))
        ∧ (x.inFlight = .nothing → Gives (.linkLocked b) s
          (if x.power = .stopping then put { y with inFlight := .goStandby } [.goStandby] else put y []))))

/-- R53, R54: the bring-up of a STARTING bay: the settling wait ends in TRAINING, a training that times out begins again, the
ready report issues IDENTIFY, its answer records the identity in whole blocks and, once the members are judged by R17, makes the
bay READY; SPIN UP answered DONE makes it READY with its identity kept; other answers are issued again. That an answer DONE
clears timeout run is deduced (log entry 19).

R17, R18: the members on the bay of each window in use are judged in window and member order: a bound one is foreign unless its
serial is the drive's and its extent fits, an unbound one that fits is bound; a MIRROR member left foreign is marked LOST, or its
rebuild abandoned where it is the LOST one. R53 step 7: the queued operations of a member left foreign end MEMBER_FOREIGN in
order. R110: a bay that enters READY starts the rebuild of a LOST member it holds that is not foreign, and the engine seeks its
next job. -/
def Obligations.BayComesUp : Prop :=
  (∀ (b : Fin 4) (s : State), s.part.held = false → (s.part.bay b).power = .starting →
    let x := s.part.bay b
    let p : Part := { s.part with out := [] }
    let put (y : Bay) (l : List DriveCmd) : Part := { p with bays := p.bays.set b y, out := l.map (Output.drive b) }
    let ready (q : Part) : Part := (q.modBay b fun y => { y with
      power := .ready, startedFrom := none, startLeft := none, idle := 0 }).bayEntersReady b
    (x.startedFrom = some .off → x.link = .down → Gives (.supplySettleEnd b) s (put { x with link := .training } []))
    ∧ (x.link = .training → Gives (.bringupTrainingTimeout b) s p)
    ∧ (x.startedFrom = some .off → x.link = .locked → x.inFlight = .nothing →
      Gives (.driveReadyReport b) s (put { x with inFlight := .identify } [.identify]))
    ∧ (x.link = .locked → x.inFlight = .identify →
      (∀ sectors serial,
        let i : Identity := { capacity := if sectors / 8 < 2 ^ 40 then sectors / 8 else 2 ^ 40 - 1, serial := serial }
        Gives (.identifyAnswer b (.done sectors serial)) s
          (ready (((put { x with identity := some i, inFlight := .nothing, timeoutRun := false } []).foreignCheck b
            i).removeForeign b)))
      ∧ ∀ a, (a = .mediaError ∨ a = .abort) → Gives (.identifyAnswer b a) s (put x [.identify]))
    ∧ (x.link = .locked → x.inFlight = .spinUp →
      Gives (.spinUpAnswer b .done) s (ready (put { x with inFlight := .nothing, timeoutRun := false } []))
      ∧ ∀ a, (a = .mediaError ∨ a = .abort) → Gives (.spinUpAnswer b a) s (put x [.spinUp])))
  ∧ (∀ (p : Part) (b : Fin 4) (i : Identity),
       p.foreignCheck b i = allWindows.foldl (fun q w => if (q.window w).st = .free then q else
         (List.range (q.window w).members.length).foldl (fun q k =>
           if ((q.window w).member k).bay = b then q.judge w k i else q) q) p)
  ∧ (∀ (p : Part) (w : Fin 16) (k : Nat) (i : Identity),
       let v := p.window w
       let m := v.member k
       let fit : Prop := (v.layout = .whole → m.base = 0 ∧ v.length = i.capacity)
         ∧ (v.layout ≠ .whole → m.base + v.extentLen ≤ i.capacity)
       let becomes (m' : Member) : Part := { p with windows := p.windows.set w { v with members := v.members.set k m' } }
       let foreign : Part := becomes { m with isForeign := true }
       (m.serial = some i.serial → fit → p.judge w k i = becomes { m with isForeign := false })
       ∧ (m.serial = none → fit → p.judge w k i = becomes { m with serial := some i.serial, isForeign := false })
       ∧ ((∃ t, m.serial = some t ∧ t ≠ i.serial) ∨ ¬fit →
         (v.layout ≠ .mirror → p.judge w k i = foreign)
         ∧ (v.layout = .mirror →
           (v.lost = none → p.judge w k i = foreign.markLost w (sideOf k))
           ∧ (v.lost = some (sideOf k) → p.judge w k i = rebuildAbandoned foreign w)
           ∧ (v.lost = some (otherSide (sideOf k)) → p.judge w k i = foreign))))
  ∧ ∀ (p : Part) (b : Fin 4),
    let foreign (o : BayOp) : Bool := match o.parent with
      | .request id k => ((p.request? id).map fun r =>
          ((p.window r.window).member ((r.frags[k]?).getD {}).member).isForeign).getD false
      | .chunk x => (p.engine.chunk.map fun c => ((p.window c.window).copy x).isForeign).getD false
    p.removeForeign b = ((p.bay b).queue.filter foreign).foldl (fun q o => q.reportResult .memberForeign none o)
        { p with bays := p.bays.set b { p.bay b with queue := (p.bay b).queue.filter fun o => !foreign o } }
    ∧ p.bayEntersReady b = { p with
        windows := Vector.ofFn fun w =>
          let v := p.window w
          if v.st = .opened ∧ v.cursor = none ∧ p.loader.mode ≠ .readOnly
              ∧ (v.lost.any fun x => (v.copy x).bay == b && !(v.copy x).isForeign) = true
            then { v with cursor := some 0, rebuildChunk := 0 } else v
        engine := { p.engine with seek := true } }

/-- R56, R57, R58, R86, R87: an idle expiry stops a quiet READY bay, and powers off a STANDBY bay that may be powered off; GO
STANDBY answered DONE makes the bay STANDBY with its stops answered OK and a start requested where work or a start waits; any
other answer returns it to READY with its stops answered BUSY. That either answer clears timeout run is deduced (log entry
19); that several stops are answered in the order in which they were taken is the model's choice (log entry 58). -/
def Obligations.BayStopsWhenIdle : Prop :=
  ∀ (b : Fin 4) (s : State), s.part.held = false →
    let x := s.part.bay b
    let p : Part := { s.part with out := [] }
    (x.quiet = true → x.profile.idleStandby ≠ 0 → x.profile.idleStandby ≤ x.idle →
      let q := ({ p with bays := p.bays.set b { x with power := .stopping } } : Part).bayLeavesReady b
      (x.link ≠ .locked → Gives (.idleStandbyExpiry b) s q)
      ∧ (x.link = .locked → Gives (.idleStandbyExpiry b) s
        ((q.modBay b fun y => { y with inFlight := .goStandby }).emit (.drive b .goStandby))))
    ∧ (x.power = .standby → x.profile.mayPowerOff = true → x.profile.idleOff ≠ 0 → x.profile.idleOff ≤ x.idle →
      Gives (.idleOffExpiry b) s { p with bays := p.bays.set b { x with power := .off, link := .down } })
    ∧ (x.power = .stopping → x.link = .locked → x.inFlight = .goStandby →
      (let q := x.stopFor.foldl (fun r a => r.reply a .ok) ({ p with bays := p.bays.set b { x with
          power := .standby, inFlight := .nothing, startAfterStop := false, timeoutRun := false, idle := 0
          stopFor := [] } } : Part)
       Gives (.goStandbyAnswer b .done) s (if x.queue ≠ [] ∨ x.startAfterStop = true then q.requestStart b else q))
      ∧ ∀ a, (a = .mediaError ∨ a = .abort) → Gives (.goStandbyAnswer b a) s
        ((({ p with bays := p.bays.set b { x with
            power := .ready, inFlight := .nothing, startAfterStop := false, timeoutRun := false, startedFrom := none
            startLeft := none, idle := 0 } } : Part).bayEntersReady b).answerStops b .busy))

/-- R48, R49: a presence line taken as asserted makes an ABSENT bay present and OFF with BAY_PRESENCE raised; taken as
released, it makes a bay ABSENT: its start entry, identity, health, queue and flags gone, its operations ended BAY_ABSENT in
order, its held commands answered BAY_ABSENT. That a held query's answer carries nothing is deduced (log entry 31); that several
held stops are answered in the order in which they were taken is the model's choice (log entry 58). -/
def Obligations.PresenceChanges : Prop :=
  ∀ (b : Fin 4) (s : State), s.part.held = false →
    let x := s.part.bay b
    let p : Part := { s.part with out := [] }
    (x.present = false → Gives (.bayPresenceAssert b) s
      (({ p with bays := p.bays.set b { x with
          present := true, power := .off, link := .down, identity := none, health := none, queue := [] } } : Part).raise
        .bayPresence))
    ∧ (x.present = true →
      let y : Bay := { x with
        present := false, power := .absent, identity := none, health := none, waitingFrom := none, startedFrom := none
        startLeft := none, startAfterStop := false, link := .down, retrain := 0, timeoutRun := false, queue := []
        inFlight := .nothing, healthPending := false }
      let q : Part := { p with
        bays := p.bays.set b y
        power := { p.power with startQueue := p.power.startQueue.filter fun e => e != .bay b } }
      let q1 := if x.power = .ready then q.bayLeavesReady b else q
      let q2 := ((Part.bayOps x).foldl (fun r o => r.reportResult .bayAbsent none o) q1).targetGone b
      Gives (.bayPresenceRelease b) s
        (((q2.answerQuery b .bayAbsent .nothing).answerStops b .bayAbsent).raise .bayPresence))

/-! ## Power figures, patrol settings and the supply -/

/-- R73, R77: BUDGET_SET and PROFILE_SET record their figures where every check passes, an idle figure of 1 to 59 as 60, and
are answered OUT_OF_RANGE (BAD_REQUEST for a bay number above 3) where one fails.

R71, R72, R79: the low-supply input's changes move the budget in force, an assertion raising LOW_SUPPLY; T_sp ends with the
SP's draw at S_run. That T_SP_END says of itself that the time has passed is the model's choice (log entry 3). -/
def Obligations.PowerFiguresAndSupply : Prop :=
  (∀ (via : Via) (s : State),
     (∀ b l : Nat, Taken via .budgetSet s.part →
       let p := portTook s.part (some .budgetSet) via
       let ok : Prop := 100 ≤ b ∧ b ≤ 4000 ∧ 100 ≤ l ∧ l ≤ 4000 ∧ p.power.spProfile.sUp ≤ min b l
         ∧ ∀ k : Fin 4, (p.bay k).profile.pUp ≤ min b l
       (ok → Gives (.budgetSet via b l) s
         (({ p with power := { p.power with budget := b, bLow := l } } : Part).reply (answererOf via) .ok))
       ∧ (¬ok → Gives (.budgetSet via b l) s (p.reply (answererOf via) .outOfRange)))
     ∧ (Taken via .profileSet s.part →
       let p := portTook s.part (some .profileSet) via
       let who := answererOf via
       let limit := min s.part.power.budget s.part.power.bLow
       let recorded (n : Nat) : Nat := if 1 ≤ n ∧ n ≤ 59 then 60 else n
       (∀ (n : Nat) (x : BayProfile), 4 ≤ n → Gives (.profileSet via (.bay n x)) s (p.reply who .badRequest))
       ∧ (∀ (b : Fin 4) (x : BayProfile),
         let ok : Prop := x.pUp ≤ 600 ∧ x.pRun ≤ 300 ∧ x.pStby ≤ 100 ∧ 5 ≤ x.tStart ∧ x.tStart ≤ 60
           ∧ x.idleStandby ≤ 65535 ∧ x.idleOff ≤ 65535 ∧ x.pStby ≤ x.pRun ∧ x.pRun ≤ x.pUp ∧ x.pUp ≤ limit
         (ok → Gives (.profileSet via (.bay b.val x)) s
           (({ p with bays := p.bays.set b { p.bay b with profile := { x with
               idleStandby := recorded x.idleStandby, idleOff := recorded x.idleOff } } } : Part).reply who .ok))
         ∧ (¬ok → Gives (.profileSet via (.bay b.val x)) s (p.reply who .outOfRange)))
       ∧ ∀ x : SpProfile,
         let ok : Prop := x.sUp ≤ 600 ∧ x.sRun ≤ 600 ∧ 1 ≤ x.tSp ∧ x.tSp ≤ 30 ∧ x.sRun ≤ x.sUp ∧ x.sUp ≤ limit
         (ok → Gives (.profileSet via (.sp x)) s
           (({ p with power := { p.power with spProfile := x } } : Part).reply who .ok))
         ∧ (¬ok → Gives (.profileSet via (.sp x)) s (p.reply who .outOfRange))))
  ∧ (∀ s : State, s.part.held = false →
       let p : Part := { s.part with out := [] }
       (s.part.power.lowAsserted = false →
         let q : Part := { p with power := { p.power with lowAsserted := true } }
         Gives .lowSupplyAssert s (q.raise .lowSupply) ∧ (q.raise .lowSupply).bEff = s.part.power.bLow)
       ∧ (s.part.power.lowAsserted = true →
         let q : Part := { p with power := { p.power with lowAsserted := false } }
         Gives .lowSupplyRelease s q ∧ q.bEff = s.part.power.budget)
       ∧ (s.part.power.spRail = true → s.part.power.tSpLeft.isSome = true →
         let q : Part := { p with power := { p.power with tSpLeft := none } }
         Gives .tSpEnd s q ∧ ∀ f, s.part.power.spInUse = some f → spDraw q.power = f.sRun))

/-- R115, R116: PATROL_SET records the interval, at most 3600, and applies its flags, or is answered by the first check that
fails; a compare chunk that falls due sets the timer to 0 and the due flag, the engine seeking where the flag was clear.
That PATROL_DUE says of itself that the interval has passed is the model's choice (log entry 3), and so is that the primary's bay
is asked ahead of the secondary's (log entry 45).

R120, R122 to R125: a compare chunk is done when both its READs have ended. Where the window is no longer OPEN it just ends;
where a member is LOST it is due again; where its region is logged the cursor moves past the region; else it runs again where
a write asked for it. Else copies that agree advance the cursor, and at the last region end the pass; copies that differ are
counted, logged with the primary good and told of by PATROL_MISMATCH; one unreadable copy is queued for repair, or logged, as
LoggingRegions says; two are counted.

R34, R121, R122: a compare chunk of a window with a LOST member that waits for its slots and has left the slot-wait list ends
within the event: it just ends where the window is not OPEN, and is due again where it is. That it ends so is the model's choice;
one that has kept its entry goes on waiting for its slots (log entry 68). -/
def Obligations.PatrolSetAndDue : Prop :=
  (∀ (p : Part) (c : Chunk) (o : BayOp) (x : Side) (res : Status) (block : Option Nat),
    p.engine.chunk = some c → c.kind = .patrol → c.abandoned = false → o.parent = .chunk x → memWf p.router.data →
    (res = .ok ∨ res = .media) →
    let w := c.window
    let g := c.offset / 4096
    let k := c.offset % 4096 / 64
    let other := if x = .primary then c.resSecondary else c.resPrimary
    let d : Chunk := { c with
      resPrimary := if x = .primary then some (decide (res = .media)) else c.resPrimary
      resSecondary := if x = .secondary then some (decide (res = .media)) else c.resSecondary }
    let q : Part := { p with engine := { p.engine with chunk := some d } }
    let put (r : Part) (f : Window → Window) : Part := { r with windows := r.windows.set w (f (r.window w)) }
    let up (n : Nat) : Nat := if n < 65535 then n + 1 else n
    let patrolled (r : Part) (f : PatrolRecord → PatrolRecord) : Part := put r fun v => { v with patrol := v.patrol.map f }
    let past (r : Part) : Part := if g < ((p.window w).length - 1) / 4096
      then patrolled r fun y => { y with region := g + 1, chunk := 0 }
      else patrolled r fun y => { y with
        passes := up y.passes, lastEnd := some p.clock.counter, region := 0, chunk := 0 }
    let advanced (r : Part) : Part := if k + 1 = 64 ∨ (p.window w).length ≤ g * 4096 + (k + 1) * 64 then past r
      else patrolled r fun y => { y with region := g, chunk := k + 1 }
    let logged (r : Part) (good : Side) : Part := (r.tryLog w [g] good).getD (r.markLost w (otherSide good))
    let gives (r : Part) : Prop := p.reportResult res block o = r
    (other = none → gives q)
    ∧ ∀ y, other = some y →
      let a := if x = .primary then decide (res = .media) else y
      let b := if x = .primary then y else decide (res = .media)
      let v := p.window w
      (v.st ≠ .opened → gives (chunkEnded q))
      ∧ (v.st = .opened → v.lost.isSome = true → gives (chunkEnded (put q fun v => { v with due := true })))
      ∧ (v.st = .opened → v.lost = none →
        ((∃ e ∈ p.engine.log, e.window = w ∧ e.region = g) → gives (chunkEnded (past q)))
        ∧ ((∀ e ∈ p.engine.log, ¬(e.window = w ∧ e.region = g)) →
          (c.again = true → gives { q with engine := { q.engine with chunk := some { d with
            phase := .reading, again := false, resPrimary := none, resSecondary := none, todo := [.primary, .secondary] } } })
          ∧ (c.again = false →
            (a = true → b = true →
              gives (chunkEnded (advanced (put q fun v => { v with unrepairable := up v.unrepairable }))))
            ∧ (∀ z, (z = .primary ∧ a = true ∧ b = false) ∨ (z = .secondary ∧ a = false ∧ b = true) →
              (∀ r, q.tryRepair w z c.offset c.count = some r → gives (chunkEnded (advanced r)))
              ∧ (q.tryRepair w z c.offset c.count = none → gives (chunkEnded (past (logged q (otherSide z))))))
            ∧ (a = false → b = false →
              let same : Prop := ∀ i < c.count, readSlot p.router.data ((c.slots[i]?).getD 0)
                = readSlot p.router.data ((c.slots[64 + i]?).getD 0)
              (same → gives (chunkEnded (advanced q)))
              ∧ (¬same → gives (chunkEnded (past ((logged
                (patrolled q fun y => { y with mismatches := up y.mismatches }) .primary).raise .patrolMismatch)))))))))
  ∧ (∀ (via : Via) (a : PatrolArgs) (s : State), Taken via .patrolSet s.part →
    let p := portTook s.part (some .patrolSet) via
    let who := answererOf via
    let c : Instr := .patrolSet via a
    ((16 ≤ a.index ∨ 65535 < a.interval) → Gives c s (p.reply who .badRequest))
    ∧ ∀ w : Fin 16, a.index = w.val → a.interval ≤ 65535 →
      let v := s.part.window w
      let i := if 3600 < a.interval then 3600 else a.interval
      let q : Part := { p with windows := p.windows.set w { v with
        interval := i, timer := 0, due := decide (v.due = true ∧ i ≠ 0)
        patrol := v.patrol.map fun r => {
          region := if a.restartPass then 0 else r.region, chunk := if a.restartPass then 0 else r.chunk
          passes := if a.clearCounts then 0 else r.passes, mismatches := if a.clearCounts then 0 else r.mismatches
          lastEnd := if a.clearCounts then none else r.lastEnd } } }
      (v.st = .free → Gives c s (p.reply who .noWindow))
      ∧ (v.st = .closing → Gives c s (p.reply who .busy))
      ∧ (v.st = .opened → (v.layout ≠ .mirror ∨ v.patrolAttr = false) → Gives c s (p.reply who .badRequest))
      ∧ (v.st = .opened → v.layout = .mirror → v.patrolAttr = true →
        ((a.restartPass = true → ∀ k, s.part.engine.chunk = some k → ¬(k.window = w ∧ k.kind = .patrol)) →
          Gives c s (q.reply who .ok))
        ∧ (a.restartPass = true → ∀ k, s.part.engine.chunk = some k → k.window = w → k.kind = .patrol →
          Gives c s (q.abandonChunk.reply who .ok))))
  ∧ (∀ (p : Part) (c : Chunk),
    p.engine.chunk = some c → c.kind = .patrol → c.phase = .slotWait → c.abandoned = false →
    let v := p.window c.window
    v.lost.isSome = true →
    ((∃ e ∈ p.router.slotWait, e.who = .engine) → c.todo = [] → p.advanceChunk = none)
    ∧ ((∀ e ∈ p.router.slotWait, e.who ≠ .engine) →
      (v.st ≠ .opened → p.advanceChunk = some (chunkEnded p))
      ∧ (v.st = .opened →
        p.advanceChunk = some (chunkEnded { p with windows := p.windows.set c.window { v with due := true } }))))
  ∧ ∀ (w : Fin 16) (s : State), s.part.held = false →
    let v := s.part.window w
    v.st = .opened → v.patrol.isSome = true → v.interval ≠ 0 →
    let q : Part := { s.part with
      out := []
      windows := s.part.windows.set w { v with timer := 0, due := true }
      engine := { s.part.engine with seek := s.part.engine.seek || !v.due } }
    let wakes : Prop := (∃ r, v.patrol = some r ∧ r.region = 0 ∧ r.chunk = 0) ∧ v.wakesAttr = true ∧ v.lost = none
      ∧ s.part.box.st ≠ some .dormant
    Gives (.patrolDue w) s
      (if wakes then (q.wakeBay (v.copy .primary).bay).wakeBay (v.copy .secondary).bay else q)

/-! ## Box power states -/

/-- R131, R132: SLEEP through the PP moves a RUN box to DRAINING with its target and its tag kept and its resume record
cleared, or is answered by the first check that fails; the drain ends, with SLEEP completed OK and GRACE begun, when no PP
request is outstanding; and the grace count begins when the completion has been written.

R140: RESUME in WAKING with the SP rail on is answered OK with the resume record and makes the box RUN, its receiver off and its
path the SP's, the count, the cycle mark and the no-resume condition cleared; in any other box state it is answered
WRONG_STATE. -/
def Obligations.SleepAndResume : Prop :=
  ((∀ (tag : Tag) (addr len : Nat) (t : Option SleepTarget) (s : State), Taken (.pp tag addr len) .sleep s.part →
     let p := portTook s.part (some .sleep) (.pp tag addr len)
     let c : Instr := .sleep (.pp tag addr len) t
     let who : Answerer := .pp tag addr len
     (t = none → Gives c s (p.reply who .badRequest))
     ∧ (t.isSome → s.part.box.st ≠ some .run → Gives c s (p.reply who .wrongState))
     ∧ (t = some .dormant → s.part.dp.attached = true → Gives c s (p.reply who .wrongState))
     ∧ (t.isSome → s.part.box.st = some .run → ¬(t = some .dormant ∧ s.part.dp.attached = true) →
       Gives c s { p with box := { p.box with
         st := some .draining, phase := some .drain, target := t, pendingSleep := some tag
         resume := { reasons := [], further := 0, entryTime := none } } }))
   ∧ ∀ s : State, s.part.held = false →
     let p : Part := { s.part with out := [] }
     (∀ tag, s.part.box.st = some .draining → s.part.box.phase = some .drain → s.part.router.ppCount = 0 →
       s.part.box.pendingSleep = some tag → s.part.pp.setup ≠ .unset →
       Gives .drainEnd s { p with
         box := { p.box with phase := some .grace, pendingSleep := none, grace := none }
         pp := { p.pp with list := p.pp.list ++ [{ tag := tag, status := .ok, result := leBytes 8 0, isSleep := true }] } })
     ∧ (s.part.box.st = some .draining → s.part.box.phase = some .grace → s.part.box.grace = none →
       (∀ c ∈ s.part.pp.list, c.isSleep = false) →
       Gives .sleepCompletionWritten s { p with box := { p.box with grace := some p.box.settings.grace } }))
  ∧ (∀ (tag : Tag) (addr len : Nat) (s : State), Taken (.pp tag addr len) .resume s.part →
       let p := portTook s.part (some .resume) (.pp tag addr len)
       let who : Answerer := .pp tag addr len
       (s.part.box.st = some .waking → s.part.power.spRail = true →
         Gives (.resume (.pp tag addr len)) s
           (({ p with box := { p.box with
               st := some .run, rxOn := false, phyPath := .sp, resumeCount := none, cycled := false
               noResume := false } } : Part).answer who .ok (.resume s.part.box.resume)))
       ∧ (¬(s.part.box.st = some .waking ∧ s.part.power.spRail = true) →
         Gives (.resume (.pp tag addr len)) s (p.reply who .wrongState)))

/-- R90, R134, R141: where the SP rail goes off: at the end of grace, the box then entering WAKING where it holds a reason, else
SLEEP for that target or with the DP attached, else DORMANT; at the first expiry of the resume limit, the SP entry then at the
head of the start queue; at the second, the box then in SLEEP with the no-resume condition set and SP_NO_RESUME raised. That
GRACE_END and RESUME_LIMIT_EXPIRY say of themselves that the time has passed is the model's choice (log entry 3), and so is
that, at an end of grace that goes on to WAKING and at that first expiry, the SP entry stands in the queue before the admission
test that the rail's switching off brings (log entry 42).

R90, R181: a rail switched off ends the SP's draw and T_sp and resets the processor port; nothing where it is off. R135, R136,
R139: what the box enters SLEEP, DORMANT and WAKING with; in DORMANT each bay, in number order, is powered off where it is in
STANDBY and stopped where it is quiet. R88: in DORMANT, where no consequence is due, no bay is quiet and none is in STANDBY.
That an order of DORMANT does not stop short a chunk in progress on the bay it stops is the model's choice (log entry 49). -/
def Obligations.SpRailGoesOff : Prop :=
  (∀ s : State, s.part.held = false →
    let p : Part := { s.part with out := [] }
    (s.part.box.st = some .draining → s.part.box.phase = some .grace → s.part.box.grace.isSome = true →
      Gives .graceEnd s p.graceEnds)
    ∧ (s.part.box.st = some .waking → s.part.power.spRail = true → s.part.box.resumeCount.isSome = true →
      Gives .resumeLimitExpiry s p.resumeExpires))
  ∧ (∀ p : Part,
    let off := p.spRailOff
    let rest : Part := { off with
      box := { off.box with phase := none, target := none, grace := none
                            resume := { off.box.resume with entryTime := some p.clock.counter } }
      matcher := { off.matcher with held := [] } }
    p.graceEnds = (if p.box.resume.reasons ≠ [] then rest.enterWaking
      else if p.box.target = some .sleep ∨ p.dp.attached = true then rest.enterSleep else rest.enterDormant)
    ∧ (p.box.cycled = false → p.resumeExpires = { off with
      box := { off.box with resumeCount := none, cycled := true }
      power := { off.power with startQueue := .sp :: off.power.startQueue.filter fun e => e != .sp } })
    ∧ (p.box.cycled = true → p.resumeExpires
      = (({ off with box := { off.box with resumeCount := none, noResume := true } } : Part).raise .spNoResume).enterSleep))
  ∧ (∀ (p : Part) (b : Fin 4),
    let x := p.bay b
    let set (y : Bay) : Part := { p with bays := p.bays.set b y }
    p.orderBay b = (if x.power = .standby then set { x with power := .off, link := .down }
      else if x.quiet = true then
        let r := (set { x with power := .stopping }).bayLeavesForDormant b
        if x.link = .locked then (r.modBay b fun y => { y with inFlight := .goStandby }).emit (.drive b .goStandby) else r
      else p))
  ∧ (∀ p : Part, p.settled = true → p.box.st = some .dormant → ∀ b, (p.bay b).quiet = false ∧ (p.bay b).power ≠ .standby)
  ∧ ∀ p : Part,
    let path : PhyPath := if p.loader.mode = .service then .sp else .standby
    let leavesDormant : Bool := p.engine.seek || decide (p.box.st = some .dormant)
    (p.power.spRail = false → p.spRailOff = p)
    ∧ (p.power.spRail = true → p.spRailOff
      = portReset { p with power := { p.power with spRail := false, spInUse := none, tSpLeft := none } })
    ∧ p.enterSleep = { p with
        box := { p.box with
          st := some .sleep, phyPowered := true, phyPath := path, rxOn := decide (p.loader.mode ≠ .service)
          resume := {
            reasons := [], further := 0
            entryTime := if p.box.st = some .dormant then p.box.resume.entryTime else some p.clock.counter } }
        matcher := { p.matcher with held := [] }
        engine := { p.engine with seek := leavesDormant } }
    ∧ p.enterWaking = { p with
        box := { p.box with
          st := some .waking, phyPowered := true, phyPath := path, rxOn := decide (p.loader.mode ≠ .service)
          resumeCount := none, cycled := false }
        power := { p.power with startQueue := .sp :: p.power.startQueue.filter fun e => e != .sp }
        engine := { p.engine with seek := leavesDormant } }
    ∧ p.enterDormant = [(0 : Fin 4), 1, 2, 3].foldl (fun (q : Part) (b : Fin 4) => q.orderBay b)
      { p with
        box := { p.box with
          st := some .dormant, rxOn := false
          phyPath := if p.loader.mode = .service then p.box.phyPath else .standby
          phyPowered := if p.loader.mode = .service then p.box.phyPowered else false
          resume := { reasons := [], further := 0, entryTime := some p.clock.counter } }
        matcher := { p.matcher with held := [] } }

/-- R133, R134, R137, R138, R139: what a wake event does in each box state: nothing in RUN; in the DRAIN phase its reason is
added, SLEEP completed WOKEN and the box RUN; in GRACE and WAKING its reason is added; in SLEEP and DORMANT its reason is added
and the box is WAKING with the SP entry at the head of the start queue. -/
def Obligations.WakeEventByState : Prop :=
  ∀ (p : Part) (k : ReasonKind),
    let r := p.box.resume
    let added : ResumeRecord := if r.reasons.length < 8
      then { r with reasons := r.reasons ++ [{ kind := k, time := p.clock.counter }] }
      else { r with further := if r.further < 255 then r.further + 1 else r.further }
    let q : Part := { p with box := { p.box with resume := added } }
    (p.box.st = some .run → p.wakeEvent k = p)
    ∧ (p.box.st = some .waking → p.wakeEvent k = q)
    ∧ (p.box.st = some .draining → p.box.phase = some .grace → p.wakeEvent k = q)
    ∧ (∀ tag, p.box.st = some .draining → p.box.phase = some .drain → p.box.pendingSleep = some tag → p.pp.setup ≠ .unset →
      p.wakeEvent k = { q with
        box := { q.box with st := some .run, phase := none, target := none, pendingSleep := none }
        pp := { p.pp with list := p.pp.list ++ [{ tag := tag, status := .woken, result := leBytes 8 0 }] } })
    ∧ (p.box.st = some .sleep ∨ p.box.st = some .dormant →
      p.wakeEvent k = { q with
        box := { q.box with
          st := some .waking, phyPowered := true, phyPath := if p.loader.mode = .service then .sp else .standby
          rxOn := decide (p.loader.mode ≠ .service), resumeCount := none, cycled := false }
        power := { p.power with startQueue := .sp :: p.power.startQueue.filter fun e => e != .sp }
        engine := { p.engine with seek := p.engine.seek || decide (p.box.st = some .dormant) } })

/-- R142, R143: BOX_WAKE is a wake event of kind SC; FORCE_DORMANT and a long press make the forced stop, FORCE_DORMANT refused
WRONG_STATE while the DP is attached; a short press raises BUTTON in RUN and is a wake event elsewhere. -/
def Obligations.ButtonAndForcedStops : Prop :=
  (∀ (seq : Byte) (s : State), s.part.box.st.isSome = true →
    (Taken (.mp seq) .boxWake s.part →
      let p := portTook s.part (some .boxWake) (.mp seq)
      Gives (.boxWake (.mp seq)) s ((p.wakeEvent .sc).reply .mp .ok))
    ∧ (Taken (.mp seq) .forceDormant s.part →
      let p := portTook s.part (some .forceDormant) (.mp seq)
      (s.part.dp.attached = true → Gives (.forceDormant (.mp seq)) s (p.reply .mp .wrongState))
      ∧ (s.part.dp.attached = false → Gives (.forceDormant (.mp seq)) s (p.forcedStop.reply .mp .ok))))
  ∧ (∀ s : State, s.part.held = false →
    let p : Part := { s.part with out := [] }
    let released : Part := { p with box := { p.box with pressed := false } }
    GivesQuietly .buttonPress s { p with box := { p.box with pressed := true } }
    ∧ (s.part.box.pressed = true → s.part.box.st.isSome = true →
      Gives .buttonRelease s (if s.part.box.st = some .run then released.raise .button else released.wakeEvent .button)
      ∧ Gives .buttonLongPress s released.forcedStop))
  ∧ ∀ p : Part,
    let off := (({ p with power := { p.power with startQueue := p.power.startQueue.filter fun e => e != .sp } } : Part).spRailOff)
    let q : Part := { off with box := { off.box with
      phase := none, target := none, pendingSleep := none, grace := none, resumeCount := none, cycled := false } }
    (p.box.st = some .dormant → p.forcedStop = p)
    ∧ (p.box.st = some .sleep → p.dp.attached = true → p.forcedStop = p)
    ∧ (p.box.st ≠ some .dormant → p.dp.attached = false → p.forcedStop = q.enterDormant)
    ∧ (p.box.st ≠ some .dormant → p.box.st ≠ some .sleep → p.dp.attached = true → p.forcedStop = q.enterSleep)

/-! ## The box clock -/

/-- R171: a repeating alarm that expires at the head of the list is set again at t + k × I for the smallest whole k at least 1
that puts it after the counter, with its id, interval and action unchanged, where that time is at most 2^32 − 1; where it is
not, the alarm is dropped, and nothing, no notice either, is added to what its action did. At a saturated counter every
repeating alarm is dropped. -/
def Obligations.RepeatingAlarmSetAgain : Prop :=
  ∀ (p : Part) (a : Alarm) (l : List Alarm), p.clock.alarms = a :: l → a.time ≤ p.clock.counter → 0 < a.interval →
    let v := p.clock.counter
    let acted := ({ p with clock := { p.clock with alarms := l } } : Part).handAlarm a
    acted.clock.alarms = l ∧ acted.clock.counter = v
    ∧ (2 ^ 32 - 1 ≤ v → p.expireHead = acted)
    ∧ ∃ k : Nat, 1 ≤ k ∧ v < a.time + k * a.interval ∧ (∀ j, 1 ≤ j → v < a.time + j * a.interval → k ≤ j)
      ∧ k = (v - a.time) / a.interval + 1
      ∧ (a.time + k * a.interval ≤ 2 ^ 32 - 1 → p.expireHead = { acted with clock := { acted.clock with
          alarms := Part.insertAlarm { a with time := a.time + k * a.interval } l } })
      ∧ (2 ^ 32 - 1 < a.time + k * a.interval → p.expireHead = acted)

/-- R163, R165, R169: the tick advances the counter, saturating, and makes the expiry pass, and then the main domain's
timers run unless it is held; TIME_SET gives the counter its value, makes the clock VALID and makes the pass; an expiry
takes the head of the list where it is at or before the counter. The order of a tick's effects is the model's choice (log
entry 18).

R169, R170: the pass takes the head of the list while it is at or before the counter, so that of a list in ascending time no alarm
at or before the counter is left; an alarm that does not repeat is gone. An expired alarm's action is kept in the undelivered
expiries while the main domain is held, once for each id; is held with the other events while the box state is absent; and else
raises ALARM in RUN, is a wake event in any other box state, and asks the bays of its set to start, in number order (the model's
choice, log entry 66).

R79, R86, R87, R116, R134, R140, R141: the main domain's timers at a tick. T_start and T_sp have one second less left, and where
none is left the start fails, or the SP's draw is S_run; grace falls by one, and at 0 ends; the resume count rises by one, and at
the limit expires; the idle counter of a quiet bay and of a bay in STANDBY rises by one, to 65535 at most, and at or above its
figure sends its order; the patrol timer of an OPEN window with an interval rises by one, and at the interval is 0 with a compare
chunk due, the starts of R117 asked for with the primary's bay first (the model's choice, log entry 45). -/
def Obligations.ClockAdvancesAndExpires : Prop :=
  (∀ s : State,
    let tick (p : Part) : Part := (({ p with clock := { p.clock with
      counter := if p.clock.counter < 2 ^ 32 - 1 then p.clock.counter + 1 else p.clock.counter } } : Part).expiryPass)
    (s.part.held = false → s.part.clock.supplied = true →
      Gives .boxClockTick s (tick { s.part with out := [] }).tickMain)
    ∧ (s.part.held = true → s.part.clock.supplied = true →
      exec .boxClockTick s = .next { s with part := (tick { s.part with out := [] }).finish })
    ∧ (s.part.held = false → ∀ a l, s.part.clock.alarms = a :: l → a.time ≤ s.part.clock.counter →
      Gives .alarmExpiry s ({ s.part with out := [] } : Part).expireHead)
    ∧ (s.part.held = false → (∀ a l, s.part.clock.alarms = a :: l → s.part.clock.counter < a.time) →
      Gives .alarmExpiry s { s.part with out := [] }))
  ∧ (∀ (via : Via) (v : Seconds) (s : State), Taken via .timeSet s.part →
    let p := portTook s.part (some .timeSet) via
    Gives (.timeSet via v) s
      ((({ p with clock := { p.clock with counter := v.toNat, valid := true } } : Part).expiryPass).reply (answererOf via) .ok))
  ∧ (∀ p : Part,
    (∀ a l, p.clock.alarms = a :: l → a.time ≤ p.clock.counter → p.expiryPass = p.expireHead.expiryPass)
    ∧ ((∀ a l, p.clock.alarms = a :: l → p.clock.counter < a.time) → p.expiryPass = p)
    ∧ (p.clock.alarms.Pairwise (fun a b => a.time ≤ b.time) →
      p.expiryPass.clock.counter = p.clock.counter ∧ ∀ a ∈ p.expiryPass.clock.alarms, p.clock.counter < a.time)
    ∧ ∀ a l, p.clock.alarms = a :: l → a.interval = 0 →
      p.expireHead = ({ p with clock := { p.clock with alarms := l } } : Part).handAlarm a)
  ∧ (∀ (p : Part) (a : Alarm),
    let started (q : Part) : Part := a.spins.foldl (fun q b => q.requestStart b) q
    (p.held = true →
      ((∃ u ∈ p.clock.undelivered, u.id = a.id) → p.handAlarm a = p)
      ∧ ((∀ u ∈ p.clock.undelivered, u.id ≠ a.id) → p.handAlarm a = { p with clock := { p.clock with
        undelivered := p.clock.undelivered ++ [{ id := a.id, spins := a.spins }] } }))
    ∧ (p.held = false →
      (p.box.st = none → p.handAlarm a = { p with box := { p.box with
        heldEvents := p.box.heldEvents ++ [.alarm a.id a.spins] } })
      ∧ (p.box.st = some .run → p.handAlarm a = started (p.raise .alarm))
      ∧ (p.box.st.isSome = true → p.box.st ≠ some .run → p.handAlarm a = started (p.wakeEvent (.alarm a.id)))))
  ∧ ∀ p : Part,
    (p.tickMain = allWindows.foldl Part.tickPatrol
      (allBays.foldl Part.tickIdle (allBays.foldl Part.tickStart p).tickSp.tickGrace.tickResume))
    ∧ (∀ b : Fin 4,
      let x := p.bay b
      let set (y : Bay) : Part := { p with bays := p.bays.set b y }
      let n := if x.idle < 65535 then x.idle + 1 else x.idle
      (x.startLeft = none → p.tickStart b = p)
      ∧ (∀ k, x.startLeft = some k →
        ((1 < k ∨ x.power ≠ .starting) → p.tickStart b = set { x with startLeft := some (k - 1) })
        ∧ (k ≤ 1 → x.power = .starting → p.tickStart b = bayFaulted (set { x with startLeft := some (k - 1) }) b .start))
      ∧ (x.quiet = true →
        ((x.profile.idleStandby = 0 ∨ n < x.profile.idleStandby) → p.tickIdle b = set { x with idle := n })
        ∧ (x.profile.idleStandby ≠ 0 → x.profile.idleStandby ≤ n →
          let q := (set { x with idle := n, power := .stopping }).bayLeavesReady b
          p.tickIdle b = (if x.link = .locked
            then (q.modBay b fun y => { y with inFlight := .goStandby }).emit (.drive b .goStandby) else q)))
      ∧ (x.power = .standby →
        ((x.profile.mayPowerOff = false ∨ x.profile.idleOff = 0 ∨ n < x.profile.idleOff) →
          p.tickIdle b = set { x with idle := n })
        ∧ (x.profile.mayPowerOff = true → x.profile.idleOff ≠ 0 → x.profile.idleOff ≤ n →
          p.tickIdle b = set { x with idle := n, power := .off, link := .down }))
      ∧ (x.quiet = false → x.power ≠ .standby → p.tickIdle b = p))
    ∧ ((p.power.tSpLeft = none → p.tickSp = p)
      ∧ ∀ n, p.power.tSpLeft = some n →
        p.tickSp = { p with power := { p.power with tSpLeft := if n ≤ 1 then none else some (n - 1) } })
    ∧ (let counts : Prop := p.box.st = some .draining ∧ p.box.phase = some .grace
      ((p.box.grace = none ∨ ¬counts) → p.tickGrace = p)
      ∧ ∀ n, p.box.grace = some n → counts →
        (1 < n → p.tickGrace = { p with box := { p.box with grace := some (n - 1) } }) ∧ (n ≤ 1 → p.tickGrace = p.graceEnds))
    ∧ (let counts : Prop := p.box.st = some .waking ∧ p.power.spRail = true
      ((p.box.resumeCount = none ∨ ¬counts) → p.tickResume = p)
      ∧ ∀ n, p.box.resumeCount = some n → counts →
        (n + 1 < p.box.settings.resumeLimit → p.tickResume = { p with box := { p.box with resumeCount := some (n + 1) } })
        ∧ (p.box.settings.resumeLimit ≤ n + 1 → p.tickResume = p.resumeExpires))
    ∧ ∀ w : Fin 16,
      let v := p.window w
      let runs : Prop := v.st = .opened ∧ v.patrol.isSome = true ∧ v.interval ≠ 0
      let wakes : Prop := (∃ r, v.patrol = some r ∧ r.region = 0 ∧ r.chunk = 0) ∧ v.wakesAttr = true ∧ v.lost = none
        ∧ p.box.st ≠ some .dormant
      let q : Part := { p with
        windows := p.windows.set w { v with timer := 0, due := true }
        engine := { p.engine with seek := p.engine.seek || !v.due } }
      (¬runs → p.tickPatrol w = p)
      ∧ (runs → v.timer + 1 < v.interval →
        p.tickPatrol w = { p with windows := p.windows.set w { v with timer := v.timer + 1 } })
      ∧ (runs → v.interval ≤ v.timer + 1 → p.tickPatrol w
        = (if wakes then (q.wakeBay (v.copy .primary).bay).wakeBay (v.copy .secondary).bay else q))

/-- R167, R168: ALARM_SET inserts the alarm by its time, in place of any of its id, under the lowest free id where none is
given, and answers with the time it then stands in the list at: its own where that has not passed; where it has, the expiry
pass takes it at once, and the answer carries the time it is set again at, if it repeats and that time can be held; the checks of
ALARM_SET refuse it in order; ALARM_CLEAR removes one alarm or all and answers how many. -/
def Obligations.AlarmsSetAndCleared : Prop :=
  ∀ (via : Via) (s : State),
    (∀ a : AlarmArgs, Taken via .alarmSet s.part →
      let p := portTook s.part (some .alarmSet) via
      let who := answererOf via
      let c : Instr := .alarmSet via a
      let wf : Prop := (∀ i, a.id = some i → i < 8)
        ∧ ((a.action = some .wake ∧ a.bays = []) ∨ (a.action = some .wakeSpin ∧ a.bays ≠ [] ∧ ∀ n ∈ a.bays, n < 4))
      (¬wf → Gives c s (p.reply who .badRequest))
      ∧ (wf → s.part.clock.valid = false → Gives c s (p.reply who .wrongState))
      ∧ (wf → s.part.clock.valid = true → a.id = none → 8 ≤ s.part.clock.alarms.length → Gives c s (p.reply who .full))
      ∧ ∀ id : Fin 8, wf → s.part.clock.valid = true →
        (a.id = some id.val ∨ (a.id = none ∧ s.part.clock.alarms.length < 8
          ∧ (∀ x ∈ s.part.clock.alarms, x.id ≠ id) ∧ ∀ j : Fin 8, j < id → ∃ x ∈ s.part.clock.alarms, x.id = j)) →
        let t := a.time.toNat
        let n := a.interval.toNat
        let v := s.part.clock.counter
        let new : Alarm := { id := id, time := t, interval := n, spins := baySet a.bays }
        let others := s.part.clock.alarms.filter fun x => x.id != id
        let q : Part := { p with clock := { p.clock with alarms := Part.insertAlarm new others } }
        (v < t → Gives c s (q.answer who .ok (.alarmSet id (some t))))
        ∧ (t ≤ v → Gives c s (q.expiryPass.answer who .ok
          (.alarmSet id ((q.expiryPass.clock.alarms.find? fun x => x.id == id).map fun x => x.time))))
        ∧ (t ≤ v → (∀ x ∈ s.part.clock.alarms, v < x.time) → Gives c s (q.expireHead.answer who .ok
          (.alarmSet id (if n = 0 ∨ 2 ^ 32 - 1 < t + ((v - t) / n + 1) * n then none else some (t + ((v - t) / n + 1) * n))))))
    ∧ ∀ (id : Nat) (all : Bool), Taken via .alarmClear s.part →
      let p := portTook s.part (some .alarmClear) via
      let who := answererOf via
      let c : Instr := .alarmClear via id all
      (all = true → GivesQuietly c s
        (({ p with clock := { p.clock with alarms := [] } } : Part).answer who .ok
          (.alarmsCleared s.part.clock.alarms.length)))
      ∧ (all = false → 8 ≤ id → GivesQuietly c s (p.reply who .badRequest))
      ∧ (all = false → id < 8 →
        let kept := s.part.clock.alarms.filter fun x => x.id.val != id
        GivesQuietly c s (({ p with clock := { p.clock with alarms := kept } } : Part).answer who .ok
          (.alarmsCleared (s.part.clock.alarms.length - kept.length))))

/-! ## The wake matcher -/

/-- R158, R159: WAKE_ENTRY_SET replaces or empties a whole entry, its counts cleared, and STATION_SET records the addresses and
the summons enable, where their checks pass; they are answered BAD_REQUEST and change nothing where one fails. -/
def Obligations.MatcherIsSet : Prop :=
  ∀ (via : Via) (s : State),
    (∀ a : WakeArgs, Taken via .wakeEntrySet s.part →
      let p := portTook s.part (some .wakeEntrySet) via
      let who := answererOf via
      let c : Instr := .wakeEntrySet via a
      let fits (t : Term) : Prop := t.offset ≤ 255 ∧ 1 ≤ t.len ∧ t.len ≤ 4 ∧ t.value < 2 ^ (8 * t.len) ∧ t.mask < 2 ^ (8 * t.len)
      let wf (d : WakeDef) : Prop := 1 ≤ d.terms.length ∧ d.terms.length ≤ 4 ∧ (∀ t ∈ d.terms, fits t)
        ∧ ((d.action = some .wakeSpin ∧ d.bays ≠ [] ∧ ∀ n ∈ d.bays, n < 4) ∨ (d.action = some .wake ∧ d.bays = [])
          ∨ (d.action = some .ignore ∧ d.bays = [] ∧ d.hold = false))
      (∀ i : Fin 24, a.entry = i.val → a.clear = true → a.body = none →
        GivesQuietly c s
          (({ p with matcher := { p.matcher with table := p.matcher.table.set i none } } : Part).reply who .ok))
      ∧ (∀ (i : Fin 24) (d : WakeDef), a.entry = i.val → a.clear = false → a.body = some d → wf d →
        ∀ act, d.action = some act → GivesQuietly c s
          (({ p with matcher := { p.matcher with table := p.matcher.table.set i (some {
              enabled := d.enabled, terms := d.terms, action := act, bays := baySet d.bays, hold := d.hold, hits := 0
              lastHit := none }) } } : Part).reply who .ok))
      ∧ ((24 ≤ a.entry ∨ (a.clear = a.body.isSome) ∨ ∃ d, a.body = some d ∧ ¬wf d) → GivesQuietly c s (p.reply who .badRequest)))
    ∧ ∀ a : StationArgs, Taken via .stationSet s.part →
      let p := portTook s.part (some .stationSet) via
      let who := answererOf via
      let groupBit (x : Address) : Bool := x[0].getLsbD 0
      let places := [a.group0, a.group1, a.group2, a.group3]
      let ok : Prop := groupBit a.station = false ∧ a.station ≠ Vector.replicate 6 0
        ∧ ∀ g, some g ∈ places → groupBit g = true ∧ g ≠ Vector.replicate 6 0xFF
      (ok → GivesQuietly (.stationSet via a) s
        (({ p with matcher := { p.matcher with
            station := some a.station, groups := places, summons := a.summons } } : Part).reply who .ok))
      ∧ (¬ok → GivesQuietly (.stationSet via a) s (p.reply who .badRequest))

/-- R147 to R154: a frame is taken only if its first byte came while the standby receiver was on; it fails the first of the
three checks that it does, is dropped by the filter, is a SUMMONS match, is unmatched, or is won by the lowest enabled entry
that matches it, with that entry's counts, action and holding.

R156: FRAME_FETCH is refused by the first check that fails, or sets its fetch in transfer; at the end of the transfer the oldest
frame is written to its buffer and leaves the queue, and the FRAME_FETCH is completed OK. That a frame of fewer than 4 bytes fails
the frame check is the model's choice (log entry 47), and so are the operand that says whether the receiver was on at a frame's
first byte (log entry 50), the frame's bytes standing whole in the outputs at the end of the transfer (log entry 28), and the
number order in which the bays of a WAKE_SPIN are asked to start (log entry 66). That FRAME_FETCH's buffer stands in its record's
answer buffer fields is deduced (log entry 64). -/
def Obligations.FramesArriveAndAreFetched : Prop :=
  (∀ (f : List Byte) (fromStart : Bool) (s : State), s.part.held = false →
     let c : Instr := .frameArrival { bytes := f, fromStart := fromStart }
     let m := s.part.matcher
     let p : Part := { s.part with out := [] }
     let with_ (q : Part) (g : Matcher) : Part := { q with matcher := g }
     let hold (q : Part) (src : Option (Fin 24)) : Part := with_ q
       (if q.matcher.held.length < 8 then
         { q.matcher with held := q.matcher.held ++ [{ source := src, time := s.part.clock.counter, bytes := f }] }
       else { q.matcher with lostFrames := if q.matcher.lostFrames < 65535 then q.matcher.lostFrames + 1 else q.matcher.lostFrames })
     let up (n : Nat) : Nat := if n < 65535 then n + 1 else n
     let data := f.take (f.length - 4)
     let agrees : Prop := 4 ≤ f.length ∧ leNat (f.drop (f.length - 4)) = Part.frameCheck data
     let passes : Prop := f.take 6 = List.replicate 6 0xFF
       ∨ ∃ a : Address, (m.station = some a ∨ some a ∈ m.groups) ∧ f.take 6 = a.toList
     let summons : Prop := m.summons = true ∧ ∃ a : Address, m.station = some a ∧ ∃ n, n + 102 ≤ data.length
       ∧ (data.drop n).take 102 = List.replicate 6 0xFF ++ (List.replicate 16 a.toList).flatten
     let hits (i : Fin 24) (e : WakeEntry) : Prop := m.table[i] = some e ∧ e.enabled = true
       ∧ ∀ t ∈ e.terms, t.offset + t.len ≤ data.length
         ∧ Nat.land (Part.beNat ((data.drop t.offset).take t.len)) t.mask = Nat.land t.value t.mask
     ((s.part.box.rxOn = false ∨ fromStart = false) → Gives c s p)
     ∧ (s.part.box.rxOn = true → fromStart = true →
       (¬agrees → Gives c s (with_ p { m with checkErrors := up m.checkErrors }))
       ∧ (agrees → f.length < 64 → Gives c s (with_ p { m with shortFrames := up m.shortFrames }))
       ∧ (agrees → 1536 < f.length → Gives c s (with_ p { m with longFrames := up m.longFrames }))
       ∧ (agrees → 64 ≤ f.length → f.length ≤ 1536 →
         (¬passes → Gives c s p)
         ∧ (passes → summons → Gives c s
           (hold ((with_ p { m with summonsHits := up m.summonsHits, summonsLast := some s.part.clock.counter }).wakeEvent
             .summons) none))
         ∧ (passes → ¬summons → (∀ i e, ¬hits i e) → Gives c s (with_ p { m with unmatched := up m.unmatched }))
         ∧ ∀ (i : Fin 24) (e : WakeEntry), passes → ¬summons → hits i e → (∀ j e', j < i → ¬hits j e') →
           let q := with_ p { m with table := m.table.set i (some { e with
             hits := up e.hits, lastHit := some s.part.clock.counter }) }
           let q1 := if e.action = .ignore then q else q.wakeEvent (.wakeMatch i)
           let q2 := if e.action = .wakeSpin then q1.requestStarts e.bays else q1
           Gives c s (if e.hold then hold q2 (some i) else q2))))
  ∧ ((∀ (tag : Tag) (addr len : Nat) (s : State), Taken (.pp tag addr len) .frameFetch s.part →
       let p := portTook s.part (some .frameFetch) (.pp tag addr len)
       let who : Answerer := .pp tag addr len
       let c : Instr := .frameFetch (.pp tag addr len)
       (len = 0 ∨ 65535 < len → Gives c s (p.reply who .badRequest))
       ∧ (1 ≤ len → len ≤ 65535 →
         (s.part.matcher.transfer.isSome = true → Gives c s (p.reply who .busy))
         ∧ (s.part.matcher.transfer = none →
           (s.part.matcher.held = [] → Gives c s (p.reply who .empty))
           ∧ ∀ f rest, s.part.matcher.held = f :: rest →
             (len < f.bytes.length → Gives c s (p.answer who .range (.frameRange f.bytes.length)))
             ∧ (f.bytes.length ≤ len → Gives c s { p with
               matcher := { p.matcher with transfer := some { tag := tag, bufAddr := addr } } }))))
     ∧ ∀ (s : State) (t : Transfer) (f : HeldFrame) (rest : List HeldFrame), s.part.held = false →
       s.part.matcher.transfer = some t → s.part.matcher.held = f :: rest → s.part.pp.setup ≠ .unset →
       Gives .frameTransferDone s { s.part with
         out := [.spWrite t.bufAddr f.bytes]
         matcher := { s.part.matcher with held := rest, transfer := none }
         pp := { s.part.pp with list := s.part.pp.list ++ [{
           tag := t.tag, status := .ok
           result := leBytes 2 f.bytes.length ++ [sourceByte f.source, BitVec.ofNat 8 rest.length] ++ leBytes 4 f.time }] } })

/-! ## Answers, notices and the ports -/

/-- R177, R184, R190, R203, R205: how an answer reaches its port: on the management port it is placed in the reply slot up to
4096 bytes with its whole length; on the processor port its bytes go into the answer buffer up to the buffer's length and its
completion joins the internal list; on the direct port its unit and completion join the send list; and an answer owed to no one
changes nothing.

R179: while the ring has room the head of the internal list is written at the completion base + 16 × completion position with
the phase as it stands, the position advances and the phase flips at the wrap, and answers owed falls by one; the SLEEP
completion's writing begins the grace count (R132). That completions are written before any other consequence of an event is the
model's choice (log entry 1), and so are that an answer in the result bytes has the answer length 0 (log entry 75) and that
result bytes without a field are 0 (log entry 83). The bytes of most answers are free values (log entry 10); that the held read
says how many bytes it takes is deduced (log entry 24); the mark of the event's batch is the model's own (log entry 56). -/
def Obligations.AnswersReachTheirPort : Prop :=
  (∀ (p : Part) (st : Status) (ans : Answer),
     let bytes := bytesOfAnswer ans
     (p.mp.st = .executing → p.mp.heldRead = none → p.answer .mp st ans = { p with mp := { p.mp with
       st := .replyReady, execKind := none, readPos := 0
       reply := some { seq := p.mp.execSeq, status := st, length := bytes.length, bytes := bytes.take 4096 } } })
     ∧ (∀ n, p.mp.st = .executing → p.mp.heldRead = some n →
       let r : Reply := { seq := p.mp.execSeq, status := st, length := bytes.length, bytes := bytes.take 4096 }
       ((replyFrame r).length ≤ n → p.answer .mp st ans = { p with
         out := p.out ++ [.mpBytes (replyFrame r)]
         mp := { p.mp with
           st := .idle, execKind := none, readPos := 0, reply := none, late := false, heldRead := none } })
       ∧ (n < (replyFrame r).length → p.answer .mp st ans = { p with
         out := p.out ++ [.mpBytes ((replyFrame r).take n)]
         mp := { p.mp with
           st := .replyReady, execKind := none, readPos := n, reply := some r, heldRead := none } }))
     ∧ (∀ tag addr len, p.pp.setup ≠ .unset → p.answer (.pp tag addr len) st ans = { p with
       out := p.out ++ (if inBuffer ans = true ∧ len ≠ 0 then [.spWrite addr (bytes.take len)] else [])
       pp := { p.pp with list := p.pp.list ++ [{
         tag := tag, status := st, answerLen := if inBuffer ans then bytes.length else 0, result := resultBytes ans }] } })
     ∧ (∀ tag, p.dp.attached = true → p.answer (.dp tag) st ans = { p with dp := { p.dp with
       sendList := p.dp.sendList ++ [.completion (if inBuffer ans then some bytes else none) {
         tag := tag, status := st, answerLen := if inBuffer ans then bytes.length else 0 }] } })
     ∧ p.answer .void st ans = p)
  ∧ (∀ (p : Part) (c : Completion) (rest : List Completion), p.pp.list = c :: rest → p.pp.setup ≠ .unset →
       (p.pp.compPos + p.pp.compSize - p.pp.head) % p.pp.compSize < p.pp.compSize - 1 →
       let last : Prop := p.pp.compPos + 1 = p.pp.compSize
       p.consequence = some { p with
         out := p.out ++ [.completion (p.pp.compBase + 16 * p.pp.compPos) (completionBytes c p.pp.phase false)]
         pp := { p.pp with
           list := rest
           compPos := if last then 0 else p.pp.compPos + 1
           phase := if last then !p.pp.phase else p.pp.phase
           owed := p.pp.owed - 1
           batch := true }
         box := if c.isSleep = true ∧ p.box.st = some .draining ∧ p.box.phase = some .grace ∧ p.box.grace = none
           then { p.box with grace := some p.box.settings.grace } else p.box })

/-- R180, R192, R193: a notice joins both sets, with an interrupt where it is new on the PP, the set-up SET and the kind not
masked; NOTICE_CLEAR removes the kinds its word names from the set of its own port; MP_MODE records HOLD or NOTIFY. -/
def Obligations.NoticesAndMode : Prop :=
  (∀ (p : Part) (k : Notice), p.raise k = { p with
    pp := { p.pp with notices := if k ∈ p.pp.notices then p.pp.notices else p.pp.notices ++ [k] }
    mp := { p.mp with notices := if k ∈ p.mp.notices then p.mp.notices else p.mp.notices ++ [k] }
    out := p.out ++ (if k ∉ p.pp.notices ∧ p.pp.setup = .set ∧ k ∉ p.pp.masked then [.noticeInterrupt] else []) })
  ∧ (∀ (via : Via) (w : Word16) (s : State), Taken via .noticeClear s.part →
    let p := portTook s.part (some .noticeClear) via
    let left (l : List Notice) : List Notice := l.filter fun k => !w.getLsbD (noticeBit k)
    (∀ seq, via = .mp seq → GivesQuietly (.noticeClear via w) s
      (({ p with mp := { p.mp with notices := left p.mp.notices } } : Part).reply .mp .ok))
    ∧ (∀ tag addr len, via = .pp tag addr len → GivesQuietly (.noticeClear via w) s
      (({ p with pp := { p.pp with notices := left p.pp.notices } } : Part).reply (.pp tag addr len) .ok)))
  ∧ ∀ (seq : Byte) (s : State), Taken (.mp seq) .mpMode s.part →
    let p := portTook s.part (some .mpMode) (.mp seq)
    (∀ m, GivesQuietly (.mpMode (.mp seq) (some m)) s (({ p with mp := { p.mp with mode := m } } : Part).reply .mp .ok))
    ∧ GivesQuietly (.mpMode (.mp seq) none) s (p.reply .mp .badRequest)

/-- R177, R183, R190, R195: what a port answers by itself: BAD_REQUEST for a code that names no kind and for a frame with a bad
check byte, DENIED for a kind the port may not issue, BUSY on the MP for the ten kinds of R195 during start-up, WRONG_STATE on
the PP for a block request in WAKING. -/
def Obligations.PortsAnswerThemselves : Prop :=
  (∀ (via : Via) (code : Byte) (s : State), s.part.held = false → portReady s.part via = true →
    GivesQuietly (.unknownKindRecord via code) s ((portTook s.part none via).reply (answererOf via) .badRequest))
  ∧ (∀ (bytes : List Byte) (s : State), s.part.held = false → s.part.mp.st ≠ .executing →
    let n := leField bytes 2 2
    5 + n ≤ bytes.length → byteAt bytes (4 + n) ≠ checkByte (bytes.take (4 + n)) →
    Gives (.badCheckFrame bytes) s
      ((portTook s.part (kindOfCode (byteAt bytes 0)) (.mp (byteAt bytes 1))).reply .mp .badRequest))
  ∧ (∀ (via : Via) (c : Cmd) (k : Kind) (p : Part), cmdKind c = some k → portReady p via = true →
    portMayIssue via k = false → (isBlockRequest c = true → ∃ seq, via = .mp seq) →
    Part.issue via c { p with out := [] } = (portTook p (some k) via).reply (answererOf via) .denied)
  ∧ (∀ (seq : Byte) (c : Cmd) (k : Kind) (p : Part), cmdKind c = some k → p.mp.st ≠ .executing → p.box.st = none →
    k ∈ [Kind.windowDefine, .windowDelete, .replaceMember, .profileSet, .budgetSet, .patrolSet, .wakeEntrySet, .stationSet,
      .configLoad, .configSave] →
    Part.issue (.mp seq) c { p with out := [] } = (portTook p (some k) (.mp seq)).reply .mp .busy)
  ∧ ∀ (tag : Tag) (addr len : Nat) (c : Cmd) (k : Kind) (p : Part), cmdKind c = some k → isBlockRequest c = true →
    p.mayFetch = true → p.box.st = some .waking →
    Part.issue (.pp tag addr len) c { p with out := [] }
      = (portTook p (some k) (.pp tag addr len)).reply (.pp tag addr len) .wrongState

/-- R189, R191: the management port's transactions: a write in EXECUTING is counted as an overrun and takes nothing; a short
frame changes nothing; a read sends NONE when idle, PENDING at once in NOTIFY or after 25 ms in HOLD, and the reply from its
read position when one is ready, the reply being consumed when its check byte is sent. That a read says how many bytes it takes
is deduced (log entry 24).

R189, R190, R205: a write transaction's bytes: in EXECUTING an overrun; fewer than 5 + L bytes a short frame; else, where the
check byte agrees, the command that kind code and operands spell, bytes beyond the check byte ignored, or BAD_REQUEST for a code
that names none; BAY_QUERY's, STATUS's and MP_MODE's operands are read as R205 lays them out, and CLEAR of WAKE_ENTRY_SET as
R206 does, its other bits and bytes ignored (the model's choice, log entry 91). That a frame with an operand
length above 1024 is BAD_REQUEST is the model's choice (log entry 54), and so are that a short frame counts nothing in EXECUTING
(log entry 81) and that operand bytes beyond a layout are ignored (log entry 82); the operands of other commands are free values
(log entry 9). -/
def Obligations.ManagementTransactions : Prop :=
  (∀ (bytes : List Byte) (s : State), s.part.held = false →
    let p : Part := { s.part with out := [] }
    let c : Instr := .badCheckFrame bytes
    let n := leField bytes 2 2
    let seq := byteAt bytes 1
    let kind := kindOfCode (byteAt bytes 0)
    (s.part.mp.st = .executing → Gives c s { p with mp := { p.mp with
      overruns := if p.mp.overruns < 255 then p.mp.overruns + 1 else p.mp.overruns } })
    ∧ (s.part.mp.st ≠ .executing →
      (bytes.length < 5 + n → Gives c s p)
      ∧ (5 + n ≤ bytes.length → byteAt bytes (4 + n) = checkByte (bytes.take (4 + n)) →
        ((1024 < n ∨ kind = none) → Gives c s ((portTook s.part kind (.mp seq)).reply .mp .badRequest))
        ∧ ∀ k, n ≤ 1024 → kind = some k →
          Gives c s (Part.issue (.mp seq) (cmdOfOperands k ((bytes.drop 4).take n)) p))))
  ∧ (∀ ops : List Byte,
    cmdOfOperands .bayQuery ops = .bayQuery (byteAt ops 0).toNat ((byteAt ops 1).getLsbD 0)
    ∧ cmdOfOperands .status ops = .status ((byteAt ops 0).toNat + 256 * (byteAt ops 1).toNat)
    ∧ (byteAt ops 0 = 0 → cmdOfOperands .mpMode ops = .mpMode (some .hold))
    ∧ (byteAt ops 0 = 1 → cmdOfOperands .mpMode ops = .mpMode (some .notify))
    ∧ (2 ≤ (byteAt ops 0).toNat → cmdOfOperands .mpMode ops = .mpMode none)
    ∧ ((byteAt ops 1).getLsbD 0 = false →
      cmdOfOperands .wakeEntrySet ops = .wakeEntrySet { entry := (byteAt ops 0).toNat, clear := true, body := none }))
  ∧ ∀ s : State, s.part.held = false →
    let p : Part := { s.part with out := [] }
    let frame (seq : Byte) (st : Status) : List Byte := replyFrame { seq := seq, status := st, length := 0, bytes := [] }
    (s.part.mp.st = .executing → GivesQuietly .mpOverrun s { p with mp := { p.mp with
      overruns := if p.mp.overruns < 255 then p.mp.overruns + 1 else p.mp.overruns } })
    ∧ GivesQuietly .mpShortFrame s p
    ∧ ∀ n : Nat,
      (s.part.mp.st = .idle → GivesQuietly (.mpRead n) s { p with out := [.mpBytes ((frame 0 .none).take n)] })
      ∧ (s.part.mp.st = .executing → s.part.mp.mode = .notify → GivesQuietly (.mpRead n) s { p with
          out := [.mpBytes ((frame s.part.mp.execSeq .pending).take n)], mp := { p.mp with late := true, heldRead := none } })
      ∧ (s.part.mp.st = .executing → s.part.mp.mode = .hold → s.part.mp.heldRead = none →
        GivesQuietly (.mpRead n) s { p with mp := { p.mp with heldRead := some n } })
      ∧ (s.part.mp.st = .executing → s.part.mp.heldRead = some n → GivesQuietly .mpHoldTimeout s { p with
          out := [.mpBytes ((frame s.part.mp.execSeq .pending).take n)], mp := { p.mp with late := true, heldRead := none } })
      ∧ ∀ r, s.part.mp.st = .replyReady → s.part.mp.reply = some r →
        let rest := (replyFrame r).drop s.part.mp.readPos
        (n < rest.length → GivesQuietly (.mpRead n) s { p with
          out := [.mpBytes (rest.take n)], mp := { p.mp with readPos := p.mp.readPos + n, heldRead := none } })
        ∧ (rest.length ≤ n → GivesQuietly (.mpRead n) s { p with
          out := [.mpBytes rest]
          mp := { p.mp with st := .idle, reply := none, late := false, readPos := 0, heldRead := none } })

/-- R174, R175, R180: the set-up words and the start of the rings, the tail and head notices, and the interrupt mask: what
is recorded, what is counted as a notice error, what is ignored. The head notice in ERROR (log entry 22) and the one
interrupt of a mask write (log entry 23) are deduced; that such a write acts while the SP rail is off too is the model's choice
(log entry 63), and so is that a ring start of another value than 1 is ignored (log entry 72).

R187: while the SP rail is on, a read of the port's window gives the notice set in its word and the port status word's set-up
state and notice errors; while it is off, nothing. That such a read is no command of the queue is the model's form (log entry
30). -/
def Obligations.SetUpAndNotices : Prop :=
  (∀ (p : Part) (w : PpWord),
    (p.power.spRail = false → p.readWord w = none)
    ∧ (p.power.spRail = true →
      p.readWord .noticeSet = some (.bits (wordOfNotices p.pp.notices))
      ∧ p.readWord .portStatus = some (.status p.pp.setup p.pp.noticeErrors)))
  ∧ ∀ (s : State) (v : Nat), s.part.held = false →
    let p : Part := { s.part with out := [] }
    let q := s.part.pp
    let bad : Part := { p with pp := { q with noticeErrors := if q.noticeErrors < 255 then q.noticeErrors + 1 else q.noticeErrors } }
    let fits : Prop := q.subBase % 64 = 0 ∧ q.compBase % 16 = 0 ∧ 2 ≤ q.subSize ∧ q.subSize ≤ 1024 ∧ 2 ≤ q.compSize
      ∧ q.compSize ≤ 1024
    (q.setup = .unset →
      GivesQuietly (.setupWordWrite .submissionBase v) s { p with pp := { q with subBase := v } }
      ∧ GivesQuietly (.setupWordWrite .submissionSize v) s { p with pp := { q with subSize := v } }
      ∧ GivesQuietly (.setupWordWrite .completionBase v) s { p with pp := { q with compBase := v } }
      ∧ GivesQuietly (.setupWordWrite .completionSize v) s { p with pp := { q with compSize := v } }
      ∧ (fits → GivesQuietly (.ringStart 1) s { p with
          pp := { q with setup := .set, tail := 0, fetchPos := 0, head := 0, compPos := 0, phase := true }
          out := if ∃ k ∈ q.notices, k ∉ q.masked then [.noticeInterrupt] else [] })
      ∧ (¬fits → GivesQuietly (.ringStart 1) s bad)
      ∧ (v ≠ 1 → GivesQuietly (.ringStart v) s p)
      ∧ GivesQuietly (.submissionTailNotice v) s p ∧ Gives (.completionHeadNotice v) s p)
    ∧ (q.setup ≠ .unset → (∀ w, GivesQuietly (.setupWordWrite w v) s p) ∧ GivesQuietly (.ringStart v) s p)
    ∧ (q.setup = .set →
      (v < q.subSize → GivesQuietly (.submissionTailNotice v) s { p with pp := { q with tail := v } })
      ∧ (q.subSize ≤ v → GivesQuietly (.submissionTailNotice v) s bad))
    ∧ (q.setup ≠ .unset →
      let claims : Prop := v < q.compSize
        ∧ (v + q.compSize - q.head) % q.compSize ≤ (q.compPos + q.compSize - q.head) % q.compSize
      (claims → Gives (.completionHeadNotice v) s { p with pp := { q with head := v } })
      ∧ (¬claims → Gives (.completionHeadNotice v) s bad))
    ∧ ∀ w : Word16, GivesQuietly (.interruptMask w) s { p with
        pp := { q with compIntOff := w.getLsbD 15, masked := allNotices.filter fun k => w.getLsbD (noticeBit k) }
        out := if ∃ k ∈ q.notices, k ∈ q.masked ∧ w.getLsbD (noticeBit k) = false then [.noticeInterrupt] else [] }

/-- R176, R177, R202: while the port may fetch, a record of 64 bytes is read from SP memory at the submission base + 64 × the
fetch position; it advances the fetch position, is counted as owed and is handed on as the command it spells, its operands
read from the operand address where they are longer than the record holds, or is answered by its port; an error in place of
the record sets the set-up to ERROR, and an error in place of its operands completes it TRANSFER_ERROR. Operands that chapter
12 does not lay out are free values (log entry 9); those that end early read as 0 (log entry 48); that a kind not allowed is
DENIED whatever its operand length is the model's choice (log entry 79); an error of operands that
are not read there cannot arise (log entry 5); the reads stand in the outputs (log entry 28). -/
def Obligations.RecordsAreFetched : Prop :=
  ∀ s : State, s.part.held = false → s.part.mayFetch = true →
    let read : Output := .spRead (s.part.pp.subBase + 64 * s.part.pp.fetchPos) 64
    let err : Part := { s.part with out := [read], pp := { s.part.pp with setup := .error } }
    Gives (.recordFetch .error) s err ∧ Gives (.spMemoryError .record) s err
    ∧ ∀ (bytes : List Byte) (ops : OperandRead),
      let tag : Tag := BitVec.ofNat 16 (leField bytes 2 2)
      let addr := leField bytes 24 8
      let len := leField bytes 32 2
      let n := leField bytes 16 2
      let apart : Prop := 24 < n ∧ n ≤ 1024
        ∧ ∃ k, kindOfCode (byteAt bytes 0) = some k ∧ ppMayIssue k = true ∧ k ∉ [Kind.read, .write, .flush]
      let p (l : List Output) : Part := { s.part with out := read :: l, pp := { s.part.pp with
        fetchPos := (s.part.pp.fetchPos + 1) % s.part.pp.subSize, owed := s.part.pp.owed + 1 } }
      let taken (q : Part) : Prop :=
        (∀ st, askOfRecord bytes ops = .refuse st → Gives (.recordFetch (.record bytes ops)) s (q.reply (.pp tag addr len) st))
        ∧ ∀ c, askOfRecord bytes ops = .command c →
          Gives (.recordFetch (.record bytes ops)) s (q.handOnPp tag addr len c)
      (apart → taken (p [.spRead (leField bytes 8 8) n])
        ∧ Gives (.spMemoryError (.operands bytes)) s
          ((p [.spRead (leField bytes 8 8) n]).reply (.pp tag addr len) .transferError))
      ∧ (¬apart → taken (p []) ∧ Gives (.spMemoryError (.operands bytes)) s { s.part with out := [] })

/-- R132, R157, R181: a PCIe link reset drops every PP request, forgets the rings and the internal list but for the notice set and
the notice errors count, ends a FRAME_FETCH in transfer, leaves held PP answers owed to no one, and in DRAIN returns the box to
RUN. A batch of completions still open ends ahead of it (log entry 56).

R43, R44, R103: a dropped request's queued operations and its places on the lists are removed, its slots freed but for those of
its operations in flight, the counts and the flush counts of the entries it waits on lowered; where it had fragments, its record
is kept aside until their results are in, a fragment with no result and nothing in flight counting as removed, and MEDIA for a
WRITE (log entry 44). A removed write on the target of a rebuild whose survivor may have been written abandons the rebuild (log
entry 13). The result of such an operation is its fragment's, and frees its slots; the record kept aside is the model's own (log
entry 12). -/
def Obligations.LinkResetForgetsRings : Prop :=
  (∀ (p : Part) (r : Request),
    let mine (o : BayOp) : Bool := match o.parent with | .request id _ => id == r.id | .chunk _ => false
    let flying (k : Nat) : Prop := ∃ (b : Fin 4) (o : BayOp), (p.bay b).inFlight = .op o ∧ o.parent = .request r.id k
    let kept : List Nat := [(0 : Fin 4), 1, 2, 3].flatMap fun b => match (p.bay b).inFlight with
      | .op o => if mine o = true then o.slots else []
      | _ => []
    ∀ frags : List Fragment, frags.length = r.frags.length →
      (∀ (k : Nat) (f g : Fragment), r.frags[k]? = some f → frags[k]? = some g →
        ((f.result.isSome = true ∨ flying k) → g = f)
        ∧ (f.result = none → ¬flying k → g = { f with
          result := some (if r.kind = .write then .media else .ok), removed := true })) →
      let v := p.window r.window
      let gone : Part := { p with
        router := { p.router with
          requests := p.router.requests.filter fun x => x.id != r.id
          slotWait := p.router.slotWait.filter fun e => e.who != .request r.id
          pool := p.router.pool.mapIdx fun i h => if h = .request r.id ∧ i ∉ kept then .free else h
          ended := p.router.ended.filter fun x => x != r.id
          ppCount := if r.port = .pp then p.router.ppCount - 1 else p.router.ppCount
          dpCount := if r.port = .dp then p.router.dpCount - 1 else p.router.dpCount
          dropped := if r.routed = true ∧ r.frags ≠ []
            then p.router.dropped ++ [{ r with frags := frags, waits := [], second := [], pausedAt := none }]
            else p.router.dropped }
        bays := p.bays.map fun x => { x with
          queue := x.queue.filter fun o => !mine o, roomWait := x.roomWait.filter fun y => y != .request r.id }
        windows := p.windows.set r.window { v with inFlight := v.inFlight - 1 }
        engine := { p.engine with log := p.engine.log.map fun e =>
          if e.window = r.window ∧ e.region ∈ r.waits then { e with flushes := e.flushes - 1 } else e } }
      let short : Prop := r.routed = true ∧ r.kind = .write ∧ v.layout = .mirror ∧ v.cursor.isSome = true
        ∧ ∃ x, v.lost = some x ∧ (∃ g ∈ frags, g.removed = true ∧ g.member = sideIndex x)
          ∧ ∃ g ∈ frags, g.member ≠ sideIndex x ∧ g.removed = false ∧ (g.result = none ∨ g.result = some .ok)
      (short → p.dropRequest r = rebuildAbandoned gone r.window) ∧ (¬short → p.dropRequest r = gone))
  ∧ (∀ (p : Part) (port : ReqPort), p.dropPort port
      = (p.router.requests.filter fun r => r.port == port).foldl (fun q r => q.dropRequest r) p)
  ∧ (∀ (p : Part) (r : Request) (k : Nat) (f : Fragment) (o : BayOp) (res : Status) (block : Option Nat),
      o.parent = .request r.id k → p.request? r.id = none → p.dropped? r.id = some r → r.frags[k]? = some f →
      (r.windowGone = true ∨ (p.window r.window).layout ≠ .mirror) →
      let kept : List Nat := [(0 : Fin 4), 1, 2, 3].flatMap fun b => match (p.bay b).inFlight with
        | .op o => (match o.parent with | .request id _ => if id = r.id then o.slots else [] | .chunk _ => [])
        | _ => []
      let q := p.modRequest r.id fun x => { x with
        frags := if k < x.frags.length then x.frags.set k { (x.frags[k]?).getD {} with result := some res } else x.frags }
      p.reportResult res block o = { q with router := { q.router with
        pool := q.router.pool.mapIdx fun i h => if h = .request r.id ∧ i ∉ kept then .free else h } })
  ∧ ∀ s : State, s.part.held = false →
    let q := portReset { s.part with out := [] }
    (s.part.box.st ≠ some .draining → Gives .linkReset s q)
    ∧ (s.part.box.st = some .draining → s.part.box.phase = some .drain → Gives .linkReset s
      { q with box := { q.box with st := some .run, phase := none, target := none, pendingSleep := none } })
    ∧ (s.part.box.st = some .draining → s.part.box.phase = some .grace → s.part.box.grace = none → Gives .linkReset s
      { q with box := { q.box with grace := some q.box.settings.grace } })

/-- R182, R185: an attach sets the direct port ATTACHED with attach pending, raises DP_ATTACH and goes to the power controller; a
detach drops every DP request, as LinkResetForgetsRings says of one, empties the port but for its framing errors, discards an
attach held in start-up and raises DP_DETACH. -/
def Obligations.DirectPortAttachDetach : Prop :=
  ∀ s : State, s.part.held = false →
    let p : Part := { s.part with out := [] }
    (s.part.dp.attached = false →
      let q := ({ p with dp := { p.dp with attached := true, attachPending := true } } : Part).raise .dpAttach
      (s.part.box.st = none →
        Gives .dpAttach s { q with box := { q.box with heldEvents := q.box.heldEvents ++ [.attach] } })
      ∧ (s.part.box.st.isSome = true →
        let r := if s.part.box.st = some .dormant then q.enterSleep else q
        Gives .dpAttach s (if s.part.box.settings.attachWakes then r.wakeEvent .dpAttach else r)))
    ∧ (s.part.dp.attached = true →
      let q := p.dropPort .dp
      Gives .dpDetach s (({ q with
        dp := { ({} : DpPort) with framing := q.dp.framing }
        box := { q.box with heldEvents := q.box.heldEvents.filter fun e => e != .attach } } : Part).raise .dpDetach))

/-- R183, R184: the direct port's pipes: a transfer of 64 bytes in RECORD is a record, handed on by its kind or answered
BAD_REQUEST or DENIED, and one that is no record is a framing error; in HOLD nothing is taken; data goes into the
WRITE's slots in order, the last byte bringing the WRITE to ROUTING; discarded data is counted off; the READ at the head of
the send list is COMPLETE when its data is sent, its completion next; a completion sent takes one from answers owed and, the
first after an attach, carries DP_ATTACH. What stands in the outputs at the end of a transfer is the model's form (log entry
28); that bytes beyond those due in DISCARD count as no framing error is the model's choice (log entry 65), and so is that a
transfer of another length is refused and not counted where no record may be taken, the box state being absent (log entry 73). -/
def Obligations.DirectPortPipes : Prop :=
  ∀ s : State, s.part.held = false →
    let p : Part := { s.part with out := [] }
    let d := s.part.dp
    let framed (n : Nat) : Nat := if n < 255 then n + 1 else n
    (∀ len, s.part.mayTake = true → len ≠ 64 →
      GivesQuietly (.dpBadUnit len) s { p with dp := { d with framing := framed d.framing } })
    ∧ (∀ len, s.part.mayTake = false → GivesQuietly (.dpBadUnit len) s p)
    ∧ (∀ bytes : List Byte,
      let c : Instr := .dpDataUnit bytes
      let tag : Tag := BitVec.ofNat 16 (leField bytes 2 2)
      let kind := kindOfCode (byteAt bytes 0)
      (d.out = .record → s.part.mayTake = false → Gives c s p)
      ∧ (s.part.mayTake = true →
        (bytes.length ≠ 64 → Gives c s { p with dp := { d with framing := framed d.framing } })
        ∧ (bytes.length = 64 →
          (kind = none → Gives c s ((portTook p none (.dp tag)).reply (.dp tag) .badRequest))
          ∧ ∀ k, kind = some k →
            (k ∈ [Kind.read, .write, .flush] → Gives c s (Part.issue (.dp tag) (blockOfRecord k bytes) p))
            ∧ (k = .windowInfo → Gives c s (Part.issue (.dp tag) (.windowInfo none) p))
            ∧ (k ∉ [Kind.read, .write, .flush, .windowInfo] →
              Gives c s ((portTook p none (.dp tag)).reply (.dp tag) .denied))))
      ∧ (d.out = .hold → Gives c s p)
      ∧ (d.out = .discard → Gives c s { p with dp := { d with
          remaining := d.remaining - bytes.length, out := if d.remaining ≤ bytes.length then .record else .discard } }))
    ∧ (∀ (bytes : List Byte) (r : Request), d.out = .data → d.writing = some r.id → s.part.request? r.id = some r →
      let data := writeStream r.slots p.router.data (r.count * 4096 - d.remaining) (bytes.take d.remaining)
      (bytes.length < d.remaining → Gives (.dpDataUnit bytes) s { p with
        router := { p.router with data := data }, dp := { d with remaining := d.remaining - bytes.length } })
      ∧ (d.remaining ≤ bytes.length → Gives (.dpDataUnit bytes) s
        (({ p with
          router := { p.router with data := data }
          dp := { d with remaining := 0, out := .record, writing := none
                         framing := if d.remaining < bytes.length then framed d.framing else d.framing } } : Part).modRequest
          r.id fun x => { x with life := .routing })))
    ∧ (∀ n, d.out = .discard →
      (n < d.remaining → GivesQuietly (.dpDiscardData n) s { p with dp := { d with remaining := d.remaining - n } })
      ∧ (d.remaining ≤ n → GivesQuietly (.dpDiscardData n) s { p with dp := { d with remaining := 0, out := .record } }))
    ∧ (∀ (r : Request) (rest : List SendEntry), d.sendList = .readData r.id :: rest → s.part.request? r.id = some r →
      let st := r.outcome.getD .ok
      let q := ({ p with out := [.dpUnit (readSlots p.router.data r.slots)] } : Part).removeRequest r []
      let done := requestCompletion r.tag st (if st = .media then r.failing.getD 0 else 0)
      Gives .dpReadDataSent s { q with dp := { d with sendList := .completion none done :: rest } })
    ∧ ∀ (ans : Option (List Byte)) (c : Completion) (rest : List SendEntry), d.sendList = .completion ans c :: rest →
      GivesQuietly .dpCompletionSent s { p with
        out := (ans.toList.map Output.dpUnit) ++ [.dpUnit (completionBytes c false d.attachPending)]
        dp := { d with sendList := rest, owed := d.owed - 1, attachPending := false } }

/-! ## The configuration, resets and supplies -/

/-- R197, R198, R199: CONFIG_LOAD and CONFIG_SAVE are refused by the first check that fails, or begin; the image is judged when
its last byte is read, giving its settings or the defaults, and at start-up the box then takes its first state; the read-back of
a save ends it SAVED or FAILED. A save writes a header without the image marker, then the sections, and then the true header.
When those writes stand in the outputs is the model's form (log entry 28), and the bytes of the first header are free values
(log entry 52).

R196, R197, R207: an image is judged by its marker, its version, its length and the ends of its sections, its check, and its
sections in image order: the first whose kind is unknown or given before, or whose entries fail, is the one named; an image that
passes gives the settings of its sections, and the defaults of R200 where a section is absent. Of a kind given twice the first
is judged, on its own entries, and bytes that a section lacks read as 0 (the model's choice, log entries 51 and 80); a flag byte
is set where it is not 0 (log entry 21), and the bits of a byte that no table names are ignored (log entry 76).

R12, R129, R160, R198: what putting settings in force records: the budget, the profiles, the SP profile, the windows alone with
their patrol intervals and timers at 0, the matcher's settings with its counts at 0, the box settings with the grace count
clamped; and then the members on the bays with an identity are judged, bay by bay in number order (the model's choice, log entry
39), which starts no rebuild (the model's choice, log entry 71). That the summons's hit count and last hit time stay is the
model's choice too (log entry 90). Of two patrol entries of one window the last holds (the model's
choice, log entry 62).

R144: the first box state, and then the held events in order, each by the box state that the ones before it have left; the
admission tests that they bring come after all of them (the model's choice, log entry 87).

R199, R206, R207: the image of a save: its header, its check, and its sections in kind order with the settings in force, the
OPEN windows alone among them; an address, a profile, a wake entry and a window are read from the bytes that a save writes for
them. That a save writes 0 in bytes that a load ignores, and windows and patrol entries in index order, is the model's choice
(log entries 84 and 85). -/
def Obligations.ConfigurationLoadedAndSaved : Prop :=
  (Part.spoiltHeader.length = 16 ∧ Part.spoiltHeader.take 4 ≠ [0x45, 0x42, 0x43, 0x46])
  ∧ (∀ (seq : Byte) (s : State),
    (Taken (.mp seq) .configLoad s.part →
      let p := portTook s.part (some .configLoad) (.mp seq)
      let c : Instr := .configLoad (.mp seq)
      (s.part.loader.configPresent = false → GivesQuietly c s (p.reply .mp .wrongState))
      ∧ (s.part.loader.configPresent = true → s.part.loader.st ≠ .idle → GivesQuietly c s (p.reply .mp .busy))
      ∧ (s.part.loader.configPresent = true → s.part.loader.st = .idle →
        ((∃ w, (s.part.window w).st ≠ .free) → GivesQuietly c s (p.reply .mp .wrongState))
        ∧ ((∀ w, (s.part.window w).st = .free) →
          GivesQuietly c s { p with loader := { p.loader with st := .loading } })))
    ∧ (Taken (.mp seq) .configSave s.part →
      let p := portTook s.part (some .configSave) (.mp seq)
      let c : Instr := .configSave (.mp seq)
      (s.part.loader.configPresent = false → GivesQuietly c s (p.reply .mp .wrongState))
      ∧ (s.part.loader.configPresent = true → s.part.loader.st ≠ .idle → GivesQuietly c s (p.reply .mp .busy))
      ∧ (s.part.loader.configPresent = true → s.part.loader.st = .idle →
        GivesQuietly c s { p with
          loader := { p.loader with st := .saving, image := s.part.savedImage }
          out := [.eeprom 0 Part.spoiltHeader, .eeprom 16 (s.part.savedImage.drop 16)] })))
  ∧ (∀ (img : List Byte) (s : State), s.part.held = false →
    let p : Part := { s.part with out := [] }
    let judged : Part := match judgeImage img with
      | .ok set =>
        let q := p.putInForce set
        { q with loader := { q.loader with st := .idle, result := .loaded, cfgBad := false } }
      | .error r =>
        let q := p.putInForce (settingsGiven [])
        ({ q with loader := { q.loader with st := .idle, result := .failed r, cfgBad := true } } : Part).raise .cfgBad
    let written : Part := { p with out := [.eeprom 0 (s.part.loader.image.take 16)] }
    (s.part.loader.st = .loading →
      (s.part.box.st = none → Gives (.imageJudged img) s judged.firstState)
      ∧ (s.part.box.st.isSome = true →
        ((∀ w, (s.part.window w).st = .free) →
          Gives (.imageJudged img) s (judged.answer .mp .ok (.load judged.loader.result)))
        ∧ ((∃ w, (s.part.window w).st ≠ .free) → Gives (.imageJudged img) s
          (({ p with loader := { p.loader with st := .idle } } : Part).reply .mp .wrongState))))
    ∧ (s.part.loader.st = .saving →
      (img.take s.part.loader.image.length = s.part.loader.image → GivesQuietly (.saveReadbackEnd img) s
        (({ written with loader := { p.loader with st := .idle, result := .saved, cfgBad := false, image := [] } } : Part).answer .mp
          .ok (.load .saved)))
      ∧ (img.take s.part.loader.image.length ≠ s.part.loader.image → GivesQuietly (.saveReadbackEnd img) s
        ((({ written with loader := { p.loader with
            st := .idle, result := .failed .write, cfgBad := true, image := [] } } : Part).raise .cfgBad).answer .mp
          .transferError (.load (.failed .write))))))
  ∧ (∀ img : List Byte,
    let len := leField img 6 2
    let sound : Prop := img.take 4 = [0x45, 0x42, 0x43, 0x46] ∧ leField img 4 2 = 1
    (img.take 4 ≠ [0x45, 0x42, 0x43, 0x46] → judgeImage img = .error .marker)
    ∧ (img.take 4 = [0x45, 0x42, 0x43, 0x46] → leField img 4 2 ≠ 1 → judgeImage img = .error .version)
    ∧ (sound → (len < 16 ∨ 32768 < len ∨ ∀ l, ¬sectionsAt img len 16 l) → judgeImage img = .error .length)
    ∧ ∀ l, sound → len ≤ 32768 → sectionsAt img len 16 l →
      let passes (before : List Section) (x : Section) : Prop :=
        (∀ y ∈ before, y.kind ≠ x.kind) ∧ sectionPasses (settingsGiven l) x
      ((leField img 8 2 + imageSum img len) % 65536 ≠ 0 → judgeImage img = .error .check)
      ∧ ((leField img 8 2 + imageSum img len) % 65536 = 0 →
        (∀ before x after, l = before ++ x :: after →
          (∀ u y v, before = u ++ y :: v → passes u y) → ¬passes before x → judgeImage img = .error (.badSection x.kind))
        ∧ ((∀ before x after, l = before ++ x :: after → passes before x) → judgeImage img = .ok (settingsGiven l))))
  ∧ (∀ (s : Settings) (p : Part),
    let windowGiven (w : Fin 16) : Window := match s.windows.reverse.find? fun x => x.d.index == w.val with
      | none => {}
      | some x => recordGiven x (match s.patrols.reverse.find? fun y => y.1 == w.val with | none => 0 | some y => min 3600 y.2)
    let entryGiven (i : Fin 24) : Option WakeEntry := match s.wakes[i.val]? with
      | some (some d) => some {
          enabled := d.enabled, terms := d.terms, action := d.action.getD .ignore, bays := baySet d.bays, hold := d.hold
          hits := 0, lastHit := none }
      | _ => none
    p.putInForce s = allBays.foldl (fun q b => match (q.bay b).identity with | none => q | some i => q.foreignCheck b i)
      { p with
        power := { p.power with budget := s.budget, bLow := s.bLow, spProfile := s.sp }
        bays := Vector.ofFn fun b => { p.bay b with profile := (s.profiles[b.val]?).getD (p.bay b).profile }
        windows := Vector.ofFn windowGiven
        matcher := { p.matcher with
          station := s.station, groups := s.groups, summons := s.summons, table := Vector.ofFn entryGiven }
        box := { p.box with
          settings := { grace := s.grace, resumeLimit := s.resumeLimit, attachWakes := s.attachWakes
                        startOnPower := s.startOnPower }
          grace := p.box.grace.map fun n => min n s.grace } })
  ∧ (∀ p : Part,
    let q : Part := { p with box := { p.box with heldEvents := [] } }
    p.firstState = p.box.heldEvents.foldl (fun r e => r.takeHeld e)
      (if p.box.settings.startOnPower = true then q.enterWaking
      else if p.dp.attached = true then q.enterSleep else q.enterDormant)
    ∧ (∀ id spins, p.takeHeld (.alarm id spins) = spins.foldl (fun q b => q.requestStart b)
      (if p.box.st = some .run then p.raise .alarm else p.wakeEvent (.alarm id)))
    ∧ p.takeHeld .shortPress = (if p.box.st = some .run then p.raise .button else p.wakeEvent .button)
    ∧ p.takeHeld .longPress = p.forcedStop
    ∧ (let r := if p.box.st = some .dormant then p.enterSleep else p
      p.takeHeld .attach = (if r.box.settings.attachWakes = true then r.wakeEvent .dpAttach else r))
    ∧ p.takeHeld .boxWake = p.wakeEvent .sc
    ∧ p.takeHeld .forceDormant = (if p.dp.attached = true then p else p.forcedStop))
  ∧ ((∀ a : Option Address, addressAt (Part.placeBytes a) 0 = a)
    ∧ (∀ x : BayProfile,
      let y := profileAt (Part.profileBytes x) 0
      let idle (n : Nat) : Nat := if 1 ≤ n % 65536 ∧ n % 65536 ≤ 59 then 60 else n % 65536
      y.pUp = x.pUp % 65536 ∧ y.pRun = x.pRun % 65536 ∧ y.pStby = x.pStby % 65536 ∧ y.tStart = x.tStart % 65536
        ∧ y.idleStandby = idle x.idleStandby ∧ y.idleOff = idle x.idleOff ∧ y.mayPowerOff = x.mayPowerOff
        ∧ ∀ a, a ∈ y.mask ↔ a ∈ x.mask)
    ∧ (∀ e : WakeEntry, e.terms.length ≤ 4 → allBays.filter (fun b => b ∈ e.bays) = e.bays →
      (∀ t ∈ e.terms, t.offset < 256 ∧ t.len < 256 ∧ t.value < 2 ^ 32 ∧ t.mask < 2 ^ 32) →
      wakeIn (Part.wakeBytes none) = none
      ∧ wakeIn (Part.wakeBytes (some e)) = some {
        enabled := e.enabled, terms := e.terms, action := some e.action, bays := e.bays.map fun b => b.val, hold := e.hold })
    ∧ ∀ (w : Fin 16) (v : Window), v.members.length ≤ 4 →
      let y := windowIn (Part.windowBytes w v)
      let text (n : Nat) (s : List Byte) : Prop := s.length ≤ n ∧ 0 ∉ s
      y.d.index = w.val ∧ y.d.layout = some v.layout ∧ y.d.length = v.length % 2 ^ 64
        ∧ y.d.members = (v.members.map fun m => (m.bay.val, m.base % 2 ^ 40))
        ∧ (∀ u, v.unit = some u → u ∈ [16, 32, 64, 128, 256] → y.d.unit = some u)
        ∧ y.d.ppRight = some v.ppRight ∧ y.d.dpRight = some v.dpRight
        ∧ y.d.lazyAttr = v.lazyAttr ∧ y.d.patrolAttr = v.patrolAttr ∧ y.d.wakesAttr = v.wakesAttr ∧ y.lost = v.lost
        ∧ (v.label = none → y.d.label = none)
        ∧ (∀ l, v.label = some l → l ≠ [] → text 12 l → y.d.label = some l)
        ∧ ((∀ m ∈ v.members, ∀ s, m.serial = some s → text 20 s) → y.serials = v.members.map fun m => m.serial))
  ∧ ∀ p : Part, p.matcher.groups.length = 4 →
    let img := p.savedImage
    let opened := allWindows.filter fun w => (p.window w).st == .opened
    let patrolled := opened.filter fun w => (p.window w).layout == .mirror && (p.window w).patrolAttr
    let flag (b : Bool) : List Byte := [if b = true then 1 else 0]
    img.take 4 = [0x45, 0x42, 0x43, 0x46] ∧ leField img 4 2 = 1 ∧ leField img 6 2 = img.length
      ∧ (leField img 8 2 + imageSum img img.length) % 65536 = 0
      ∧ sectionsAt img img.length 16 [
        { kind := 1, contents := leBytes 2 p.power.budget ++ leBytes 2 p.power.bLow },
        { kind := 2, contents := (allBays.flatMap fun b => Part.profileBytes (p.bay b).profile)
            ++ leBytes 2 p.power.spProfile.sUp ++ leBytes 2 p.power.spProfile.sRun ++ leBytes 2 p.power.spProfile.tSp },
        { kind := 3, contents := BitVec.ofNat 8 opened.length :: opened.flatMap fun w => Part.windowBytes w (p.window w) },
        { kind := 4, contents := (List.finRange 24).flatMap fun i => Part.wakeBytes p.matcher.table[i] },
        { kind := 5, contents := Part.placeBytes p.matcher.station ++ p.matcher.groups.flatMap Part.placeBytes
            ++ flag p.matcher.summons },
        { kind := 6, contents := leBytes 2 p.box.settings.grace ++ leBytes 2 p.box.settings.resumeLimit
            ++ flag p.box.settings.startOnPower },
        { kind := 7, contents := BitVec.ofNat 8 patrolled.length :: patrolled.flatMap fun w =>
            BitVec.ofNat 8 w.val :: leBytes 2 (p.window w).interval },
        { kind := 8, contents := flag p.box.settings.attachWakes }]

/-- R164, R195: while the POR line is held nothing but the box clock runs; its assertion, its release, RESTART and the backup
supply's loss and return leave every item of the main domain at its reset value, with the inputs read, the undelivered
expiries held, and the load begun or the first state taken, as ConfigurationLoadedAndSaved says; and the box clock as it was, or
at its start where its supply was lost. That the slots' contents are kept is the model's choice (log entry 7), and so are that
events already held are discarded (log entry 74) and that a loss or a return of the backup supply that cannot arise changes
nothing (log entry 5); what holds while the line is held is deduced (log entry 26). -/
def Obligations.ResetsAndSupplies : Prop :=
  (∀ (c : Instr) (s : State), s.part.held = true → (∀ i, c ≠ .powerOnReset i) →
    c ∉ [Instr.boxClockTick, .alarmExpiry, .backupSupplyLoss, .backupDomainSupplyReturn, .porLineAsserted] →
    exec c s = .next s)
  ∧ (∀ s : State,
    let kept (p : Part) : Router := { data := p.router.data, nextId := p.router.nextId }
    exec .porLineAsserted s = .next { s with part := {
      ({} : Part) with clock := s.part.clock, router := kept s.part, held := true, statusCode := 0 } }
    ∧ (s.part.held = true → exec .backupSupplyLoss s = .next { s with part := { s.part with clock := { supplied := false } } })
    ∧ (s.part.held = false → exec .backupSupplyLoss s = .next s)
    ∧ (s.part.clock.supplied = true → exec .backupDomainSupplyReturn s = .next s)
    ∧ (s.part.clock.supplied = false → exec .backupDomainSupplyReturn s = .next { s with part := { s.part with clock := {} } }))
  ∧ ∀ (i : ResetInputs) (s : State),
    let mode : BootMode := if i.strap1 then (if i.strap2 then .service else .defaults)
      else (if i.strap2 then .readOnly else .normal)
    let present (b : Fin 4) : Bool := [i.present0, i.present1, i.present2, i.present3][b.val]
    let clock : Clock := if s.part.clock.supplied then s.part.clock else {}
    let fresh : Part := {
      clock := { clock with undelivered := [] }
      router := { data := s.part.router.data, nextId := s.part.router.nextId }
      bays := Vector.ofFn fun b => {
        present := present b, power := if present b then .off else .absent, serviceHold := decide (mode = .service) }
      power := { lowAsserted := i.lowSupply }
      box := { heldEvents := clock.undelivered.map fun u => .alarm u.id u.spins }
      pp := { notices := if i.lowSupply then [.lowSupply] else [] }
      mp := { notices := if i.lowSupply then [.lowSupply] else [], addressStrap := i.addressStrap }
      loader := { mode := mode, configPresent := i.configPresent } }
    let started : Part := if (mode = .normal ∨ mode = .readOnly) ∧ i.configPresent = true
      then { fresh with loader := { fresh.loader with st := .loading } } else fresh.firstState
    exec (.powerOnReset i) s = .next { s with part := (Part.settle Config.cascadeLimit started).finish }
    ∧ ∀ seq, Taken (.mp seq) .restart s.part → s.part.clock.supplied = true → Gives (.restart (.mp seq) i) s started

/-- R201: every event ends with the status-code outputs at the code of the highest-ranking condition present; a step from a
state that shows it leads to a state that shows it, and reset shows it. -/
def Obligations.StatusCodeShowsHighestRank : Prop :=
  (∀ p : Part, p.finish.ShowsHighestRank)
  ∧ (∀ s t : State, s.part.ShowsHighestRank → step s = .next t → t.part.ShowsHighestRank)
  ∧ State.reset.part.ShowsHighestRank

end
end

