-- ==== Sys2Proof/Laws/Lists.lean ====
section
/-! SUPPORT. What the list operations do: giving and freeing slots, and inserting an alarm. Each says once all that a caller
needs, so no proof unfolds them. -/

namespace Sys2Proof.Machine

open Sys2Proof

/-! ## Slots -/

theorem takeSlots_pool_length (h : Holder) : ∀ (n i : Nat) (l : List Holder), (takeSlots h n i l).1.length = l.length
  | 0, _, l => by simp [takeSlots]
  | _ + 1, _, [] => by simp [takeSlots]
  | n + 1, i, x :: l => by
    cases x <;> simp only [takeSlots, List.length_cons] <;> simp [takeSlots_pool_length]

/-- The numbers given are places of the pool that held nothing. -/
theorem mem_takeSlots (h : Holder) : ∀ (n i : Nat) (l : List Holder) (k : Nat), k ∈ (takeSlots h n i l).2 →
    i ≤ k ∧ l[k - i]? = some .free
  | 0, _, _, _ => by simp [takeSlots]
  | _ + 1, _, [], _ => by simp [takeSlots]
  | n + 1, i, x :: l, k => by
    have step : ∀ m, k ∈ (takeSlots h m (i + 1) l).2 → i ≤ k ∧ (x :: l)[k - i]? = some .free := by
      intro m hm
      obtain ⟨hk, hf⟩ := mem_takeSlots h m (i + 1) l k hm
      refine ⟨by omega, ?_⟩
      rw [show k - i = (k - (i + 1)) + 1 by omega, List.getElem?_cons_succ]
      exact hf
    cases x with
    | free =>
      simp only [takeSlots, List.mem_cons]
      rintro (rfl | hm)
      · simp
      · exact step n hm
    | request r =>
      simp only [takeSlots]
      exact step (n + 1)
    | engine =>
      simp only [takeSlots]
      exact step (n + 1)

/-- No number is given twice. -/
theorem takeSlots_nodup (h : Holder) : ∀ (n i : Nat) (l : List Holder), (takeSlots h n i l).2.Nodup
  | 0, _, _ => by simp [takeSlots]
  | _ + 1, _, [] => by simp [takeSlots]
  | n + 1, i, x :: l => by
    cases x with
    | free =>
      simp only [takeSlots, List.nodup_cons]
      exact ⟨fun hm => by have := (mem_takeSlots h n (i + 1) l i hm).1; omega, takeSlots_nodup h n (i + 1) l⟩
    | request r =>
      simp only [takeSlots]
      exact takeSlots_nodup h (n + 1) (i + 1) l
    | engine =>
      simp only [takeSlots]
      exact takeSlots_nodup h (n + 1) (i + 1) l

theorem freeSlotsOf_length (h : Holder) (keep : List Nat) : ∀ (i : Nat) (l : List Holder),
    (freeSlotsOf h keep i l).length = l.length
  | _, [] => rfl
  | i, _ :: l => by simp [freeSlotsOf, freeSlotsOf_length h keep (i + 1) l]

/-! ## The alarm list -/

namespace Part

/-- Inserting adds the alarm and nothing else. -/
theorem mem_insertAlarm (a x : Alarm) (l : List Alarm) : x ∈ insertAlarm a l ↔ x = a ∨ x ∈ l := by
  induction l with
  | nil => simp [insertAlarm]
  | cons y l ih =>
    simp only [insertAlarm]
    split
    · simp only [List.mem_cons, ih]
      tauto
    · simp

theorem insertAlarm_length (a : Alarm) (l : List Alarm) : (insertAlarm a l).length = l.length + 1 := by
  induction l with
  | nil => rfl
  | cons y l ih =>
    simp only [insertAlarm]
    split <;> simp [ih]

/-- Inserting keeps the list in ascending time. -/
theorem insertAlarm_sorted (a : Alarm) (l : List Alarm) (h : l.Pairwise fun x y => x.time ≤ y.time) :
    (insertAlarm a l).Pairwise fun x y => x.time ≤ y.time := by
  induction l with
  | nil => simp [insertAlarm]
  | cons y l ih =>
    obtain ⟨hy, hl⟩ := List.pairwise_cons.1 h
    simp only [insertAlarm]
    split
    · refine List.pairwise_cons.2 ⟨fun x hx => ?_, ih hl⟩
      rcases (mem_insertAlarm a x l).1 hx with rfl | hx
      · assumption
      · exact hy x hx
    · refine List.pairwise_cons.2 ⟨fun x hx => ?_, h⟩
      rcases List.mem_cons.1 hx with rfl | hx
      · omega
      · have := hy x hx
        omega

end Part

end Sys2Proof.Machine
end

