-- ==== Sys2Proof/Laws/State.lean ====
section
/-! SUPPORT. One lemma per field per update: what each of the shared updates of the part leaves as it was. No later proof
unfolds an update to see that a field it does not write is unchanged. -/

namespace Sys2Proof.Machine

open Sys2Proof

namespace Part

/-! ## Fields an update leaves -/

@[simp] theorem modBay_clock (p : Part) (b : Fin 4) (f : Bay → Bay) : (p.modBay b f).clock = p.clock := rfl
@[simp] theorem modBay_held (p : Part) (b : Fin 4) (f : Bay → Bay) : (p.modBay b f).held = p.held := rfl
@[simp] theorem modBay_windows (p : Part) (b : Fin 4) (f : Bay → Bay) : (p.modBay b f).windows = p.windows := rfl
@[simp] theorem modBay_router (p : Part) (b : Fin 4) (f : Bay → Bay) : (p.modBay b f).router = p.router := rfl
@[simp] theorem modBay_power (p : Part) (b : Fin 4) (f : Bay → Bay) : (p.modBay b f).power = p.power := rfl
@[simp] theorem modBay_box (p : Part) (b : Fin 4) (f : Bay → Bay) : (p.modBay b f).box = p.box := rfl
@[simp] theorem modBay_engine (p : Part) (b : Fin 4) (f : Bay → Bay) : (p.modBay b f).engine = p.engine := rfl
@[simp] theorem modBay_matcher (p : Part) (b : Fin 4) (f : Bay → Bay) : (p.modBay b f).matcher = p.matcher := rfl
@[simp] theorem modBay_pp (p : Part) (b : Fin 4) (f : Bay → Bay) : (p.modBay b f).pp = p.pp := rfl
@[simp] theorem modBay_dp (p : Part) (b : Fin 4) (f : Bay → Bay) : (p.modBay b f).dp = p.dp := rfl
@[simp] theorem modBay_mp (p : Part) (b : Fin 4) (f : Bay → Bay) : (p.modBay b f).mp = p.mp := rfl
@[simp] theorem modBay_loader (p : Part) (b : Fin 4) (f : Bay → Bay) : (p.modBay b f).loader = p.loader := rfl
@[simp] theorem modBay_bayRails (p : Part) (b : Fin 4) (f : Bay → Bay) : (p.modBay b f).bayRails = p.bayRails := rfl
@[simp] theorem modBay_statusCode (p : Part) (b : Fin 4) (f : Bay → Bay) : (p.modBay b f).statusCode = p.statusCode := rfl
@[simp] theorem modBay_out (p : Part) (b : Fin 4) (f : Bay → Bay) : (p.modBay b f).out = p.out := rfl
@[simp] theorem modBay_window (p : Part) (b : Fin 4) (f : Bay → Bay) (i : Fin 16) : (p.modBay b f).window i = p.window i := by simp [window]

@[simp] theorem modWindow_clock (p : Part) (w : Fin 16) (f : Window → Window) : (p.modWindow w f).clock = p.clock := rfl
@[simp] theorem modWindow_held (p : Part) (w : Fin 16) (f : Window → Window) : (p.modWindow w f).held = p.held := rfl
@[simp] theorem modWindow_router (p : Part) (w : Fin 16) (f : Window → Window) : (p.modWindow w f).router = p.router := rfl
@[simp] theorem modWindow_bays (p : Part) (w : Fin 16) (f : Window → Window) : (p.modWindow w f).bays = p.bays := rfl
@[simp] theorem modWindow_power (p : Part) (w : Fin 16) (f : Window → Window) : (p.modWindow w f).power = p.power := rfl
@[simp] theorem modWindow_box (p : Part) (w : Fin 16) (f : Window → Window) : (p.modWindow w f).box = p.box := rfl
@[simp] theorem modWindow_engine (p : Part) (w : Fin 16) (f : Window → Window) : (p.modWindow w f).engine = p.engine := rfl
@[simp] theorem modWindow_matcher (p : Part) (w : Fin 16) (f : Window → Window) : (p.modWindow w f).matcher = p.matcher := rfl
@[simp] theorem modWindow_pp (p : Part) (w : Fin 16) (f : Window → Window) : (p.modWindow w f).pp = p.pp := rfl
@[simp] theorem modWindow_dp (p : Part) (w : Fin 16) (f : Window → Window) : (p.modWindow w f).dp = p.dp := rfl
@[simp] theorem modWindow_mp (p : Part) (w : Fin 16) (f : Window → Window) : (p.modWindow w f).mp = p.mp := rfl
@[simp] theorem modWindow_loader (p : Part) (w : Fin 16) (f : Window → Window) : (p.modWindow w f).loader = p.loader := rfl
@[simp] theorem modWindow_bayRails (p : Part) (w : Fin 16) (f : Window → Window) : (p.modWindow w f).bayRails = p.bayRails := rfl
@[simp] theorem modWindow_statusCode (p : Part) (w : Fin 16) (f : Window → Window) : (p.modWindow w f).statusCode = p.statusCode := rfl
@[simp] theorem modWindow_out (p : Part) (w : Fin 16) (f : Window → Window) : (p.modWindow w f).out = p.out := rfl
@[simp] theorem modWindow_bay (p : Part) (w : Fin 16) (f : Window → Window) (i : Fin 4) : (p.modWindow w f).bay i = p.bay i := by simp [bay]

@[simp] theorem modRequest_clock (p : Part) (id : Nat) (f : Request → Request) : (p.modRequest id f).clock = p.clock := rfl
@[simp] theorem modRequest_held (p : Part) (id : Nat) (f : Request → Request) : (p.modRequest id f).held = p.held := rfl
@[simp] theorem modRequest_windows (p : Part) (id : Nat) (f : Request → Request) : (p.modRequest id f).windows = p.windows := rfl
@[simp] theorem modRequest_bays (p : Part) (id : Nat) (f : Request → Request) : (p.modRequest id f).bays = p.bays := rfl
@[simp] theorem modRequest_power (p : Part) (id : Nat) (f : Request → Request) : (p.modRequest id f).power = p.power := rfl
@[simp] theorem modRequest_box (p : Part) (id : Nat) (f : Request → Request) : (p.modRequest id f).box = p.box := rfl
@[simp] theorem modRequest_engine (p : Part) (id : Nat) (f : Request → Request) : (p.modRequest id f).engine = p.engine := rfl
@[simp] theorem modRequest_matcher (p : Part) (id : Nat) (f : Request → Request) : (p.modRequest id f).matcher = p.matcher := rfl
@[simp] theorem modRequest_pp (p : Part) (id : Nat) (f : Request → Request) : (p.modRequest id f).pp = p.pp := rfl
@[simp] theorem modRequest_dp (p : Part) (id : Nat) (f : Request → Request) : (p.modRequest id f).dp = p.dp := rfl
@[simp] theorem modRequest_mp (p : Part) (id : Nat) (f : Request → Request) : (p.modRequest id f).mp = p.mp := rfl
@[simp] theorem modRequest_loader (p : Part) (id : Nat) (f : Request → Request) : (p.modRequest id f).loader = p.loader := rfl
@[simp] theorem modRequest_bayRails (p : Part) (id : Nat) (f : Request → Request) : (p.modRequest id f).bayRails = p.bayRails := rfl
@[simp] theorem modRequest_statusCode (p : Part) (id : Nat) (f : Request → Request) : (p.modRequest id f).statusCode = p.statusCode := rfl
@[simp] theorem modRequest_out (p : Part) (id : Nat) (f : Request → Request) : (p.modRequest id f).out = p.out := rfl
@[simp] theorem modRequest_bay (p : Part) (id : Nat) (f : Request → Request) (i : Fin 4) : (p.modRequest id f).bay i = p.bay i := by simp [bay]
@[simp] theorem modRequest_window (p : Part) (id : Nat) (f : Request → Request) (i : Fin 16) : (p.modRequest id f).window i = p.window i := by simp [window]

@[simp] theorem modFrag_clock (p : Part) (id k : Nat) (f : Fragment → Fragment) : (p.modFrag id k f).clock = p.clock := rfl
@[simp] theorem modFrag_held (p : Part) (id k : Nat) (f : Fragment → Fragment) : (p.modFrag id k f).held = p.held := rfl
@[simp] theorem modFrag_windows (p : Part) (id k : Nat) (f : Fragment → Fragment) : (p.modFrag id k f).windows = p.windows := rfl
@[simp] theorem modFrag_bays (p : Part) (id k : Nat) (f : Fragment → Fragment) : (p.modFrag id k f).bays = p.bays := rfl
@[simp] theorem modFrag_power (p : Part) (id k : Nat) (f : Fragment → Fragment) : (p.modFrag id k f).power = p.power := rfl
@[simp] theorem modFrag_box (p : Part) (id k : Nat) (f : Fragment → Fragment) : (p.modFrag id k f).box = p.box := rfl
@[simp] theorem modFrag_engine (p : Part) (id k : Nat) (f : Fragment → Fragment) : (p.modFrag id k f).engine = p.engine := rfl
@[simp] theorem modFrag_matcher (p : Part) (id k : Nat) (f : Fragment → Fragment) : (p.modFrag id k f).matcher = p.matcher := rfl
@[simp] theorem modFrag_pp (p : Part) (id k : Nat) (f : Fragment → Fragment) : (p.modFrag id k f).pp = p.pp := rfl
@[simp] theorem modFrag_dp (p : Part) (id k : Nat) (f : Fragment → Fragment) : (p.modFrag id k f).dp = p.dp := rfl
@[simp] theorem modFrag_mp (p : Part) (id k : Nat) (f : Fragment → Fragment) : (p.modFrag id k f).mp = p.mp := rfl
@[simp] theorem modFrag_loader (p : Part) (id k : Nat) (f : Fragment → Fragment) : (p.modFrag id k f).loader = p.loader := rfl
@[simp] theorem modFrag_bayRails (p : Part) (id k : Nat) (f : Fragment → Fragment) : (p.modFrag id k f).bayRails = p.bayRails := rfl
@[simp] theorem modFrag_statusCode (p : Part) (id k : Nat) (f : Fragment → Fragment) : (p.modFrag id k f).statusCode = p.statusCode := rfl
@[simp] theorem modFrag_out (p : Part) (id k : Nat) (f : Fragment → Fragment) : (p.modFrag id k f).out = p.out := rfl
@[simp] theorem modFrag_bay (p : Part) (id k : Nat) (f : Fragment → Fragment) (i : Fin 4) : (p.modFrag id k f).bay i = p.bay i := by simp [bay]
@[simp] theorem modFrag_window (p : Part) (id k : Nat) (f : Fragment → Fragment) (i : Fin 16) : (p.modFrag id k f).window i = p.window i := by simp [window]

@[simp] theorem emit_clock (p : Part) (o : Output) : (p.emit o).clock = p.clock := rfl
@[simp] theorem emit_held (p : Part) (o : Output) : (p.emit o).held = p.held := rfl
@[simp] theorem emit_windows (p : Part) (o : Output) : (p.emit o).windows = p.windows := rfl
@[simp] theorem emit_router (p : Part) (o : Output) : (p.emit o).router = p.router := rfl
@[simp] theorem emit_bays (p : Part) (o : Output) : (p.emit o).bays = p.bays := rfl
@[simp] theorem emit_power (p : Part) (o : Output) : (p.emit o).power = p.power := rfl
@[simp] theorem emit_box (p : Part) (o : Output) : (p.emit o).box = p.box := rfl
@[simp] theorem emit_engine (p : Part) (o : Output) : (p.emit o).engine = p.engine := rfl
@[simp] theorem emit_matcher (p : Part) (o : Output) : (p.emit o).matcher = p.matcher := rfl
@[simp] theorem emit_pp (p : Part) (o : Output) : (p.emit o).pp = p.pp := rfl
@[simp] theorem emit_dp (p : Part) (o : Output) : (p.emit o).dp = p.dp := rfl
@[simp] theorem emit_mp (p : Part) (o : Output) : (p.emit o).mp = p.mp := rfl
@[simp] theorem emit_loader (p : Part) (o : Output) : (p.emit o).loader = p.loader := rfl
@[simp] theorem emit_bayRails (p : Part) (o : Output) : (p.emit o).bayRails = p.bayRails := rfl
@[simp] theorem emit_statusCode (p : Part) (o : Output) : (p.emit o).statusCode = p.statusCode := rfl
@[simp] theorem emit_bay (p : Part) (o : Output) (i : Fin 4) : (p.emit o).bay i = p.bay i := by simp [bay]
@[simp] theorem emit_window (p : Part) (o : Output) (i : Fin 16) : (p.emit o).window i = p.window i := by simp [window]

@[simp] theorem releaseSlots_clock (p : Part) (h : Holder) (keep : List Nat) : (p.releaseSlots h keep).clock = p.clock := rfl
@[simp] theorem releaseSlots_held (p : Part) (h : Holder) (keep : List Nat) : (p.releaseSlots h keep).held = p.held := rfl
@[simp] theorem releaseSlots_windows (p : Part) (h : Holder) (keep : List Nat) : (p.releaseSlots h keep).windows = p.windows := rfl
@[simp] theorem releaseSlots_bays (p : Part) (h : Holder) (keep : List Nat) : (p.releaseSlots h keep).bays = p.bays := rfl
@[simp] theorem releaseSlots_power (p : Part) (h : Holder) (keep : List Nat) : (p.releaseSlots h keep).power = p.power := rfl
@[simp] theorem releaseSlots_box (p : Part) (h : Holder) (keep : List Nat) : (p.releaseSlots h keep).box = p.box := rfl
@[simp] theorem releaseSlots_engine (p : Part) (h : Holder) (keep : List Nat) : (p.releaseSlots h keep).engine = p.engine := rfl
@[simp] theorem releaseSlots_matcher (p : Part) (h : Holder) (keep : List Nat) : (p.releaseSlots h keep).matcher = p.matcher := rfl
@[simp] theorem releaseSlots_pp (p : Part) (h : Holder) (keep : List Nat) : (p.releaseSlots h keep).pp = p.pp := rfl
@[simp] theorem releaseSlots_dp (p : Part) (h : Holder) (keep : List Nat) : (p.releaseSlots h keep).dp = p.dp := rfl
@[simp] theorem releaseSlots_mp (p : Part) (h : Holder) (keep : List Nat) : (p.releaseSlots h keep).mp = p.mp := rfl
@[simp] theorem releaseSlots_loader (p : Part) (h : Holder) (keep : List Nat) : (p.releaseSlots h keep).loader = p.loader := rfl
@[simp] theorem releaseSlots_bayRails (p : Part) (h : Holder) (keep : List Nat) : (p.releaseSlots h keep).bayRails = p.bayRails := rfl
@[simp] theorem releaseSlots_statusCode (p : Part) (h : Holder) (keep : List Nat) : (p.releaseSlots h keep).statusCode = p.statusCode := rfl
@[simp] theorem releaseSlots_out (p : Part) (h : Holder) (keep : List Nat) : (p.releaseSlots h keep).out = p.out := rfl
@[simp] theorem releaseSlots_bay (p : Part) (h : Holder) (keep : List Nat) (i : Fin 4) : (p.releaseSlots h keep).bay i = p.bay i := by simp [bay]
@[simp] theorem releaseSlots_window (p : Part) (h : Holder) (keep : List Nat) (i : Fin 16) : (p.releaseSlots h keep).window i = p.window i := by simp [window]

@[simp] theorem leaveSlotWait_clock (p : Part) (w : Waiter) : (p.leaveSlotWait w).clock = p.clock := rfl
@[simp] theorem leaveSlotWait_held (p : Part) (w : Waiter) : (p.leaveSlotWait w).held = p.held := rfl
@[simp] theorem leaveSlotWait_windows (p : Part) (w : Waiter) : (p.leaveSlotWait w).windows = p.windows := rfl
@[simp] theorem leaveSlotWait_bays (p : Part) (w : Waiter) : (p.leaveSlotWait w).bays = p.bays := rfl
@[simp] theorem leaveSlotWait_power (p : Part) (w : Waiter) : (p.leaveSlotWait w).power = p.power := rfl
@[simp] theorem leaveSlotWait_box (p : Part) (w : Waiter) : (p.leaveSlotWait w).box = p.box := rfl
@[simp] theorem leaveSlotWait_engine (p : Part) (w : Waiter) : (p.leaveSlotWait w).engine = p.engine := rfl
@[simp] theorem leaveSlotWait_matcher (p : Part) (w : Waiter) : (p.leaveSlotWait w).matcher = p.matcher := rfl
@[simp] theorem leaveSlotWait_pp (p : Part) (w : Waiter) : (p.leaveSlotWait w).pp = p.pp := rfl
@[simp] theorem leaveSlotWait_dp (p : Part) (w : Waiter) : (p.leaveSlotWait w).dp = p.dp := rfl
@[simp] theorem leaveSlotWait_mp (p : Part) (w : Waiter) : (p.leaveSlotWait w).mp = p.mp := rfl
@[simp] theorem leaveSlotWait_loader (p : Part) (w : Waiter) : (p.leaveSlotWait w).loader = p.loader := rfl
@[simp] theorem leaveSlotWait_bayRails (p : Part) (w : Waiter) : (p.leaveSlotWait w).bayRails = p.bayRails := rfl
@[simp] theorem leaveSlotWait_statusCode (p : Part) (w : Waiter) : (p.leaveSlotWait w).statusCode = p.statusCode := rfl
@[simp] theorem leaveSlotWait_out (p : Part) (w : Waiter) : (p.leaveSlotWait w).out = p.out := rfl
@[simp] theorem leaveSlotWait_bay (p : Part) (w : Waiter) (i : Fin 4) : (p.leaveSlotWait w).bay i = p.bay i := by simp [bay]
@[simp] theorem leaveSlotWait_window (p : Part) (w : Waiter) (i : Fin 16) : (p.leaveSlotWait w).window i = p.window i := by simp [window]

@[simp] theorem begin_clock (p : Part) : (p.begin).clock = p.clock := rfl
@[simp] theorem begin_held (p : Part) : (p.begin).held = p.held := rfl
@[simp] theorem begin_windows (p : Part) : (p.begin).windows = p.windows := rfl
@[simp] theorem begin_router (p : Part) : (p.begin).router = p.router := rfl
@[simp] theorem begin_bays (p : Part) : (p.begin).bays = p.bays := rfl
@[simp] theorem begin_power (p : Part) : (p.begin).power = p.power := rfl
@[simp] theorem begin_box (p : Part) : (p.begin).box = p.box := rfl
@[simp] theorem begin_engine (p : Part) : (p.begin).engine = p.engine := rfl
@[simp] theorem begin_matcher (p : Part) : (p.begin).matcher = p.matcher := rfl
@[simp] theorem begin_pp (p : Part) : (p.begin).pp = p.pp := rfl
@[simp] theorem begin_dp (p : Part) : (p.begin).dp = p.dp := rfl
@[simp] theorem begin_mp (p : Part) : (p.begin).mp = p.mp := rfl
@[simp] theorem begin_loader (p : Part) : (p.begin).loader = p.loader := rfl
@[simp] theorem begin_bayRails (p : Part) : (p.begin).bayRails = p.bayRails := rfl
@[simp] theorem begin_statusCode (p : Part) : (p.begin).statusCode = p.statusCode := rfl
@[simp] theorem begin_bay (p : Part) (i : Fin 4) : (p.begin).bay i = p.bay i := by simp [bay]
@[simp] theorem begin_window (p : Part) (i : Fin 16) : (p.begin).window i = p.window i := by simp [window]

@[simp] theorem refresh_clock (p : Part) : (p.refresh).clock = p.clock := rfl
@[simp] theorem refresh_held (p : Part) : (p.refresh).held = p.held := rfl
@[simp] theorem refresh_windows (p : Part) : (p.refresh).windows = p.windows := rfl
@[simp] theorem refresh_router (p : Part) : (p.refresh).router = p.router := rfl
@[simp] theorem refresh_bays (p : Part) : (p.refresh).bays = p.bays := rfl
@[simp] theorem refresh_power (p : Part) : (p.refresh).power = p.power := rfl
@[simp] theorem refresh_box (p : Part) : (p.refresh).box = p.box := rfl
@[simp] theorem refresh_engine (p : Part) : (p.refresh).engine = p.engine := rfl
@[simp] theorem refresh_matcher (p : Part) : (p.refresh).matcher = p.matcher := rfl
@[simp] theorem refresh_pp (p : Part) : (p.refresh).pp = p.pp := rfl
@[simp] theorem refresh_dp (p : Part) : (p.refresh).dp = p.dp := rfl
@[simp] theorem refresh_loader (p : Part) : (p.refresh).loader = p.loader := rfl
@[simp] theorem refresh_out (p : Part) : (p.refresh).out = p.out := rfl
@[simp] theorem refresh_bay (p : Part) (i : Fin 4) : (p.refresh).bay i = p.bay i := by simp [bay]
@[simp] theorem refresh_window (p : Part) (i : Fin 16) : (p.refresh).window i = p.window i := by simp [window]

@[simp] theorem markEnded_clock (p : Part) : (p.markEnded).clock = p.clock := rfl
@[simp] theorem markEnded_held (p : Part) : (p.markEnded).held = p.held := rfl
@[simp] theorem markEnded_windows (p : Part) : (p.markEnded).windows = p.windows := rfl
@[simp] theorem markEnded_bays (p : Part) : (p.markEnded).bays = p.bays := rfl
@[simp] theorem markEnded_power (p : Part) : (p.markEnded).power = p.power := rfl
@[simp] theorem markEnded_box (p : Part) : (p.markEnded).box = p.box := rfl
@[simp] theorem markEnded_engine (p : Part) : (p.markEnded).engine = p.engine := rfl
@[simp] theorem markEnded_matcher (p : Part) : (p.markEnded).matcher = p.matcher := rfl
@[simp] theorem markEnded_pp (p : Part) : (p.markEnded).pp = p.pp := rfl
@[simp] theorem markEnded_dp (p : Part) : (p.markEnded).dp = p.dp := rfl
@[simp] theorem markEnded_mp (p : Part) : (p.markEnded).mp = p.mp := rfl
@[simp] theorem markEnded_loader (p : Part) : (p.markEnded).loader = p.loader := rfl
@[simp] theorem markEnded_bayRails (p : Part) : (p.markEnded).bayRails = p.bayRails := rfl
@[simp] theorem markEnded_statusCode (p : Part) : (p.markEnded).statusCode = p.statusCode := rfl
@[simp] theorem markEnded_out (p : Part) : (p.markEnded).out = p.out := rfl
@[simp] theorem markEnded_bay (p : Part) (i : Fin 4) : (p.markEnded).bay i = p.bay i := by simp [bay]
@[simp] theorem markEnded_window (p : Part) (i : Fin 16) : (p.markEnded).window i = p.window i := by simp [window]

@[simp] theorem readRecord_clock (p : Part) : (p.readRecord).clock = p.clock := rfl
@[simp] theorem readRecord_held (p : Part) : (p.readRecord).held = p.held := rfl
@[simp] theorem readRecord_windows (p : Part) : (p.readRecord).windows = p.windows := rfl
@[simp] theorem readRecord_router (p : Part) : (p.readRecord).router = p.router := rfl
@[simp] theorem readRecord_bays (p : Part) : (p.readRecord).bays = p.bays := rfl
@[simp] theorem readRecord_power (p : Part) : (p.readRecord).power = p.power := rfl
@[simp] theorem readRecord_box (p : Part) : (p.readRecord).box = p.box := rfl
@[simp] theorem readRecord_engine (p : Part) : (p.readRecord).engine = p.engine := rfl
@[simp] theorem readRecord_matcher (p : Part) : (p.readRecord).matcher = p.matcher := rfl
@[simp] theorem readRecord_pp (p : Part) : (p.readRecord).pp = p.pp := rfl
@[simp] theorem readRecord_dp (p : Part) : (p.readRecord).dp = p.dp := rfl
@[simp] theorem readRecord_mp (p : Part) : (p.readRecord).mp = p.mp := rfl
@[simp] theorem readRecord_loader (p : Part) : (p.readRecord).loader = p.loader := rfl
@[simp] theorem readRecord_bayRails (p : Part) : (p.readRecord).bayRails = p.bayRails := rfl
@[simp] theorem readRecord_statusCode (p : Part) : (p.readRecord).statusCode = p.statusCode := rfl
@[simp] theorem readRecord_bay (p : Part) (i : Fin 4) : (p.readRecord).bay i = p.bay i := by simp [bay]
@[simp] theorem readRecord_window (p : Part) (i : Fin 16) : (p.readRecord).window i = p.window i := by simp [window]

@[simp] theorem fetched_clock (p : Part) : (p.fetched).clock = p.clock := rfl
@[simp] theorem fetched_held (p : Part) : (p.fetched).held = p.held := rfl
@[simp] theorem fetched_windows (p : Part) : (p.fetched).windows = p.windows := rfl
@[simp] theorem fetched_router (p : Part) : (p.fetched).router = p.router := rfl
@[simp] theorem fetched_bays (p : Part) : (p.fetched).bays = p.bays := rfl
@[simp] theorem fetched_power (p : Part) : (p.fetched).power = p.power := rfl
@[simp] theorem fetched_box (p : Part) : (p.fetched).box = p.box := rfl
@[simp] theorem fetched_engine (p : Part) : (p.fetched).engine = p.engine := rfl
@[simp] theorem fetched_matcher (p : Part) : (p.fetched).matcher = p.matcher := rfl
@[simp] theorem fetched_dp (p : Part) : (p.fetched).dp = p.dp := rfl
@[simp] theorem fetched_mp (p : Part) : (p.fetched).mp = p.mp := rfl
@[simp] theorem fetched_loader (p : Part) : (p.fetched).loader = p.loader := rfl
@[simp] theorem fetched_bayRails (p : Part) : (p.fetched).bayRails = p.bayRails := rfl
@[simp] theorem fetched_statusCode (p : Part) : (p.fetched).statusCode = p.statusCode := rfl
@[simp] theorem fetched_bay (p : Part) (i : Fin 4) : (p.fetched).bay i = p.bay i := by simp [bay]
@[simp] theorem fetched_window (p : Part) (i : Fin 16) : (p.fetched).window i = p.window i := by simp [window]

@[simp] theorem deliverBlocks_clock (p : Part) (r : Request) (list : List Byte) : (p.deliverBlocks r list).clock = p.clock := rfl
@[simp] theorem deliverBlocks_held (p : Part) (r : Request) (list : List Byte) : (p.deliverBlocks r list).held = p.held := rfl
@[simp] theorem deliverBlocks_windows (p : Part) (r : Request) (list : List Byte) : (p.deliverBlocks r list).windows = p.windows := rfl
@[simp] theorem deliverBlocks_router (p : Part) (r : Request) (list : List Byte) : (p.deliverBlocks r list).router = p.router := rfl
@[simp] theorem deliverBlocks_bays (p : Part) (r : Request) (list : List Byte) : (p.deliverBlocks r list).bays = p.bays := rfl
@[simp] theorem deliverBlocks_power (p : Part) (r : Request) (list : List Byte) : (p.deliverBlocks r list).power = p.power := rfl
@[simp] theorem deliverBlocks_box (p : Part) (r : Request) (list : List Byte) : (p.deliverBlocks r list).box = p.box := rfl
@[simp] theorem deliverBlocks_engine (p : Part) (r : Request) (list : List Byte) : (p.deliverBlocks r list).engine = p.engine := rfl
@[simp] theorem deliverBlocks_matcher (p : Part) (r : Request) (list : List Byte) : (p.deliverBlocks r list).matcher = p.matcher := rfl
@[simp] theorem deliverBlocks_pp (p : Part) (r : Request) (list : List Byte) : (p.deliverBlocks r list).pp = p.pp := rfl
@[simp] theorem deliverBlocks_dp (p : Part) (r : Request) (list : List Byte) : (p.deliverBlocks r list).dp = p.dp := rfl
@[simp] theorem deliverBlocks_mp (p : Part) (r : Request) (list : List Byte) : (p.deliverBlocks r list).mp = p.mp := rfl
@[simp] theorem deliverBlocks_loader (p : Part) (r : Request) (list : List Byte) : (p.deliverBlocks r list).loader = p.loader := rfl
@[simp] theorem deliverBlocks_bayRails (p : Part) (r : Request) (list : List Byte) : (p.deliverBlocks r list).bayRails = p.bayRails := rfl
@[simp] theorem deliverBlocks_statusCode (p : Part) (r : Request) (list : List Byte) : (p.deliverBlocks r list).statusCode = p.statusCode := rfl
@[simp] theorem deliverBlocks_bay (p : Part) (r : Request) (list : List Byte) (i : Fin 4) : (p.deliverBlocks r list).bay i = p.bay i := by simp [bay]
@[simp] theorem deliverBlocks_window (p : Part) (r : Request) (list : List Byte) (i : Fin 16) : (p.deliverBlocks r list).window i = p.window i := by simp [window]

@[simp] theorem takeBlocks_clock (p : Part) (r : Request) (list : List Byte) (k : Nat) (data : List Byte) : (p.takeBlocks r list k data).clock = p.clock := rfl
@[simp] theorem takeBlocks_held (p : Part) (r : Request) (list : List Byte) (k : Nat) (data : List Byte) : (p.takeBlocks r list k data).held = p.held := rfl
@[simp] theorem takeBlocks_windows (p : Part) (r : Request) (list : List Byte) (k : Nat) (data : List Byte) : (p.takeBlocks r list k data).windows = p.windows := rfl
@[simp] theorem takeBlocks_bays (p : Part) (r : Request) (list : List Byte) (k : Nat) (data : List Byte) : (p.takeBlocks r list k data).bays = p.bays := rfl
@[simp] theorem takeBlocks_power (p : Part) (r : Request) (list : List Byte) (k : Nat) (data : List Byte) : (p.takeBlocks r list k data).power = p.power := rfl
@[simp] theorem takeBlocks_box (p : Part) (r : Request) (list : List Byte) (k : Nat) (data : List Byte) : (p.takeBlocks r list k data).box = p.box := rfl
@[simp] theorem takeBlocks_engine (p : Part) (r : Request) (list : List Byte) (k : Nat) (data : List Byte) : (p.takeBlocks r list k data).engine = p.engine := rfl
@[simp] theorem takeBlocks_matcher (p : Part) (r : Request) (list : List Byte) (k : Nat) (data : List Byte) : (p.takeBlocks r list k data).matcher = p.matcher := rfl
@[simp] theorem takeBlocks_pp (p : Part) (r : Request) (list : List Byte) (k : Nat) (data : List Byte) : (p.takeBlocks r list k data).pp = p.pp := rfl
@[simp] theorem takeBlocks_dp (p : Part) (r : Request) (list : List Byte) (k : Nat) (data : List Byte) : (p.takeBlocks r list k data).dp = p.dp := rfl
@[simp] theorem takeBlocks_mp (p : Part) (r : Request) (list : List Byte) (k : Nat) (data : List Byte) : (p.takeBlocks r list k data).mp = p.mp := rfl
@[simp] theorem takeBlocks_loader (p : Part) (r : Request) (list : List Byte) (k : Nat) (data : List Byte) : (p.takeBlocks r list k data).loader = p.loader := rfl
@[simp] theorem takeBlocks_bayRails (p : Part) (r : Request) (list : List Byte) (k : Nat) (data : List Byte) : (p.takeBlocks r list k data).bayRails = p.bayRails := rfl
@[simp] theorem takeBlocks_statusCode (p : Part) (r : Request) (list : List Byte) (k : Nat) (data : List Byte) : (p.takeBlocks r list k data).statusCode = p.statusCode := rfl
@[simp] theorem takeBlocks_bay (p : Part) (r : Request) (list : List Byte) (k : Nat) (data : List Byte) (i : Fin 4) : (p.takeBlocks r list k data).bay i = p.bay i := by simp [bay]
@[simp] theorem takeBlocks_window (p : Part) (r : Request) (list : List Byte) (k : Nat) (data : List Byte) (i : Fin 16) : (p.takeBlocks r list k data).window i = p.window i := by simp [window]
@[simp] theorem takeBlocks_router (p : Part) (r : Request) (list : List Byte) (k : Nat) (data : List Byte) :
    (p.takeBlocks r list k data).router = { p.router with data := writeStream r.slots p.router.data 0 data } := rfl

@[simp] theorem taken_clock (p : Part) : (p.taken).clock = p.clock := rfl
@[simp] theorem taken_held (p : Part) : (p.taken).held = p.held := rfl
@[simp] theorem taken_windows (p : Part) : (p.taken).windows = p.windows := rfl
@[simp] theorem taken_router (p : Part) : (p.taken).router = p.router := rfl
@[simp] theorem taken_bays (p : Part) : (p.taken).bays = p.bays := rfl
@[simp] theorem taken_power (p : Part) : (p.taken).power = p.power := rfl
@[simp] theorem taken_box (p : Part) : (p.taken).box = p.box := rfl
@[simp] theorem taken_engine (p : Part) : (p.taken).engine = p.engine := rfl
@[simp] theorem taken_matcher (p : Part) : (p.taken).matcher = p.matcher := rfl
@[simp] theorem taken_pp (p : Part) : (p.taken).pp = p.pp := rfl
@[simp] theorem taken_mp (p : Part) : (p.taken).mp = p.mp := rfl
@[simp] theorem taken_loader (p : Part) : (p.taken).loader = p.loader := rfl
@[simp] theorem taken_bayRails (p : Part) : (p.taken).bayRails = p.bayRails := rfl
@[simp] theorem taken_statusCode (p : Part) : (p.taken).statusCode = p.statusCode := rfl
@[simp] theorem taken_out (p : Part) : (p.taken).out = p.out := rfl
@[simp] theorem taken_bay (p : Part) (i : Fin 4) : (p.taken).bay i = p.bay i := by simp [bay]
@[simp] theorem taken_window (p : Part) (i : Fin 16) : (p.taken).window i = p.window i := by simp [window]

@[simp] theorem frameTaken_clock (p : Part) (seq : Byte) (k : Option Kind) : (p.frameTaken seq k).clock = p.clock := rfl
@[simp] theorem frameTaken_held (p : Part) (seq : Byte) (k : Option Kind) : (p.frameTaken seq k).held = p.held := rfl
@[simp] theorem frameTaken_windows (p : Part) (seq : Byte) (k : Option Kind) : (p.frameTaken seq k).windows = p.windows := rfl
@[simp] theorem frameTaken_router (p : Part) (seq : Byte) (k : Option Kind) : (p.frameTaken seq k).router = p.router := rfl
@[simp] theorem frameTaken_bays (p : Part) (seq : Byte) (k : Option Kind) : (p.frameTaken seq k).bays = p.bays := rfl
@[simp] theorem frameTaken_power (p : Part) (seq : Byte) (k : Option Kind) : (p.frameTaken seq k).power = p.power := rfl
@[simp] theorem frameTaken_box (p : Part) (seq : Byte) (k : Option Kind) : (p.frameTaken seq k).box = p.box := rfl
@[simp] theorem frameTaken_engine (p : Part) (seq : Byte) (k : Option Kind) : (p.frameTaken seq k).engine = p.engine := rfl
@[simp] theorem frameTaken_matcher (p : Part) (seq : Byte) (k : Option Kind) : (p.frameTaken seq k).matcher = p.matcher := rfl
@[simp] theorem frameTaken_pp (p : Part) (seq : Byte) (k : Option Kind) : (p.frameTaken seq k).pp = p.pp := rfl
@[simp] theorem frameTaken_dp (p : Part) (seq : Byte) (k : Option Kind) : (p.frameTaken seq k).dp = p.dp := rfl
@[simp] theorem frameTaken_loader (p : Part) (seq : Byte) (k : Option Kind) : (p.frameTaken seq k).loader = p.loader := rfl
@[simp] theorem frameTaken_bayRails (p : Part) (seq : Byte) (k : Option Kind) : (p.frameTaken seq k).bayRails = p.bayRails := rfl
@[simp] theorem frameTaken_statusCode (p : Part) (seq : Byte) (k : Option Kind) : (p.frameTaken seq k).statusCode = p.statusCode := rfl
@[simp] theorem frameTaken_out (p : Part) (seq : Byte) (k : Option Kind) : (p.frameTaken seq k).out = p.out := rfl
@[simp] theorem frameTaken_bay (p : Part) (seq : Byte) (k : Option Kind) (i : Fin 4) : (p.frameTaken seq k).bay i = p.bay i := by simp [bay]
@[simp] theorem frameTaken_window (p : Part) (seq : Byte) (k : Option Kind) (i : Fin 16) : (p.frameTaken seq k).window i = p.window i := by simp [window]

@[simp] theorem overrun_clock (p : Part) : (p.overrun).clock = p.clock := rfl
@[simp] theorem overrun_held (p : Part) : (p.overrun).held = p.held := rfl
@[simp] theorem overrun_windows (p : Part) : (p.overrun).windows = p.windows := rfl
@[simp] theorem overrun_router (p : Part) : (p.overrun).router = p.router := rfl
@[simp] theorem overrun_bays (p : Part) : (p.overrun).bays = p.bays := rfl
@[simp] theorem overrun_power (p : Part) : (p.overrun).power = p.power := rfl
@[simp] theorem overrun_box (p : Part) : (p.overrun).box = p.box := rfl
@[simp] theorem overrun_engine (p : Part) : (p.overrun).engine = p.engine := rfl
@[simp] theorem overrun_matcher (p : Part) : (p.overrun).matcher = p.matcher := rfl
@[simp] theorem overrun_pp (p : Part) : (p.overrun).pp = p.pp := rfl
@[simp] theorem overrun_dp (p : Part) : (p.overrun).dp = p.dp := rfl
@[simp] theorem overrun_loader (p : Part) : (p.overrun).loader = p.loader := rfl
@[simp] theorem overrun_bayRails (p : Part) : (p.overrun).bayRails = p.bayRails := rfl
@[simp] theorem overrun_statusCode (p : Part) : (p.overrun).statusCode = p.statusCode := rfl
@[simp] theorem overrun_out (p : Part) : (p.overrun).out = p.out := rfl
@[simp] theorem overrun_bay (p : Part) (i : Fin 4) : (p.overrun).bay i = p.bay i := by simp [bay]
@[simp] theorem overrun_window (p : Part) (i : Fin 16) : (p.overrun).window i = p.window i := by simp [window]

@[simp] theorem noticeError_clock (p : Part) : (p.noticeError).clock = p.clock := rfl
@[simp] theorem noticeError_held (p : Part) : (p.noticeError).held = p.held := rfl
@[simp] theorem noticeError_windows (p : Part) : (p.noticeError).windows = p.windows := rfl
@[simp] theorem noticeError_router (p : Part) : (p.noticeError).router = p.router := rfl
@[simp] theorem noticeError_bays (p : Part) : (p.noticeError).bays = p.bays := rfl
@[simp] theorem noticeError_power (p : Part) : (p.noticeError).power = p.power := rfl
@[simp] theorem noticeError_box (p : Part) : (p.noticeError).box = p.box := rfl
@[simp] theorem noticeError_engine (p : Part) : (p.noticeError).engine = p.engine := rfl
@[simp] theorem noticeError_matcher (p : Part) : (p.noticeError).matcher = p.matcher := rfl
@[simp] theorem noticeError_dp (p : Part) : (p.noticeError).dp = p.dp := rfl
@[simp] theorem noticeError_mp (p : Part) : (p.noticeError).mp = p.mp := rfl
@[simp] theorem noticeError_loader (p : Part) : (p.noticeError).loader = p.loader := rfl
@[simp] theorem noticeError_bayRails (p : Part) : (p.noticeError).bayRails = p.bayRails := rfl
@[simp] theorem noticeError_statusCode (p : Part) : (p.noticeError).statusCode = p.statusCode := rfl
@[simp] theorem noticeError_out (p : Part) : (p.noticeError).out = p.out := rfl
@[simp] theorem noticeError_bay (p : Part) (i : Fin 4) : (p.noticeError).bay i = p.bay i := by simp [bay]
@[simp] theorem noticeError_window (p : Part) (i : Fin 16) : (p.noticeError).window i = p.window i := by simp [window]

@[simp] theorem framingError_clock (p : Part) : (p.framingError).clock = p.clock := rfl
@[simp] theorem framingError_held (p : Part) : (p.framingError).held = p.held := rfl
@[simp] theorem framingError_windows (p : Part) : (p.framingError).windows = p.windows := rfl
@[simp] theorem framingError_router (p : Part) : (p.framingError).router = p.router := rfl
@[simp] theorem framingError_bays (p : Part) : (p.framingError).bays = p.bays := rfl
@[simp] theorem framingError_power (p : Part) : (p.framingError).power = p.power := rfl
@[simp] theorem framingError_box (p : Part) : (p.framingError).box = p.box := rfl
@[simp] theorem framingError_engine (p : Part) : (p.framingError).engine = p.engine := rfl
@[simp] theorem framingError_matcher (p : Part) : (p.framingError).matcher = p.matcher := rfl
@[simp] theorem framingError_pp (p : Part) : (p.framingError).pp = p.pp := rfl
@[simp] theorem framingError_mp (p : Part) : (p.framingError).mp = p.mp := rfl
@[simp] theorem framingError_loader (p : Part) : (p.framingError).loader = p.loader := rfl
@[simp] theorem framingError_bayRails (p : Part) : (p.framingError).bayRails = p.bayRails := rfl
@[simp] theorem framingError_statusCode (p : Part) : (p.framingError).statusCode = p.statusCode := rfl
@[simp] theorem framingError_out (p : Part) : (p.framingError).out = p.out := rfl
@[simp] theorem framingError_bay (p : Part) (i : Fin 4) : (p.framingError).bay i = p.bay i := by simp [bay]
@[simp] theorem framingError_window (p : Part) (i : Fin 16) : (p.framingError).window i = p.window i := by simp [window]

@[simp] theorem modMatcher_clock (p : Part) (f : Matcher → Matcher) : (p.modMatcher f).clock = p.clock := rfl
@[simp] theorem modMatcher_held (p : Part) (f : Matcher → Matcher) : (p.modMatcher f).held = p.held := rfl
@[simp] theorem modMatcher_windows (p : Part) (f : Matcher → Matcher) : (p.modMatcher f).windows = p.windows := rfl
@[simp] theorem modMatcher_router (p : Part) (f : Matcher → Matcher) : (p.modMatcher f).router = p.router := rfl
@[simp] theorem modMatcher_bays (p : Part) (f : Matcher → Matcher) : (p.modMatcher f).bays = p.bays := rfl
@[simp] theorem modMatcher_power (p : Part) (f : Matcher → Matcher) : (p.modMatcher f).power = p.power := rfl
@[simp] theorem modMatcher_box (p : Part) (f : Matcher → Matcher) : (p.modMatcher f).box = p.box := rfl
@[simp] theorem modMatcher_engine (p : Part) (f : Matcher → Matcher) : (p.modMatcher f).engine = p.engine := rfl
@[simp] theorem modMatcher_pp (p : Part) (f : Matcher → Matcher) : (p.modMatcher f).pp = p.pp := rfl
@[simp] theorem modMatcher_dp (p : Part) (f : Matcher → Matcher) : (p.modMatcher f).dp = p.dp := rfl
@[simp] theorem modMatcher_mp (p : Part) (f : Matcher → Matcher) : (p.modMatcher f).mp = p.mp := rfl
@[simp] theorem modMatcher_loader (p : Part) (f : Matcher → Matcher) : (p.modMatcher f).loader = p.loader := rfl
@[simp] theorem modMatcher_bayRails (p : Part) (f : Matcher → Matcher) : (p.modMatcher f).bayRails = p.bayRails := rfl
@[simp] theorem modMatcher_statusCode (p : Part) (f : Matcher → Matcher) : (p.modMatcher f).statusCode = p.statusCode := rfl
@[simp] theorem modMatcher_out (p : Part) (f : Matcher → Matcher) : (p.modMatcher f).out = p.out := rfl
@[simp] theorem modMatcher_bay (p : Part) (f : Matcher → Matcher) (i : Fin 4) : (p.modMatcher f).bay i = p.bay i := by simp [bay]
@[simp] theorem modMatcher_window (p : Part) (f : Matcher → Matcher) (i : Fin 16) : (p.modMatcher f).window i = p.window i := by simp [window]

@[simp] theorem setAlarms_held (p : Part) (l : List Alarm) : (p.setAlarms l).held = p.held := rfl
@[simp] theorem setAlarms_windows (p : Part) (l : List Alarm) : (p.setAlarms l).windows = p.windows := rfl
@[simp] theorem setAlarms_router (p : Part) (l : List Alarm) : (p.setAlarms l).router = p.router := rfl
@[simp] theorem setAlarms_bays (p : Part) (l : List Alarm) : (p.setAlarms l).bays = p.bays := rfl
@[simp] theorem setAlarms_power (p : Part) (l : List Alarm) : (p.setAlarms l).power = p.power := rfl
@[simp] theorem setAlarms_box (p : Part) (l : List Alarm) : (p.setAlarms l).box = p.box := rfl
@[simp] theorem setAlarms_engine (p : Part) (l : List Alarm) : (p.setAlarms l).engine = p.engine := rfl
@[simp] theorem setAlarms_matcher (p : Part) (l : List Alarm) : (p.setAlarms l).matcher = p.matcher := rfl
@[simp] theorem setAlarms_pp (p : Part) (l : List Alarm) : (p.setAlarms l).pp = p.pp := rfl
@[simp] theorem setAlarms_dp (p : Part) (l : List Alarm) : (p.setAlarms l).dp = p.dp := rfl
@[simp] theorem setAlarms_mp (p : Part) (l : List Alarm) : (p.setAlarms l).mp = p.mp := rfl
@[simp] theorem setAlarms_loader (p : Part) (l : List Alarm) : (p.setAlarms l).loader = p.loader := rfl
@[simp] theorem setAlarms_bayRails (p : Part) (l : List Alarm) : (p.setAlarms l).bayRails = p.bayRails := rfl
@[simp] theorem setAlarms_statusCode (p : Part) (l : List Alarm) : (p.setAlarms l).statusCode = p.statusCode := rfl
@[simp] theorem setAlarms_out (p : Part) (l : List Alarm) : (p.setAlarms l).out = p.out := rfl
@[simp] theorem setAlarms_bay (p : Part) (l : List Alarm) (i : Fin 4) : (p.setAlarms l).bay i = p.bay i := by simp [bay]
@[simp] theorem setAlarms_window (p : Part) (l : List Alarm) (i : Fin 16) : (p.setAlarms l).window i = p.window i := by simp [window]

@[simp] theorem modChunk_clock (p : Part) (f : Chunk → Chunk) : (p.modChunk f).clock = p.clock := rfl
@[simp] theorem modChunk_held (p : Part) (f : Chunk → Chunk) : (p.modChunk f).held = p.held := rfl
@[simp] theorem modChunk_windows (p : Part) (f : Chunk → Chunk) : (p.modChunk f).windows = p.windows := rfl
@[simp] theorem modChunk_router (p : Part) (f : Chunk → Chunk) : (p.modChunk f).router = p.router := rfl
@[simp] theorem modChunk_bays (p : Part) (f : Chunk → Chunk) : (p.modChunk f).bays = p.bays := rfl
@[simp] theorem modChunk_power (p : Part) (f : Chunk → Chunk) : (p.modChunk f).power = p.power := rfl
@[simp] theorem modChunk_box (p : Part) (f : Chunk → Chunk) : (p.modChunk f).box = p.box := rfl
@[simp] theorem modChunk_matcher (p : Part) (f : Chunk → Chunk) : (p.modChunk f).matcher = p.matcher := rfl
@[simp] theorem modChunk_pp (p : Part) (f : Chunk → Chunk) : (p.modChunk f).pp = p.pp := rfl
@[simp] theorem modChunk_dp (p : Part) (f : Chunk → Chunk) : (p.modChunk f).dp = p.dp := rfl
@[simp] theorem modChunk_mp (p : Part) (f : Chunk → Chunk) : (p.modChunk f).mp = p.mp := rfl
@[simp] theorem modChunk_loader (p : Part) (f : Chunk → Chunk) : (p.modChunk f).loader = p.loader := rfl
@[simp] theorem modChunk_bayRails (p : Part) (f : Chunk → Chunk) : (p.modChunk f).bayRails = p.bayRails := rfl
@[simp] theorem modChunk_statusCode (p : Part) (f : Chunk → Chunk) : (p.modChunk f).statusCode = p.statusCode := rfl
@[simp] theorem modChunk_out (p : Part) (f : Chunk → Chunk) : (p.modChunk f).out = p.out := rfl
@[simp] theorem modChunk_bay (p : Part) (f : Chunk → Chunk) (i : Fin 4) : (p.modChunk f).bay i = p.bay i := by simp [bay]
@[simp] theorem modChunk_window (p : Part) (f : Chunk → Chunk) (i : Fin 16) : (p.modChunk f).window i = p.window i := by simp [window]

@[simp] theorem closeBatch_clock (p : Part) : (p.closeBatch).clock = p.clock := by unfold closeBatch; extract_lets; split <;> rfl
@[simp] theorem closeBatch_held (p : Part) : (p.closeBatch).held = p.held := by unfold closeBatch; extract_lets; split <;> rfl
@[simp] theorem closeBatch_windows (p : Part) : (p.closeBatch).windows = p.windows := by unfold closeBatch; extract_lets; split <;> rfl
@[simp] theorem closeBatch_router (p : Part) : (p.closeBatch).router = p.router := by unfold closeBatch; extract_lets; split <;> rfl
@[simp] theorem closeBatch_bays (p : Part) : (p.closeBatch).bays = p.bays := by unfold closeBatch; extract_lets; split <;> rfl
@[simp] theorem closeBatch_power (p : Part) : (p.closeBatch).power = p.power := by unfold closeBatch; extract_lets; split <;> rfl
@[simp] theorem closeBatch_box (p : Part) : (p.closeBatch).box = p.box := by unfold closeBatch; extract_lets; split <;> rfl
@[simp] theorem closeBatch_engine (p : Part) : (p.closeBatch).engine = p.engine := by unfold closeBatch; extract_lets; split <;> rfl
@[simp] theorem closeBatch_matcher (p : Part) : (p.closeBatch).matcher = p.matcher := by unfold closeBatch; extract_lets; split <;> rfl
@[simp] theorem closeBatch_dp (p : Part) : (p.closeBatch).dp = p.dp := by unfold closeBatch; extract_lets; split <;> rfl
@[simp] theorem closeBatch_mp (p : Part) : (p.closeBatch).mp = p.mp := by unfold closeBatch; extract_lets; split <;> rfl
@[simp] theorem closeBatch_loader (p : Part) : (p.closeBatch).loader = p.loader := by unfold closeBatch; extract_lets; split <;> rfl
@[simp] theorem closeBatch_bayRails (p : Part) : (p.closeBatch).bayRails = p.bayRails := by unfold closeBatch; extract_lets; split <;> rfl
@[simp] theorem closeBatch_statusCode (p : Part) : (p.closeBatch).statusCode = p.statusCode := by unfold closeBatch; extract_lets; split <;> rfl
@[simp] theorem closeBatch_bay (p : Part) (i : Fin 4) : (p.closeBatch).bay i = p.bay i := by simp [bay]
@[simp] theorem closeBatch_window (p : Part) (i : Fin 16) : (p.closeBatch).window i = p.window i := by simp [window]

@[simp] theorem raise_clock (p : Part) (k : Notice) : (p.raise k).clock = p.clock := by unfold raise; simp only []; split <;> rfl
@[simp] theorem raise_held (p : Part) (k : Notice) : (p.raise k).held = p.held := by unfold raise; simp only []; split <;> rfl
@[simp] theorem raise_windows (p : Part) (k : Notice) : (p.raise k).windows = p.windows := by unfold raise; simp only []; split <;> rfl
@[simp] theorem raise_router (p : Part) (k : Notice) : (p.raise k).router = p.router := by unfold raise; simp only []; split <;> rfl
@[simp] theorem raise_bays (p : Part) (k : Notice) : (p.raise k).bays = p.bays := by unfold raise; simp only []; split <;> rfl
@[simp] theorem raise_power (p : Part) (k : Notice) : (p.raise k).power = p.power := by unfold raise; simp only []; split <;> rfl
@[simp] theorem raise_box (p : Part) (k : Notice) : (p.raise k).box = p.box := by unfold raise; simp only []; split <;> rfl
@[simp] theorem raise_engine (p : Part) (k : Notice) : (p.raise k).engine = p.engine := by unfold raise; simp only []; split <;> rfl
@[simp] theorem raise_matcher (p : Part) (k : Notice) : (p.raise k).matcher = p.matcher := by unfold raise; simp only []; split <;> rfl
@[simp] theorem raise_dp (p : Part) (k : Notice) : (p.raise k).dp = p.dp := by unfold raise; simp only []; split <;> rfl
@[simp] theorem raise_loader (p : Part) (k : Notice) : (p.raise k).loader = p.loader := by unfold raise; simp only []; split <;> rfl
@[simp] theorem raise_bayRails (p : Part) (k : Notice) : (p.raise k).bayRails = p.bayRails := by unfold raise; simp only []; split <;> rfl
@[simp] theorem raise_statusCode (p : Part) (k : Notice) : (p.raise k).statusCode = p.statusCode := by unfold raise; simp only []; split <;> rfl
@[simp] theorem raise_bay (p : Part) (k : Notice) (i : Fin 4) : (p.raise k).bay i = p.bay i := by simp [bay]
@[simp] theorem raise_window (p : Part) (k : Notice) (i : Fin 16) : (p.raise k).window i = p.window i := by simp [window]

@[simp] theorem handPp_clock (p : Part) (c : Completion) : (p.handPp c).clock = p.clock := by unfold handPp; split <;> rfl
@[simp] theorem handPp_held (p : Part) (c : Completion) : (p.handPp c).held = p.held := by unfold handPp; split <;> rfl
@[simp] theorem handPp_windows (p : Part) (c : Completion) : (p.handPp c).windows = p.windows := by unfold handPp; split <;> rfl
@[simp] theorem handPp_router (p : Part) (c : Completion) : (p.handPp c).router = p.router := by unfold handPp; split <;> rfl
@[simp] theorem handPp_bays (p : Part) (c : Completion) : (p.handPp c).bays = p.bays := by unfold handPp; split <;> rfl
@[simp] theorem handPp_power (p : Part) (c : Completion) : (p.handPp c).power = p.power := by unfold handPp; split <;> rfl
@[simp] theorem handPp_box (p : Part) (c : Completion) : (p.handPp c).box = p.box := by unfold handPp; split <;> rfl
@[simp] theorem handPp_engine (p : Part) (c : Completion) : (p.handPp c).engine = p.engine := by unfold handPp; split <;> rfl
@[simp] theorem handPp_matcher (p : Part) (c : Completion) : (p.handPp c).matcher = p.matcher := by unfold handPp; split <;> rfl
@[simp] theorem handPp_dp (p : Part) (c : Completion) : (p.handPp c).dp = p.dp := by unfold handPp; split <;> rfl
@[simp] theorem handPp_mp (p : Part) (c : Completion) : (p.handPp c).mp = p.mp := by unfold handPp; split <;> rfl
@[simp] theorem handPp_loader (p : Part) (c : Completion) : (p.handPp c).loader = p.loader := by unfold handPp; split <;> rfl
@[simp] theorem handPp_bayRails (p : Part) (c : Completion) : (p.handPp c).bayRails = p.bayRails := by unfold handPp; split <;> rfl
@[simp] theorem handPp_statusCode (p : Part) (c : Completion) : (p.handPp c).statusCode = p.statusCode := by unfold handPp; split <;> rfl
@[simp] theorem handPp_out (p : Part) (c : Completion) : (p.handPp c).out = p.out := by unfold handPp; split <;> rfl
@[simp] theorem handPp_bay (p : Part) (c : Completion) (i : Fin 4) : (p.handPp c).bay i = p.bay i := by simp [bay]
@[simp] theorem handPp_window (p : Part) (c : Completion) (i : Fin 16) : (p.handPp c).window i = p.window i := by simp [window]

@[simp] theorem handDp_clock (p : Part) (a : Option (List Byte)) (c : Completion) : (p.handDp a c).clock = p.clock := by unfold handDp; split <;> rfl
@[simp] theorem handDp_held (p : Part) (a : Option (List Byte)) (c : Completion) : (p.handDp a c).held = p.held := by unfold handDp; split <;> rfl
@[simp] theorem handDp_windows (p : Part) (a : Option (List Byte)) (c : Completion) : (p.handDp a c).windows = p.windows := by unfold handDp; split <;> rfl
@[simp] theorem handDp_router (p : Part) (a : Option (List Byte)) (c : Completion) : (p.handDp a c).router = p.router := by unfold handDp; split <;> rfl
@[simp] theorem handDp_bays (p : Part) (a : Option (List Byte)) (c : Completion) : (p.handDp a c).bays = p.bays := by unfold handDp; split <;> rfl
@[simp] theorem handDp_power (p : Part) (a : Option (List Byte)) (c : Completion) : (p.handDp a c).power = p.power := by unfold handDp; split <;> rfl
@[simp] theorem handDp_box (p : Part) (a : Option (List Byte)) (c : Completion) : (p.handDp a c).box = p.box := by unfold handDp; split <;> rfl
@[simp] theorem handDp_engine (p : Part) (a : Option (List Byte)) (c : Completion) : (p.handDp a c).engine = p.engine := by unfold handDp; split <;> rfl
@[simp] theorem handDp_matcher (p : Part) (a : Option (List Byte)) (c : Completion) : (p.handDp a c).matcher = p.matcher := by unfold handDp; split <;> rfl
@[simp] theorem handDp_pp (p : Part) (a : Option (List Byte)) (c : Completion) : (p.handDp a c).pp = p.pp := by unfold handDp; split <;> rfl
@[simp] theorem handDp_mp (p : Part) (a : Option (List Byte)) (c : Completion) : (p.handDp a c).mp = p.mp := by unfold handDp; split <;> rfl
@[simp] theorem handDp_loader (p : Part) (a : Option (List Byte)) (c : Completion) : (p.handDp a c).loader = p.loader := by unfold handDp; split <;> rfl
@[simp] theorem handDp_bayRails (p : Part) (a : Option (List Byte)) (c : Completion) : (p.handDp a c).bayRails = p.bayRails := by unfold handDp; split <;> rfl
@[simp] theorem handDp_statusCode (p : Part) (a : Option (List Byte)) (c : Completion) : (p.handDp a c).statusCode = p.statusCode := by unfold handDp; split <;> rfl
@[simp] theorem handDp_out (p : Part) (a : Option (List Byte)) (c : Completion) : (p.handDp a c).out = p.out := by unfold handDp; split <;> rfl
@[simp] theorem handDp_bay (p : Part) (a : Option (List Byte)) (c : Completion) (i : Fin 4) : (p.handDp a c).bay i = p.bay i := by simp [bay]
@[simp] theorem handDp_window (p : Part) (a : Option (List Byte)) (c : Completion) (i : Fin 16) : (p.handDp a c).window i = p.window i := by simp [window]

@[simp] theorem sendReply_clock (p : Part) (n : Nat) : (p.sendReply n).clock = p.clock := by unfold sendReply; split <;> [rfl; (simp only []; split <;> rfl)]
@[simp] theorem sendReply_held (p : Part) (n : Nat) : (p.sendReply n).held = p.held := by unfold sendReply; split <;> [rfl; (simp only []; split <;> rfl)]
@[simp] theorem sendReply_windows (p : Part) (n : Nat) : (p.sendReply n).windows = p.windows := by unfold sendReply; split <;> [rfl; (simp only []; split <;> rfl)]
@[simp] theorem sendReply_router (p : Part) (n : Nat) : (p.sendReply n).router = p.router := by unfold sendReply; split <;> [rfl; (simp only []; split <;> rfl)]
@[simp] theorem sendReply_bays (p : Part) (n : Nat) : (p.sendReply n).bays = p.bays := by unfold sendReply; split <;> [rfl; (simp only []; split <;> rfl)]
@[simp] theorem sendReply_power (p : Part) (n : Nat) : (p.sendReply n).power = p.power := by unfold sendReply; split <;> [rfl; (simp only []; split <;> rfl)]
@[simp] theorem sendReply_box (p : Part) (n : Nat) : (p.sendReply n).box = p.box := by unfold sendReply; split <;> [rfl; (simp only []; split <;> rfl)]
@[simp] theorem sendReply_engine (p : Part) (n : Nat) : (p.sendReply n).engine = p.engine := by unfold sendReply; split <;> [rfl; (simp only []; split <;> rfl)]
@[simp] theorem sendReply_matcher (p : Part) (n : Nat) : (p.sendReply n).matcher = p.matcher := by unfold sendReply; split <;> [rfl; (simp only []; split <;> rfl)]
@[simp] theorem sendReply_pp (p : Part) (n : Nat) : (p.sendReply n).pp = p.pp := by unfold sendReply; split <;> [rfl; (simp only []; split <;> rfl)]
@[simp] theorem sendReply_dp (p : Part) (n : Nat) : (p.sendReply n).dp = p.dp := by unfold sendReply; split <;> [rfl; (simp only []; split <;> rfl)]
@[simp] theorem sendReply_loader (p : Part) (n : Nat) : (p.sendReply n).loader = p.loader := by unfold sendReply; split <;> [rfl; (simp only []; split <;> rfl)]
@[simp] theorem sendReply_bayRails (p : Part) (n : Nat) : (p.sendReply n).bayRails = p.bayRails := by unfold sendReply; split <;> [rfl; (simp only []; split <;> rfl)]
@[simp] theorem sendReply_statusCode (p : Part) (n : Nat) : (p.sendReply n).statusCode = p.statusCode := by unfold sendReply; split <;> [rfl; (simp only []; split <;> rfl)]
@[simp] theorem sendReply_bay (p : Part) (n : Nat) (i : Fin 4) : (p.sendReply n).bay i = p.bay i := by simp [bay]
@[simp] theorem sendReply_window (p : Part) (n : Nat) (i : Fin 16) : (p.sendReply n).window i = p.window i := by simp [window]

@[simp] theorem placeReply_clock (p : Part) (st : Status) (a : List Byte) (first : Nat) : (p.placeReply st a first).clock = p.clock := by unfold placeReply; split <;> [(simp only []; split <;> simp); rfl]
@[simp] theorem placeReply_held (p : Part) (st : Status) (a : List Byte) (first : Nat) : (p.placeReply st a first).held = p.held := by unfold placeReply; split <;> [(simp only []; split <;> simp); rfl]
@[simp] theorem placeReply_windows (p : Part) (st : Status) (a : List Byte) (first : Nat) : (p.placeReply st a first).windows = p.windows := by unfold placeReply; split <;> [(simp only []; split <;> simp); rfl]
@[simp] theorem placeReply_router (p : Part) (st : Status) (a : List Byte) (first : Nat) : (p.placeReply st a first).router = p.router := by unfold placeReply; split <;> [(simp only []; split <;> simp); rfl]
@[simp] theorem placeReply_bays (p : Part) (st : Status) (a : List Byte) (first : Nat) : (p.placeReply st a first).bays = p.bays := by unfold placeReply; split <;> [(simp only []; split <;> simp); rfl]
@[simp] theorem placeReply_power (p : Part) (st : Status) (a : List Byte) (first : Nat) : (p.placeReply st a first).power = p.power := by unfold placeReply; split <;> [(simp only []; split <;> simp); rfl]
@[simp] theorem placeReply_box (p : Part) (st : Status) (a : List Byte) (first : Nat) : (p.placeReply st a first).box = p.box := by unfold placeReply; split <;> [(simp only []; split <;> simp); rfl]
@[simp] theorem placeReply_engine (p : Part) (st : Status) (a : List Byte) (first : Nat) : (p.placeReply st a first).engine = p.engine := by unfold placeReply; split <;> [(simp only []; split <;> simp); rfl]
@[simp] theorem placeReply_matcher (p : Part) (st : Status) (a : List Byte) (first : Nat) : (p.placeReply st a first).matcher = p.matcher := by unfold placeReply; split <;> [(simp only []; split <;> simp); rfl]
@[simp] theorem placeReply_pp (p : Part) (st : Status) (a : List Byte) (first : Nat) : (p.placeReply st a first).pp = p.pp := by unfold placeReply; split <;> [(simp only []; split <;> simp); rfl]
@[simp] theorem placeReply_dp (p : Part) (st : Status) (a : List Byte) (first : Nat) : (p.placeReply st a first).dp = p.dp := by unfold placeReply; split <;> [(simp only []; split <;> simp); rfl]
@[simp] theorem placeReply_loader (p : Part) (st : Status) (a : List Byte) (first : Nat) : (p.placeReply st a first).loader = p.loader := by unfold placeReply; split <;> [(simp only []; split <;> simp); rfl]
@[simp] theorem placeReply_bayRails (p : Part) (st : Status) (a : List Byte) (first : Nat) : (p.placeReply st a first).bayRails = p.bayRails := by unfold placeReply; split <;> [(simp only []; split <;> simp); rfl]
@[simp] theorem placeReply_statusCode (p : Part) (st : Status) (a : List Byte) (first : Nat) : (p.placeReply st a first).statusCode = p.statusCode := by unfold placeReply; split <;> [(simp only []; split <;> simp); rfl]
@[simp] theorem placeReply_bay (p : Part) (st : Status) (a : List Byte) (first : Nat) (i : Fin 4) : (p.placeReply st a first).bay i = p.bay i := by simp [bay]
@[simp] theorem placeReply_window (p : Part) (st : Status) (a : List Byte) (first : Nat) (i : Fin 16) : (p.placeReply st a first).window i = p.window i := by simp [window]

@[simp] theorem answerFrom_clock (p : Part) (first : Nat) (a : Answerer) (st : Status) (ans : Answer) : (p.answerFrom first a st ans).clock = p.clock := by unfold answerFrom; cases a <;> simp; split <;> simp
@[simp] theorem answerFrom_held (p : Part) (first : Nat) (a : Answerer) (st : Status) (ans : Answer) : (p.answerFrom first a st ans).held = p.held := by unfold answerFrom; cases a <;> simp; split <;> simp
@[simp] theorem answerFrom_windows (p : Part) (first : Nat) (a : Answerer) (st : Status) (ans : Answer) : (p.answerFrom first a st ans).windows = p.windows := by unfold answerFrom; cases a <;> simp; split <;> simp
@[simp] theorem answerFrom_router (p : Part) (first : Nat) (a : Answerer) (st : Status) (ans : Answer) : (p.answerFrom first a st ans).router = p.router := by unfold answerFrom; cases a <;> simp; split <;> simp
@[simp] theorem answerFrom_bays (p : Part) (first : Nat) (a : Answerer) (st : Status) (ans : Answer) : (p.answerFrom first a st ans).bays = p.bays := by unfold answerFrom; cases a <;> simp; split <;> simp
@[simp] theorem answerFrom_power (p : Part) (first : Nat) (a : Answerer) (st : Status) (ans : Answer) : (p.answerFrom first a st ans).power = p.power := by unfold answerFrom; cases a <;> simp; split <;> simp
@[simp] theorem answerFrom_box (p : Part) (first : Nat) (a : Answerer) (st : Status) (ans : Answer) : (p.answerFrom first a st ans).box = p.box := by unfold answerFrom; cases a <;> simp; split <;> simp
@[simp] theorem answerFrom_engine (p : Part) (first : Nat) (a : Answerer) (st : Status) (ans : Answer) : (p.answerFrom first a st ans).engine = p.engine := by unfold answerFrom; cases a <;> simp; split <;> simp
@[simp] theorem answerFrom_matcher (p : Part) (first : Nat) (a : Answerer) (st : Status) (ans : Answer) : (p.answerFrom first a st ans).matcher = p.matcher := by unfold answerFrom; cases a <;> simp; split <;> simp
@[simp] theorem answerFrom_loader (p : Part) (first : Nat) (a : Answerer) (st : Status) (ans : Answer) : (p.answerFrom first a st ans).loader = p.loader := by unfold answerFrom; cases a <;> simp; split <;> simp
@[simp] theorem answerFrom_bayRails (p : Part) (first : Nat) (a : Answerer) (st : Status) (ans : Answer) : (p.answerFrom first a st ans).bayRails = p.bayRails := by unfold answerFrom; cases a <;> simp; split <;> simp
@[simp] theorem answerFrom_statusCode (p : Part) (first : Nat) (a : Answerer) (st : Status) (ans : Answer) : (p.answerFrom first a st ans).statusCode = p.statusCode := by unfold answerFrom; cases a <;> simp; split <;> simp
@[simp] theorem answerFrom_bay (p : Part) (first : Nat) (a : Answerer) (st : Status) (ans : Answer) (i : Fin 4) : (p.answerFrom first a st ans).bay i = p.bay i := by simp [bay]
@[simp] theorem answerFrom_window (p : Part) (first : Nat) (a : Answerer) (st : Status) (ans : Answer) (i : Fin 16) : (p.answerFrom first a st ans).window i = p.window i := by simp [window]

@[simp] theorem answer_clock (p : Part) (a : Answerer) (st : Status) (ans : Answer) : (p.answer a st ans).clock = p.clock := by simp [answer]
@[simp] theorem answer_held (p : Part) (a : Answerer) (st : Status) (ans : Answer) : (p.answer a st ans).held = p.held := by simp [answer]
@[simp] theorem answer_windows (p : Part) (a : Answerer) (st : Status) (ans : Answer) : (p.answer a st ans).windows = p.windows := by simp [answer]
@[simp] theorem answer_router (p : Part) (a : Answerer) (st : Status) (ans : Answer) : (p.answer a st ans).router = p.router := by simp [answer]
@[simp] theorem answer_bays (p : Part) (a : Answerer) (st : Status) (ans : Answer) : (p.answer a st ans).bays = p.bays := by simp [answer]
@[simp] theorem answer_power (p : Part) (a : Answerer) (st : Status) (ans : Answer) : (p.answer a st ans).power = p.power := by simp [answer]
@[simp] theorem answer_box (p : Part) (a : Answerer) (st : Status) (ans : Answer) : (p.answer a st ans).box = p.box := by simp [answer]
@[simp] theorem answer_engine (p : Part) (a : Answerer) (st : Status) (ans : Answer) : (p.answer a st ans).engine = p.engine := by simp [answer]
@[simp] theorem answer_matcher (p : Part) (a : Answerer) (st : Status) (ans : Answer) : (p.answer a st ans).matcher = p.matcher := by simp [answer]
@[simp] theorem answer_loader (p : Part) (a : Answerer) (st : Status) (ans : Answer) : (p.answer a st ans).loader = p.loader := by simp [answer]
@[simp] theorem answer_bayRails (p : Part) (a : Answerer) (st : Status) (ans : Answer) : (p.answer a st ans).bayRails = p.bayRails := by simp [answer]
@[simp] theorem answer_statusCode (p : Part) (a : Answerer) (st : Status) (ans : Answer) : (p.answer a st ans).statusCode = p.statusCode := by simp [answer]
@[simp] theorem answer_bay (p : Part) (a : Answerer) (st : Status) (ans : Answer) (i : Fin 4) : (p.answer a st ans).bay i = p.bay i := by simp [bay]
@[simp] theorem answer_window (p : Part) (a : Answerer) (st : Status) (ans : Answer) (i : Fin 16) : (p.answer a st ans).window i = p.window i := by simp [window]

@[simp] theorem reply_clock (p : Part) (a : Answerer) (st : Status) : (p.reply a st).clock = p.clock := by simp [reply]
@[simp] theorem reply_held (p : Part) (a : Answerer) (st : Status) : (p.reply a st).held = p.held := by simp [reply]
@[simp] theorem reply_windows (p : Part) (a : Answerer) (st : Status) : (p.reply a st).windows = p.windows := by simp [reply]
@[simp] theorem reply_router (p : Part) (a : Answerer) (st : Status) : (p.reply a st).router = p.router := by simp [reply]
@[simp] theorem reply_bays (p : Part) (a : Answerer) (st : Status) : (p.reply a st).bays = p.bays := by simp [reply]
@[simp] theorem reply_power (p : Part) (a : Answerer) (st : Status) : (p.reply a st).power = p.power := by simp [reply]
@[simp] theorem reply_box (p : Part) (a : Answerer) (st : Status) : (p.reply a st).box = p.box := by simp [reply]
@[simp] theorem reply_engine (p : Part) (a : Answerer) (st : Status) : (p.reply a st).engine = p.engine := by simp [reply]
@[simp] theorem reply_matcher (p : Part) (a : Answerer) (st : Status) : (p.reply a st).matcher = p.matcher := by simp [reply]
@[simp] theorem reply_loader (p : Part) (a : Answerer) (st : Status) : (p.reply a st).loader = p.loader := by simp [reply]
@[simp] theorem reply_bayRails (p : Part) (a : Answerer) (st : Status) : (p.reply a st).bayRails = p.bayRails := by simp [reply]
@[simp] theorem reply_statusCode (p : Part) (a : Answerer) (st : Status) : (p.reply a st).statusCode = p.statusCode := by simp [reply]
@[simp] theorem reply_bay (p : Part) (a : Answerer) (st : Status) (i : Fin 4) : (p.reply a st).bay i = p.bay i := by simp [bay]
@[simp] theorem reply_window (p : Part) (a : Answerer) (st : Status) (i : Fin 16) : (p.reply a st).window i = p.window i := by simp [window]

@[simp] theorem requestStart_clock (p : Part) (b : Fin 4) : (p.requestStart b).clock = p.clock := by unfold requestStart; simp only []; split <;> [rfl; (split <;> rfl)]
@[simp] theorem requestStart_held (p : Part) (b : Fin 4) : (p.requestStart b).held = p.held := by unfold requestStart; simp only []; split <;> [rfl; (split <;> rfl)]
@[simp] theorem requestStart_windows (p : Part) (b : Fin 4) : (p.requestStart b).windows = p.windows := by unfold requestStart; simp only []; split <;> [rfl; (split <;> rfl)]
@[simp] theorem requestStart_router (p : Part) (b : Fin 4) : (p.requestStart b).router = p.router := by unfold requestStart; simp only []; split <;> [rfl; (split <;> rfl)]
@[simp] theorem requestStart_box (p : Part) (b : Fin 4) : (p.requestStart b).box = p.box := by unfold requestStart; simp only []; split <;> [rfl; (split <;> rfl)]
@[simp] theorem requestStart_engine (p : Part) (b : Fin 4) : (p.requestStart b).engine = p.engine := by unfold requestStart; simp only []; split <;> [rfl; (split <;> rfl)]
@[simp] theorem requestStart_matcher (p : Part) (b : Fin 4) : (p.requestStart b).matcher = p.matcher := by unfold requestStart; simp only []; split <;> [rfl; (split <;> rfl)]
@[simp] theorem requestStart_pp (p : Part) (b : Fin 4) : (p.requestStart b).pp = p.pp := by unfold requestStart; simp only []; split <;> [rfl; (split <;> rfl)]
@[simp] theorem requestStart_dp (p : Part) (b : Fin 4) : (p.requestStart b).dp = p.dp := by unfold requestStart; simp only []; split <;> [rfl; (split <;> rfl)]
@[simp] theorem requestStart_mp (p : Part) (b : Fin 4) : (p.requestStart b).mp = p.mp := by unfold requestStart; simp only []; split <;> [rfl; (split <;> rfl)]
@[simp] theorem requestStart_loader (p : Part) (b : Fin 4) : (p.requestStart b).loader = p.loader := by unfold requestStart; simp only []; split <;> [rfl; (split <;> rfl)]
@[simp] theorem requestStart_bayRails (p : Part) (b : Fin 4) : (p.requestStart b).bayRails = p.bayRails := by unfold requestStart; simp only []; split <;> [rfl; (split <;> rfl)]
@[simp] theorem requestStart_statusCode (p : Part) (b : Fin 4) : (p.requestStart b).statusCode = p.statusCode := by unfold requestStart; simp only []; split <;> [rfl; (split <;> rfl)]
@[simp] theorem requestStart_out (p : Part) (b : Fin 4) : (p.requestStart b).out = p.out := by unfold requestStart; simp only []; split <;> [rfl; (split <;> rfl)]
@[simp] theorem requestStart_window (p : Part) (b : Fin 4) (i : Fin 16) : (p.requestStart b).window i = p.window i := by simp [window]

@[simp] theorem recordError_clock (p : Part) (b : Fin 4) (k : ErrorKind) (block : Option Nat) : (p.recordError b k block).clock = p.clock := rfl
@[simp] theorem recordError_held (p : Part) (b : Fin 4) (k : ErrorKind) (block : Option Nat) : (p.recordError b k block).held = p.held := rfl
@[simp] theorem recordError_windows (p : Part) (b : Fin 4) (k : ErrorKind) (block : Option Nat) : (p.recordError b k block).windows = p.windows := rfl
@[simp] theorem recordError_router (p : Part) (b : Fin 4) (k : ErrorKind) (block : Option Nat) : (p.recordError b k block).router = p.router := rfl
@[simp] theorem recordError_power (p : Part) (b : Fin 4) (k : ErrorKind) (block : Option Nat) : (p.recordError b k block).power = p.power := rfl
@[simp] theorem recordError_box (p : Part) (b : Fin 4) (k : ErrorKind) (block : Option Nat) : (p.recordError b k block).box = p.box := rfl
@[simp] theorem recordError_engine (p : Part) (b : Fin 4) (k : ErrorKind) (block : Option Nat) : (p.recordError b k block).engine = p.engine := rfl
@[simp] theorem recordError_matcher (p : Part) (b : Fin 4) (k : ErrorKind) (block : Option Nat) : (p.recordError b k block).matcher = p.matcher := rfl
@[simp] theorem recordError_pp (p : Part) (b : Fin 4) (k : ErrorKind) (block : Option Nat) : (p.recordError b k block).pp = p.pp := rfl
@[simp] theorem recordError_dp (p : Part) (b : Fin 4) (k : ErrorKind) (block : Option Nat) : (p.recordError b k block).dp = p.dp := rfl
@[simp] theorem recordError_mp (p : Part) (b : Fin 4) (k : ErrorKind) (block : Option Nat) : (p.recordError b k block).mp = p.mp := rfl
@[simp] theorem recordError_loader (p : Part) (b : Fin 4) (k : ErrorKind) (block : Option Nat) : (p.recordError b k block).loader = p.loader := rfl
@[simp] theorem recordError_bayRails (p : Part) (b : Fin 4) (k : ErrorKind) (block : Option Nat) : (p.recordError b k block).bayRails = p.bayRails := rfl
@[simp] theorem recordError_statusCode (p : Part) (b : Fin 4) (k : ErrorKind) (block : Option Nat) : (p.recordError b k block).statusCode = p.statusCode := rfl
@[simp] theorem recordError_out (p : Part) (b : Fin 4) (k : ErrorKind) (block : Option Nat) : (p.recordError b k block).out = p.out := rfl
@[simp] theorem recordError_window (p : Part) (b : Fin 4) (k : ErrorKind) (block : Option Nat) (i : Fin 16) : (p.recordError b k block).window i = p.window i := by simp [window]

@[simp] theorem wakeBay_clock (p : Part) (b : Fin 4) : (p.wakeBay b).clock = p.clock := by unfold wakeBay; split <;> simp
@[simp] theorem wakeBay_held (p : Part) (b : Fin 4) : (p.wakeBay b).held = p.held := by unfold wakeBay; split <;> simp
@[simp] theorem wakeBay_windows (p : Part) (b : Fin 4) : (p.wakeBay b).windows = p.windows := by unfold wakeBay; split <;> simp
@[simp] theorem wakeBay_router (p : Part) (b : Fin 4) : (p.wakeBay b).router = p.router := by unfold wakeBay; split <;> simp
@[simp] theorem wakeBay_box (p : Part) (b : Fin 4) : (p.wakeBay b).box = p.box := by unfold wakeBay; split <;> simp
@[simp] theorem wakeBay_engine (p : Part) (b : Fin 4) : (p.wakeBay b).engine = p.engine := by unfold wakeBay; split <;> simp
@[simp] theorem wakeBay_matcher (p : Part) (b : Fin 4) : (p.wakeBay b).matcher = p.matcher := by unfold wakeBay; split <;> simp
@[simp] theorem wakeBay_pp (p : Part) (b : Fin 4) : (p.wakeBay b).pp = p.pp := by unfold wakeBay; split <;> simp
@[simp] theorem wakeBay_dp (p : Part) (b : Fin 4) : (p.wakeBay b).dp = p.dp := by unfold wakeBay; split <;> simp
@[simp] theorem wakeBay_mp (p : Part) (b : Fin 4) : (p.wakeBay b).mp = p.mp := by unfold wakeBay; split <;> simp
@[simp] theorem wakeBay_loader (p : Part) (b : Fin 4) : (p.wakeBay b).loader = p.loader := by unfold wakeBay; split <;> simp
@[simp] theorem wakeBay_bayRails (p : Part) (b : Fin 4) : (p.wakeBay b).bayRails = p.bayRails := by unfold wakeBay; split <;> simp
@[simp] theorem wakeBay_statusCode (p : Part) (b : Fin 4) : (p.wakeBay b).statusCode = p.statusCode := by unfold wakeBay; split <;> simp
@[simp] theorem wakeBay_out (p : Part) (b : Fin 4) : (p.wakeBay b).out = p.out := by unfold wakeBay; split <;> simp
@[simp] theorem wakeBay_window (p : Part) (b : Fin 4) (i : Fin 16) : (p.wakeBay b).window i = p.window i := by simp [window]

@[simp] theorem appendOp_clock (p : Part) (b : Fin 4) (o : BayOp) : (p.appendOp b o).clock = p.clock := by simp [appendOp]
@[simp] theorem appendOp_held (p : Part) (b : Fin 4) (o : BayOp) : (p.appendOp b o).held = p.held := by simp [appendOp]
@[simp] theorem appendOp_windows (p : Part) (b : Fin 4) (o : BayOp) : (p.appendOp b o).windows = p.windows := by simp [appendOp]
@[simp] theorem appendOp_router (p : Part) (b : Fin 4) (o : BayOp) : (p.appendOp b o).router = p.router := by simp [appendOp]
@[simp] theorem appendOp_box (p : Part) (b : Fin 4) (o : BayOp) : (p.appendOp b o).box = p.box := by simp [appendOp]
@[simp] theorem appendOp_engine (p : Part) (b : Fin 4) (o : BayOp) : (p.appendOp b o).engine = p.engine := by simp [appendOp]
@[simp] theorem appendOp_matcher (p : Part) (b : Fin 4) (o : BayOp) : (p.appendOp b o).matcher = p.matcher := by simp [appendOp]
@[simp] theorem appendOp_pp (p : Part) (b : Fin 4) (o : BayOp) : (p.appendOp b o).pp = p.pp := by simp [appendOp]
@[simp] theorem appendOp_dp (p : Part) (b : Fin 4) (o : BayOp) : (p.appendOp b o).dp = p.dp := by simp [appendOp]
@[simp] theorem appendOp_mp (p : Part) (b : Fin 4) (o : BayOp) : (p.appendOp b o).mp = p.mp := by simp [appendOp]
@[simp] theorem appendOp_loader (p : Part) (b : Fin 4) (o : BayOp) : (p.appendOp b o).loader = p.loader := by simp [appendOp]
@[simp] theorem appendOp_bayRails (p : Part) (b : Fin 4) (o : BayOp) : (p.appendOp b o).bayRails = p.bayRails := by simp [appendOp]
@[simp] theorem appendOp_statusCode (p : Part) (b : Fin 4) (o : BayOp) : (p.appendOp b o).statusCode = p.statusCode := by simp [appendOp]
@[simp] theorem appendOp_out (p : Part) (b : Fin 4) (o : BayOp) : (p.appendOp b o).out = p.out := by simp [appendOp]
@[simp] theorem appendOp_window (p : Part) (b : Fin 4) (o : BayOp) (i : Fin 16) : (p.appendOp b o).window i = p.window i := by simp [window]

@[simp] theorem issueOp_clock (p : Part) (b : Fin 4) (o : BayOp) : (p.issueOp b o).clock = p.clock := rfl
@[simp] theorem issueOp_held (p : Part) (b : Fin 4) (o : BayOp) : (p.issueOp b o).held = p.held := rfl
@[simp] theorem issueOp_windows (p : Part) (b : Fin 4) (o : BayOp) : (p.issueOp b o).windows = p.windows := rfl
@[simp] theorem issueOp_router (p : Part) (b : Fin 4) (o : BayOp) : (p.issueOp b o).router = p.router := rfl
@[simp] theorem issueOp_bays (p : Part) (b : Fin 4) (o : BayOp) : (p.issueOp b o).bays = p.bays := rfl
@[simp] theorem issueOp_power (p : Part) (b : Fin 4) (o : BayOp) : (p.issueOp b o).power = p.power := rfl
@[simp] theorem issueOp_box (p : Part) (b : Fin 4) (o : BayOp) : (p.issueOp b o).box = p.box := rfl
@[simp] theorem issueOp_engine (p : Part) (b : Fin 4) (o : BayOp) : (p.issueOp b o).engine = p.engine := rfl
@[simp] theorem issueOp_matcher (p : Part) (b : Fin 4) (o : BayOp) : (p.issueOp b o).matcher = p.matcher := rfl
@[simp] theorem issueOp_pp (p : Part) (b : Fin 4) (o : BayOp) : (p.issueOp b o).pp = p.pp := rfl
@[simp] theorem issueOp_dp (p : Part) (b : Fin 4) (o : BayOp) : (p.issueOp b o).dp = p.dp := rfl
@[simp] theorem issueOp_mp (p : Part) (b : Fin 4) (o : BayOp) : (p.issueOp b o).mp = p.mp := rfl
@[simp] theorem issueOp_loader (p : Part) (b : Fin 4) (o : BayOp) : (p.issueOp b o).loader = p.loader := rfl
@[simp] theorem issueOp_bayRails (p : Part) (b : Fin 4) (o : BayOp) : (p.issueOp b o).bayRails = p.bayRails := rfl
@[simp] theorem issueOp_statusCode (p : Part) (b : Fin 4) (o : BayOp) : (p.issueOp b o).statusCode = p.statusCode := rfl
@[simp] theorem issueOp_bay (p : Part) (b : Fin 4) (o : BayOp) (i : Fin 4) : (p.issueOp b o).bay i = p.bay i := by simp [bay]
@[simp] theorem issueOp_window (p : Part) (b : Fin 4) (o : BayOp) (i : Fin 16) : (p.issueOp b o).window i = p.window i := by simp [window]

@[simp] theorem reportClass_clock (p : Part) (b : Fin 4) (c : ActClass) : (p.reportClass b c).clock = p.clock := rfl
@[simp] theorem reportClass_held (p : Part) (b : Fin 4) (c : ActClass) : (p.reportClass b c).held = p.held := rfl
@[simp] theorem reportClass_windows (p : Part) (b : Fin 4) (c : ActClass) : (p.reportClass b c).windows = p.windows := rfl
@[simp] theorem reportClass_router (p : Part) (b : Fin 4) (c : ActClass) : (p.reportClass b c).router = p.router := rfl
@[simp] theorem reportClass_power (p : Part) (b : Fin 4) (c : ActClass) : (p.reportClass b c).power = p.power := rfl
@[simp] theorem reportClass_box (p : Part) (b : Fin 4) (c : ActClass) : (p.reportClass b c).box = p.box := rfl
@[simp] theorem reportClass_engine (p : Part) (b : Fin 4) (c : ActClass) : (p.reportClass b c).engine = p.engine := rfl
@[simp] theorem reportClass_matcher (p : Part) (b : Fin 4) (c : ActClass) : (p.reportClass b c).matcher = p.matcher := rfl
@[simp] theorem reportClass_pp (p : Part) (b : Fin 4) (c : ActClass) : (p.reportClass b c).pp = p.pp := rfl
@[simp] theorem reportClass_dp (p : Part) (b : Fin 4) (c : ActClass) : (p.reportClass b c).dp = p.dp := rfl
@[simp] theorem reportClass_mp (p : Part) (b : Fin 4) (c : ActClass) : (p.reportClass b c).mp = p.mp := rfl
@[simp] theorem reportClass_loader (p : Part) (b : Fin 4) (c : ActClass) : (p.reportClass b c).loader = p.loader := rfl
@[simp] theorem reportClass_bayRails (p : Part) (b : Fin 4) (c : ActClass) : (p.reportClass b c).bayRails = p.bayRails := rfl
@[simp] theorem reportClass_statusCode (p : Part) (b : Fin 4) (c : ActClass) : (p.reportClass b c).statusCode = p.statusCode := rfl
@[simp] theorem reportClass_out (p : Part) (b : Fin 4) (c : ActClass) : (p.reportClass b c).out = p.out := rfl
@[simp] theorem reportClass_window (p : Part) (b : Fin 4) (c : ActClass) (i : Fin 16) : (p.reportClass b c).window i = p.window i := by simp [window]

@[simp] theorem addReason_clock (p : Part) (k : ReasonKind) : (p.addReason k).clock = p.clock := by unfold addReason; rfl
@[simp] theorem addReason_held (p : Part) (k : ReasonKind) : (p.addReason k).held = p.held := by unfold addReason; rfl
@[simp] theorem addReason_windows (p : Part) (k : ReasonKind) : (p.addReason k).windows = p.windows := by unfold addReason; rfl
@[simp] theorem addReason_router (p : Part) (k : ReasonKind) : (p.addReason k).router = p.router := by unfold addReason; rfl
@[simp] theorem addReason_bays (p : Part) (k : ReasonKind) : (p.addReason k).bays = p.bays := by unfold addReason; rfl
@[simp] theorem addReason_power (p : Part) (k : ReasonKind) : (p.addReason k).power = p.power := by unfold addReason; rfl
@[simp] theorem addReason_engine (p : Part) (k : ReasonKind) : (p.addReason k).engine = p.engine := by unfold addReason; rfl
@[simp] theorem addReason_matcher (p : Part) (k : ReasonKind) : (p.addReason k).matcher = p.matcher := by unfold addReason; rfl
@[simp] theorem addReason_pp (p : Part) (k : ReasonKind) : (p.addReason k).pp = p.pp := by unfold addReason; rfl
@[simp] theorem addReason_dp (p : Part) (k : ReasonKind) : (p.addReason k).dp = p.dp := by unfold addReason; rfl
@[simp] theorem addReason_mp (p : Part) (k : ReasonKind) : (p.addReason k).mp = p.mp := by unfold addReason; rfl
@[simp] theorem addReason_loader (p : Part) (k : ReasonKind) : (p.addReason k).loader = p.loader := by unfold addReason; rfl
@[simp] theorem addReason_bayRails (p : Part) (k : ReasonKind) : (p.addReason k).bayRails = p.bayRails := by unfold addReason; rfl
@[simp] theorem addReason_statusCode (p : Part) (k : ReasonKind) : (p.addReason k).statusCode = p.statusCode := by unfold addReason; rfl
@[simp] theorem addReason_out (p : Part) (k : ReasonKind) : (p.addReason k).out = p.out := by unfold addReason; rfl
@[simp] theorem addReason_bay (p : Part) (k : ReasonKind) (i : Fin 4) : (p.addReason k).bay i = p.bay i := by simp [bay]
@[simp] theorem addReason_window (p : Part) (k : ReasonKind) (i : Fin 16) : (p.addReason k).window i = p.window i := by simp [window]

@[simp] theorem toState_clock (p : Part) (st : BoxState) : (p.toState st).clock = p.clock := by unfold toState; extract_lets; split <;> rfl
@[simp] theorem toState_held (p : Part) (st : BoxState) : (p.toState st).held = p.held := by unfold toState; extract_lets; split <;> rfl
@[simp] theorem toState_windows (p : Part) (st : BoxState) : (p.toState st).windows = p.windows := by unfold toState; extract_lets; split <;> rfl
@[simp] theorem toState_router (p : Part) (st : BoxState) : (p.toState st).router = p.router := by unfold toState; extract_lets; split <;> rfl
@[simp] theorem toState_bays (p : Part) (st : BoxState) : (p.toState st).bays = p.bays := by unfold toState; extract_lets; split <;> rfl
@[simp] theorem toState_power (p : Part) (st : BoxState) : (p.toState st).power = p.power := by unfold toState; extract_lets; split <;> rfl
@[simp] theorem toState_matcher (p : Part) (st : BoxState) : (p.toState st).matcher = p.matcher := by unfold toState; extract_lets; split <;> rfl
@[simp] theorem toState_pp (p : Part) (st : BoxState) : (p.toState st).pp = p.pp := by unfold toState; extract_lets; split <;> rfl
@[simp] theorem toState_dp (p : Part) (st : BoxState) : (p.toState st).dp = p.dp := by unfold toState; extract_lets; split <;> rfl
@[simp] theorem toState_mp (p : Part) (st : BoxState) : (p.toState st).mp = p.mp := by unfold toState; extract_lets; split <;> rfl
@[simp] theorem toState_loader (p : Part) (st : BoxState) : (p.toState st).loader = p.loader := by unfold toState; extract_lets; split <;> rfl
@[simp] theorem toState_bayRails (p : Part) (st : BoxState) : (p.toState st).bayRails = p.bayRails := by unfold toState; extract_lets; split <;> rfl
@[simp] theorem toState_statusCode (p : Part) (st : BoxState) : (p.toState st).statusCode = p.statusCode := by unfold toState; extract_lets; split <;> rfl
@[simp] theorem toState_out (p : Part) (st : BoxState) : (p.toState st).out = p.out := by unfold toState; extract_lets; split <;> rfl
@[simp] theorem toState_bay (p : Part) (st : BoxState) (i : Fin 4) : (p.toState st).bay i = p.bay i := by simp [bay]
@[simp] theorem toState_window (p : Part) (st : BoxState) (i : Fin 16) : (p.toState st).window i = p.window i := by simp [window]

@[simp] theorem insertSp_clock (p : Part) : (p.insertSp).clock = p.clock := by unfold insertSp; rfl
@[simp] theorem insertSp_held (p : Part) : (p.insertSp).held = p.held := by unfold insertSp; rfl
@[simp] theorem insertSp_windows (p : Part) : (p.insertSp).windows = p.windows := by unfold insertSp; rfl
@[simp] theorem insertSp_router (p : Part) : (p.insertSp).router = p.router := by unfold insertSp; rfl
@[simp] theorem insertSp_bays (p : Part) : (p.insertSp).bays = p.bays := by unfold insertSp; rfl
@[simp] theorem insertSp_box (p : Part) : (p.insertSp).box = p.box := by unfold insertSp; rfl
@[simp] theorem insertSp_engine (p : Part) : (p.insertSp).engine = p.engine := by unfold insertSp; rfl
@[simp] theorem insertSp_matcher (p : Part) : (p.insertSp).matcher = p.matcher := by unfold insertSp; rfl
@[simp] theorem insertSp_pp (p : Part) : (p.insertSp).pp = p.pp := by unfold insertSp; rfl
@[simp] theorem insertSp_dp (p : Part) : (p.insertSp).dp = p.dp := by unfold insertSp; rfl
@[simp] theorem insertSp_mp (p : Part) : (p.insertSp).mp = p.mp := by unfold insertSp; rfl
@[simp] theorem insertSp_loader (p : Part) : (p.insertSp).loader = p.loader := by unfold insertSp; rfl
@[simp] theorem insertSp_bayRails (p : Part) : (p.insertSp).bayRails = p.bayRails := by unfold insertSp; rfl
@[simp] theorem insertSp_statusCode (p : Part) : (p.insertSp).statusCode = p.statusCode := by unfold insertSp; rfl
@[simp] theorem insertSp_out (p : Part) : (p.insertSp).out = p.out := by unfold insertSp; rfl
@[simp] theorem insertSp_bay (p : Part) (i : Fin 4) : (p.insertSp).bay i = p.bay i := by simp [bay]
@[simp] theorem insertSp_window (p : Part) (i : Fin 16) : (p.insertSp).window i = p.window i := by simp [window]

@[simp] theorem removeSp_clock (p : Part) : (p.removeSp).clock = p.clock := by unfold removeSp; rfl
@[simp] theorem removeSp_held (p : Part) : (p.removeSp).held = p.held := by unfold removeSp; rfl
@[simp] theorem removeSp_windows (p : Part) : (p.removeSp).windows = p.windows := by unfold removeSp; rfl
@[simp] theorem removeSp_router (p : Part) : (p.removeSp).router = p.router := by unfold removeSp; rfl
@[simp] theorem removeSp_bays (p : Part) : (p.removeSp).bays = p.bays := by unfold removeSp; rfl
@[simp] theorem removeSp_box (p : Part) : (p.removeSp).box = p.box := by unfold removeSp; rfl
@[simp] theorem removeSp_engine (p : Part) : (p.removeSp).engine = p.engine := by unfold removeSp; rfl
@[simp] theorem removeSp_matcher (p : Part) : (p.removeSp).matcher = p.matcher := by unfold removeSp; rfl
@[simp] theorem removeSp_pp (p : Part) : (p.removeSp).pp = p.pp := by unfold removeSp; rfl
@[simp] theorem removeSp_dp (p : Part) : (p.removeSp).dp = p.dp := by unfold removeSp; rfl
@[simp] theorem removeSp_mp (p : Part) : (p.removeSp).mp = p.mp := by unfold removeSp; rfl
@[simp] theorem removeSp_loader (p : Part) : (p.removeSp).loader = p.loader := by unfold removeSp; rfl
@[simp] theorem removeSp_bayRails (p : Part) : (p.removeSp).bayRails = p.bayRails := by unfold removeSp; rfl
@[simp] theorem removeSp_statusCode (p : Part) : (p.removeSp).statusCode = p.statusCode := by unfold removeSp; rfl
@[simp] theorem removeSp_out (p : Part) : (p.removeSp).out = p.out := by unfold removeSp; rfl
@[simp] theorem removeSp_bay (p : Part) (i : Fin 4) : (p.removeSp).bay i = p.bay i := by simp [bay]
@[simp] theorem removeSp_window (p : Part) (i : Fin 16) : (p.removeSp).window i = p.window i := by simp [window]

@[simp] theorem finish_clock (p : Part) : (p.finish).clock = p.clock := by simp [finish]
@[simp] theorem finish_held (p : Part) : (p.finish).held = p.held := by simp [finish]
@[simp] theorem finish_windows (p : Part) : (p.finish).windows = p.windows := by simp [finish]
@[simp] theorem finish_router (p : Part) : (p.finish).router = p.router := by simp [finish]
@[simp] theorem finish_bays (p : Part) : (p.finish).bays = p.bays := by simp [finish]
@[simp] theorem finish_power (p : Part) : (p.finish).power = p.power := by simp [finish]
@[simp] theorem finish_box (p : Part) : (p.finish).box = p.box := by simp [finish]
@[simp] theorem finish_engine (p : Part) : (p.finish).engine = p.engine := by simp [finish]
@[simp] theorem finish_matcher (p : Part) : (p.finish).matcher = p.matcher := by simp [finish]
@[simp] theorem finish_dp (p : Part) : (p.finish).dp = p.dp := by simp [finish]
@[simp] theorem finish_loader (p : Part) : (p.finish).loader = p.loader := by simp [finish]
@[simp] theorem finish_bay (p : Part) (i : Fin 4) : (p.finish).bay i = p.bay i := by simp [bay]
@[simp] theorem finish_window (p : Part) (i : Fin 16) : (p.finish).window i = p.window i := by simp [window]

/-! ## Fields an update writes -/

@[simp] theorem bay_modBay (p : Part) (b : Fin 4) (f : Bay → Bay) : (p.modBay b f).bay b = f (p.bay b) := by
  simp [modBay, bay]
@[simp] theorem bay_modBay_of_ne (p : Part) {b i : Fin 4} (h : b ≠ i) (f : Bay → Bay) :
    (p.modBay b f).bay i = p.bay i := by
  have h' : b.val ≠ i.val := fun e => h (Fin.ext e)
  simp [modBay, bay, h']
@[simp] theorem window_modWindow (p : Part) (w : Fin 16) (f : Window → Window) :
    (p.modWindow w f).window w = f (p.window w) := by simp [modWindow, window]
@[simp] theorem window_modWindow_of_ne (p : Part) {w i : Fin 16} (h : w ≠ i) (f : Window → Window) :
    (p.modWindow w f).window i = p.window i := by
  have h' : w.val ≠ i.val := fun e => h (Fin.ext e)
  simp [modWindow, window, h']
/-- The bay last written over is read back. -/
@[simp] theorem bay_set (p : Part) (b : Fin 4) (x : Bay) : ({ p with bays := p.bays.set b x } : Part).bay b = x := by
  simp [bay]
/-- The window last written over is read back. -/
@[simp] theorem window_set (p : Part) (w : Fin 16) (v : Window) :
    ({ p with windows := p.windows.set w v } : Part).window w = v := by simp [window]
@[simp] theorem emit_out (p : Part) (o : Output) : (p.emit o).out = p.out ++ [o] := rfl
@[simp] theorem begin_out (p : Part) : p.begin.out = [] := rfl
@[simp] theorem readRecord_out (p : Part) :
    p.readRecord.out = p.out ++ [.spRead (p.pp.subBase + 64 * p.pp.fetchPos) 64] := rfl
@[simp] theorem markEnded_requests (p : Part) : p.markEnded.router.requests = p.router.requests := rfl
@[simp] theorem markEnded_pool (p : Part) : p.markEnded.router.pool = p.router.pool := rfl
@[simp] theorem markEnded_data (p : Part) : p.markEnded.router.data = p.router.data := rfl
@[simp] theorem closeBatch_batch (p : Part) : p.closeBatch.pp.batch = false := by
  unfold closeBatch; extract_lets; split <;> rfl
@[simp] theorem modRequest_requests (p : Part) (id : Nat) (f : Request → Request) :
    (p.modRequest id f).router.requests = p.router.requests.map fun r => if r.id = id then f r else r := rfl
@[simp] theorem modRequest_pool (p : Part) (id : Nat) (f : Request → Request) :
    (p.modRequest id f).router.pool = p.router.pool := rfl
@[simp] theorem modRequest_data (p : Part) (id : Nat) (f : Request → Request) :
    (p.modRequest id f).router.data = p.router.data := rfl
@[simp] theorem releaseSlots_requests (p : Part) (h : Holder) (keep : List Nat) :
    (p.releaseSlots h keep).router.requests = p.router.requests := rfl
@[simp] theorem releaseSlots_data (p : Part) (h : Holder) (keep : List Nat) :
    (p.releaseSlots h keep).router.data = p.router.data := rfl
/-- A notice raised is in the set of the processor port. -/
theorem mem_raise_pp (p : Part) (k : Notice) : k ∈ (p.raise k).pp.notices := by
  have h : (p.raise k).pp.notices = if k ∈ p.pp.notices then p.pp.notices else p.pp.notices ++ [k] := by
    unfold raise; extract_lets; split <;> rfl
  rw [h]; split <;> simp_all
/-- A notice raised is in the set of the management port. -/
theorem mem_raise_mp (p : Part) (k : Notice) : k ∈ (p.raise k).mp.notices := by
  have h : (p.raise k).mp.notices = if k ∈ p.mp.notices then p.mp.notices else p.mp.notices ++ [k] := by
    unfold raise; extract_lets; split <;> rfl
  rw [h]; split <;> simp_all

/-! ## What the shared operations can do -/

/-- Everything a start request can do (R51). -/
theorem requestStart_cases (p : Part) (b : Fin 4) :
    p.requestStart b = p
      ∨ ((p.bay b).serviceHold = false ∧ (p.bay b).power = .stopping
        ∧ p.requestStart b = p.modBay b fun x => { x with startAfterStop := true })
      ∨ ∃ f : WaitFrom, (p.bay b).serviceHold = false
        ∧ (((p.bay b).power = .off ∧ f = .off) ∨ ((p.bay b).power = .standby ∧ f = .standby))
        ∧ p.requestStart b = { p with
            bays := p.bays.set b { p.bay b with power := .waiting, waitingFrom := some f }
            power := { p.power with startQueue := p.power.startQueue ++ [.bay b] } } := by
  cases hs : (p.bay b).serviceHold with
  | true => exact .inl (by simp [requestStart, hs])
  | false =>
    cases hp : (p.bay b).power with
    | off => exact .inr (.inr ⟨.off, rfl, .inl ⟨rfl, rfl⟩, by simp [requestStart, hs, hp, modBay]⟩)
    | standby => exact .inr (.inr ⟨.standby, rfl, .inr ⟨rfl, rfl⟩, by simp [requestStart, hs, hp, modBay]⟩)
    | stopping => exact .inr (.inl ⟨rfl, rfl, by simp [requestStart, hs, hp]⟩)
    | absent => exact .inl (by simp [requestStart, hs, hp])
    | waiting => exact .inl (by simp [requestStart, hs, hp])
    | starting => exact .inl (by simp [requestStart, hs, hp])
    | ready => exact .inl (by simp [requestStart, hs, hp])
    | fault => exact .inl (by simp [requestStart, hs, hp])

/-- Everything the giving of an answer can do: it puts out the answer buffer's bytes or a reply, and writes the list, the
send list or the reply slot of its port. -/
theorem answerFrom_cases (p : Part) (first : Nat) (a : Answerer) (st : Status) (ans : Answer) :
    ∃ out pp dp mp, p.answerFrom first a st ans = { p with out := out, pp := pp, dp := dp, mp := mp } :=
  ⟨(p.answerFrom first a st ans).out, (p.answerFrom first a st ans).pp, (p.answerFrom first a st ans).dp,
    (p.answerFrom first a st ans).mp, by
      have h : ∀ q r : Part, q.clock = r.clock → q.held = r.held → q.windows = r.windows → q.router = r.router →
          q.bays = r.bays → q.power = r.power → q.box = r.box → q.engine = r.engine → q.matcher = r.matcher →
          q.loader = r.loader → q.bayRails = r.bayRails → q.statusCode = r.statusCode →
          q = { r with out := q.out, pp := q.pp, dp := q.dp, mp := q.mp } := by
        rintro ⟨⟩ ⟨⟩; simp_all
      apply h <;> simp⟩

/-- Everything the end of a batch can do: the mark is cleared, and one completion interrupt is put out where the batch held a
completion and completion interrupts are on. -/
theorem closeBatch_eq (p : Part) : p.closeBatch = { p with
    pp := { p.pp with batch := false }
    out := p.out ++ (if p.pp.batch = true ∧ p.pp.compIntOff = false then [.completionInterrupt] else []) } := by
  unfold closeBatch
  cases hb : p.pp.batch <;> cases hc : p.pp.compIntOff <;> simp [emit]

/-- Everything a raised notice can do: it joins both sets, and is put out as an interrupt where the port asks for it. -/
theorem raise_cases (p : Part) (k : Notice) :
    ∃ out, (out = p.out ∨ out = p.out ++ [.noticeInterrupt]) ∧ p.raise k = { p with
      pp := { p.pp with notices := if k ∈ p.pp.notices then p.pp.notices else p.pp.notices ++ [k] }
      mp := { p.mp with notices := if k ∈ p.mp.notices then p.mp.notices else p.mp.notices ++ [k] }
      out := out } := by
  unfold raise
  extract_lets q
  split
  · exact ⟨_, .inr rfl, rfl⟩
  · exact ⟨_, .inl rfl, rfl⟩

end Part

end Sys2Proof.Machine
end

