-- ==== Sys2Proof/Laws/Engine.lean ====
section
/-! SUPPORT. What the operations over all bays, all windows and the whole pool do, each said once as one record update; and
with them the abandoning, stopping and ending of chunks and the reset of the processor port. -/

namespace Sys2Proof.Machine

open Sys2Proof

/-! ## Every bay, every window, every slot -/

theorem mem_allBays : ∀ b : Fin 4, b ∈ allBays := by decide

theorem mem_allWindows : ∀ w : Fin 16, w ∈ allWindows := by decide

/-- Setting each place of a vector from what stands there is mapping it. -/
theorem foldl_set_eq_map {α : Type} {n : Nat} (f : Fin n → α → α) : ∀ (l : List (Fin n)) (v : Vector α n), l.Nodup →
    ∀ i : Fin n, (l.foldl (fun u k => u.set k (f k u[k])) v)[i] = if i ∈ l then f i v[i] else v[i]
  | [], v, _, i => by simp
  | k :: l, v, h, i => by
    obtain ⟨hk, hl⟩ := List.nodup_cons.1 h
    rw [List.foldl_cons, foldl_set_eq_map f l _ hl i]
    by_cases hi : i = k
    · subst hi
      simp [hk]
    · have hv : (k : Nat) ≠ i := fun h => hi (Fin.ext h.symm)
      simp [hi, Vector.getElem_set_ne, hv]

theorem freeSlotsOf_nil (h : Holder) : ∀ (i : Nat) (l : List Holder),
    freeSlotsOf h [] i l = l.map fun x => if x = h then .free else x
  | _, [] => rfl
  | i, x :: l => by simp [freeSlotsOf, freeSlotsOf_nil h (i + 1) l]

namespace Part

/-- `modBays` is one map over the bays. -/
theorem modBays_eq (f : Bay → Bay) (p : Part) : p.modBays f = { p with bays := p.bays.map f } := by
  have h : ∀ (l : List (Fin 4)) (q : Part), l.foldl (fun q b => q.modBay b f) q
      = { q with bays := l.foldl (fun (u : Vector Bay 4) (k : Fin 4) => u.set k (f u[k])) q.bays } := by
    intro l
    induction l with
    | nil => intro q; rfl
    | cons b l ih => intro q; rw [List.foldl_cons, ih, List.foldl_cons]; rfl
  unfold modBays
  rw [h]
  congr 1
  refine Vector.ext fun i hi => ?_
  have := foldl_set_eq_map (n := 4) (fun _ => f) allBays p.bays (by decide) ⟨i, hi⟩
  simpa [mem_allBays] using this

/-- Changing every window's record by its index is one map over the windows. -/
theorem modWindowsBy_eq (f : Fin 16 → Window → Window) (p : Part) :
    allWindows.foldl (fun q w => q.modWindow w (f w)) p = { p with windows := Vector.ofFn fun w => f w (p.window w) } := by
  have h : ∀ (l : List (Fin 16)) (q : Part), l.foldl (fun q w => q.modWindow w (f w)) q
      = { q with windows := l.foldl (fun (u : Vector Window 16) (k : Fin 16) => u.set k (f k u[k])) q.windows } := by
    intro l
    induction l with
    | nil => intro q; rfl
    | cons b l ih => intro q; rw [List.foldl_cons, ih, List.foldl_cons]; rfl
  rw [h]
  congr 1
  refine Vector.ext fun i hi => ?_
  have := foldl_set_eq_map (n := 16) f allWindows p.windows (by decide) ⟨i, hi⟩
  simpa [mem_allWindows, Part.window] using this

/-- Changing every window's record is one map over the windows. -/
theorem modWindows_eq (f : Window → Window) (p : Part) :
    allWindows.foldl (fun q w => q.modWindow w f) p = { p with windows := p.windows.map f } := by
  rw [modWindowsBy_eq fun _ => f]
  congr 1
  ext i hi
  simp [window]

/-- A waiter leaves every room-wait list. -/
theorem leaveRooms_eq (x : Waiter) (p : Part) :
    p.leaveRooms x = { p with bays := p.bays.map fun b => { b with roomWait := b.roomWait.filter (· != x) } } :=
  modBays_eq _ p

/-- The slots of a holder are freed. -/
theorem releaseSlots_eq (h : Holder) (p : Part) :
    p.releaseSlots h [] = { p with router := { p.router with pool := p.router.pool.map fun x => if x = h then .free else x } } := by
  simp [releaseSlots, freeSlotsOf_nil]

/-! ## Chunks -/

theorem endChunk_eq (p : Part) : p.endChunk = chunkEnded p := by
  simp only [endChunk, releaseSlots_eq]
  rfl

theorem abandonChunk_eq {p : Part} {c : Chunk} (h : p.engine.chunk = some c) : p.abandonChunk = chunkAbandoned p c := by
  simp only [abandonChunk, h, leaveRooms_eq, modBays_eq, leaveSlotWait, chunkAbandoned, Vector.map_map]
  congr 2
  funext x
  simp only [Function.comp_apply]
  congr 2
  funext o
  cases o with
  | mk kind block count origin parent reissue slots => cases parent <;> rfl

theorem stopChunk_eq {p : Part} {c : Chunk} (h : p.engine.chunk = some c) :
    p.stopChunk = if c.abandoned = true then p else chunkStopped p c := by
  simp only [stopChunk, h]
  split
  · rfl
  · cases hk : c.kind
    all_goals simp only [chunkStopped, hk]
    all_goals rw [abandonChunk_eq (c := c) (by simpa [modEntry, setLog, modWindow] using h)]
    simp [modEntry, setLog, LogEntry.isFor, dirtyEntry, regionOf, Config.regionBlocks]
    all_goals rfl

/-- What a LOST mark does to the current chunk of a window (R34, R95). -/
theorem withdrawChunk_eq {p : Part} {c : Chunk} (w : Fin 16) (h : p.engine.chunk = some c) :
    p.withdrawChunk w
      = if c.window = w ∧ (c.kind = ChunkKind.resync ∨ c.kind = ChunkKind.repair) then chunkAbandoned p c
        else if c.window = w ∧ c.kind = ChunkKind.patrol ∧ c.phase = .slotWait ∧ c.abandoned = false
            ∧ Config.lostUnlistsCompare = true then
          { p with router := { p.router with slotWait := p.router.slotWait.filter fun e => e.who != .engine } }
        else p := by
  unfold withdrawChunk
  rw [h]
  dsimp only
  by_cases hw : c.window = w
  · cases hk : c.kind <;> simp [hw, abandonChunk_eq h]
    by_cases ha : c.abandoned = true <;> by_cases hp : c.phase = .slotWait <;> 
      by_cases hf : Config.lostUnlistsCompare = true <;> simp_all [leaveSlotWait]
  · simp [hw]

/-- The region copies of a bay that leaves READY go back to their start, but for the work of the chunk kept (R108, R111). -/
theorem restartCopies_eq (b : Fin 4) (kept : Option Chunk) (p : Part) : p.restartCopies b kept = { p with
    engine := { p.engine with log := p.engine.log.map fun e =>
      if e.copying ∧ (p.window e.window).onBay b ∧ !copiesEntry kept e then dirtyEntry e else e }
    windows := Vector.ofFn fun w =>
      let v := p.window w
      if v.cursor.isSome ∧ v.onBay b ∧ !rebuildsWindow kept w then { v with rebuildChunk := 0 } else v } := by
  unfold restartCopies
  have := modWindowsBy_eq (fun w v => if v.cursor.isSome ∧ v.onBay b ∧ !rebuildsWindow kept w then
    { v with rebuildChunk := 0 } else v) (p.setLog (p.engine.log.map fun e =>
      if e.copying ∧ (p.window e.window).onBay b ∧ !copiesEntry kept e then dirtyEntry e else e))
  refine Eq.trans ?_ this
  congr 1
  funext q w
  split
  · rename_i h
    unfold modWindow
    dsimp only
    rw [if_pos h]
  · rename_i h
    unfold modWindow
    dsimp only
    rw [if_neg h]
    simp [window]

theorem abandonRebuild_eq (w : Fin 16) (p : Part) : p.abandonRebuild w = rebuildAbandoned p w := by
  simp only [abandonRebuild, rebuildAbandoned, Option.isNone_iff_eq_none]
  split
  · rfl
  · cases hc : p.engine.chunk with
    | none => rfl
    | some c =>
      simp only []
      split
      · rw [abandonChunk_eq hc]
        rfl
      · rfl

/-! ## A bay that fails -/

/-- Recording an error that leads to FAULT and entering it (R64, R65). -/
theorem recordError_enterFault_eq (k : ErrorKind) (b : Fin 4) (p : Part) :
    (p.recordError b k none).enterFault b = bayFaulted p b k := by
  unfold enterFault bayDown bayFaulted recordError
  dsimp only
  have h : ∀ f : Bay → Bay, (p.modBay b f).bay b = f (p.bay b) := by
    intro f
    simp [modBay, bay]
  have h2 : ∀ f g : Bay → Bay, (p.modBay b f).modBay b g = { p with bays := p.bays.set b (g (f (p.bay b))) } := by
    intro f g
    simp [modBay, bay]
  rw [h, h2]
  simp only [bump]
  cases (p.bay b).firstError <;> simp [now] <;> rfl

/-! ## The reset of the processor port -/

theorem closeBatch_eq_batchEnded (p : Part) : p.closeBatch = batchEnded p := by
  cases hb : p.pp.batch <;> cases hi : p.pp.compIntOff <;> simp [closeBatch, batchEnded, hb, hi, emit]

theorem ppReset_eq (p : Part) : p.ppReset = portReset p := by
  have hv : voidPp = owedAfterReset := by
    funext a
    cases a <;> rfl
  simp only [ppReset, closeBatch_eq_batchEnded, portReset, modWindows_eq, modBays_eq, hv, ppAfterReset]

end Part

end Sys2Proof.Machine
end

