-- ==== Sys2Proof/Laws/Events.lean ====
section
/-! SUPPORT. What one event comes to: the consequences of a settled part are none, and the effect of a command follows from
the function its meaning applies to the part. -/

namespace Sys2Proof.Machine

open Sys2Proof

namespace Part

/-- A settled part is where its event ends. -/
theorem settle_of_settled {p : Part} (h : p.settled = true) (n : Nat) : settle n p = p := by
  have h' : p.consequence = none := by simpa [settled] using h
  cases n <;> simp [settle, h']

/-- One consequence due is taken first. -/
theorem settle_of_consequence {p q : Part} (h : p.consequence = some q) (n : Nat) : settle (n + 1) p = settle n q := by
  simp [settle, h]

/-- Where no completion can be written, none is. -/
theorem postAll_of_not_mayPost {p : Part} (h : p.mayPost = false) (n : Nat) : postAll n p = p := by
  cases n <;> simp [postAll, h]

/-- While the main domain runs, an event is its own effect, its consequences and the outputs that follow. -/
theorem event_of_running {p : Part} (h : p.held = false) (f : Part → Part) :
    p.event f = (settle Config.cascadeLimit (f p.begin)).finish := by simp [event, h]

/-- While the POR line is held, an event of the main domain changes nothing. -/
theorem event_of_held {p : Part} (h : p.held = true) (f : Part → Part) : p.event f = p := by simp [event, h]

/-- A quiet event of a running main domain. -/
theorem quietEvent_of_running {p : Part} (h : p.held = false) (f : Part → Part) :
    p.quietEvent f = (postAll Config.ppLimit (f p.begin)).finish := by simp [quietEvent, h]

/-- A quiet event of a held main domain. -/
theorem quietEvent_of_held {p : Part} (h : p.held = true) (f : Part → Part) : p.quietEvent f = p := by
  simp [quietEvent, h]

/-- A property that each consequence keeps is kept by all the consequences of an event. -/
theorem settle_induction {P : Part → Prop} (hc : ∀ p q, P p → p.consequence = some q → P q) :
    ∀ (n : Nat) (p : Part), P p → P (settle n p)
  | 0, _, h => by simpa [settle] using h
  | n + 1, p, h => by
    unfold settle
    cases hq : p.consequence with
    | none => simpa using h
    | some q => simpa using settle_induction hc n q (hc p q h hq)

/-- A property that the writing of a completion keeps is kept by the writing of all of them. -/
theorem postAll_induction {P : Part → Prop} (hc : ∀ p, P p → P p.postOne) : ∀ (n : Nat) (p : Part), P p → P (postAll n p)
  | 0, _, h => by simpa [postAll] using h
  | n + 1, p, h => by
    unfold postAll
    split
    · exact postAll_induction hc n _ (hc p h)
    · exact h

end Part

/-- The effect of a command whose meaning is an event with own effect `f`. -/
theorem gives_of_event {c : Instr} {s : State} {f : Part → Part} {q : Part} (hx : exec c s = onEvent f s)
    (hh : s.part.held = false) (hq : f s.part.begin = q) : Gives c s q := by
  have h : exec c s = .next { s with part := (Part.settle Config.cascadeLimit q).finish } := by
    simp [hx, onEvent, change, Part.event_of_running hh, hq]
  exact ⟨h, fun hs => by rw [h, Part.settle_of_settled hs]⟩

/-- The effect of a command whose meaning is a quiet event with own effect `f`. -/
theorem gives_of_quietEvent {c : Instr} {s : State} {f : Part → Part} {q : Part} (hx : exec c s = onQuiet f s)
    (hh : s.part.held = false) (hq : f s.part.begin = q) : GivesQuietly c s q := by
  have h : exec c s = .next { s with part := (Part.postAll Config.ppLimit q).finish } := by
    simp [hx, onQuiet, change, Part.quietEvent_of_running hh, hq]
  exact ⟨h, fun hs => by rw [h, Part.postAll_of_not_mayPost hs]⟩

end Sys2Proof.Machine
end

