-- ==== Sys2Proof/Laws/Memory.lean ====
section
/-! SUPPORT. The laws of the slots' contents: a byte written is read back, every other byte stands, and the canonical form is
kept. A proof about a transfer cites these and never unfolds the list. -/

namespace Sys2Proof.Machine

open Sys2Proof

theorem readByte_of_lt (m : List Host.Cell) (a : Nat) (h : ∀ c ∈ m, a < c.1) : readByte m a = 0 := by
  induction m with
  | nil => rfl
  | cons c m ih =>
    have hc := h c (by simp)
    simp only [readByte]
    rw [if_neg (by omega)]
    exact ih fun x hx => h x (by simp [hx])

/-- The addresses a write leaves are the old ones and the written one. -/
theorem mem_writeByte {m : List Host.Cell} {a : Nat} {v : Byte} {c : Host.Cell} (h : c ∈ writeByte m a v) :
    c ∈ m ∨ c = (a, v) := by
  induction m with
  | nil =>
    simp only [writeByte] at h
    split at h
    · simp at h
    · simpa using h
  | cons d m ih =>
    simp only [writeByte] at h
    split at h
    · split at h
      · exact .inl (by simp [h])
      · rcases List.mem_cons.1 h with h | h
        · exact .inr h
        · exact .inl (by simp [h])
    · split at h
      · split at h
        · exact .inl (List.mem_cons_of_mem _ h)
        · rcases List.mem_cons.1 h with h | h
          · exact .inr h
          · exact .inl (List.mem_cons_of_mem _ h)
      · rcases List.mem_cons.1 h with h | h
        · exact .inl (by simp [h])
        · rcases ih h with h | h
          · exact .inl (by simp [h])
          · exact .inr h

/-- A byte written keeps the canonical form. -/
theorem writeByte_wf {m : List Host.Cell} (h : memWf m) (a : Nat) (v : Byte) : memWf (writeByte m a v) := by
  induction m with
  | nil =>
    simp only [writeByte]
    split
    · exact h
    · exact ⟨by simp, by simpa using ‹¬v = 0›⟩
  | cons c m ih =>
    obtain ⟨hlt, hp⟩ := List.pairwise_cons.1 h.1
    have hz := h.2
    have hm : memWf m := ⟨hp, fun x hx => hz x (by simp [hx])⟩
    simp only [writeByte]
    split
    · split
      · exact h
      · refine ⟨List.pairwise_cons.2 ⟨fun x hx => ?_, h.1⟩, ?_⟩
        · rcases List.mem_cons.1 hx with rfl | hx
          · assumption
          · exact Nat.lt_trans ‹a < c.1› (hlt x hx)
        · intro x hx
          rcases List.mem_cons.1 hx with rfl | hx
          · assumption
          · exact hz x hx
    · split
      · split
        · exact hm
        · refine ⟨List.pairwise_cons.2 ⟨fun x hx => ?_, hp⟩, ?_⟩
          · have := hlt x hx
            simp_all
          · intro x hx
            rcases List.mem_cons.1 hx with rfl | hx
            · assumption
            · exact hm.2 x hx
      · refine ⟨List.pairwise_cons.2 ⟨fun x hx => ?_, (ih hm).1⟩, ?_⟩
        · rcases mem_writeByte hx with hx | rfl
          · exact hlt x hx
          · simp only
            omega
        · intro x hx
          rcases List.mem_cons.1 hx with rfl | hx
          · exact hz x (by simp)
          · exact (ih hm).2 x hx

/-- A byte read after a write: the byte written at its address, the byte that stood at any other. -/
theorem readByte_writeByte {m : List Host.Cell} (h : memWf m) (a x : Nat) (v : Byte) :
    readByte (writeByte m a v) x = if x = a then v else readByte m x := by
  induction m with
  | nil =>
    simp only [writeByte]
    split
    · subst v
      simp [readByte]
    · simp only [readByte, eq_comm (a := a)]
  | cons c m ih =>
    obtain ⟨hlt, hp⟩ := List.pairwise_cons.1 h.1
    have hm : memWf m := ⟨hp, fun y hy => h.2 y (by simp [hy])⟩
    simp only [writeByte]
    split
    · rename_i hac
      have h0 : readByte (c :: m) a = 0 := readByte_of_lt _ _ fun y hy => by
        rcases List.mem_cons.1 hy with rfl | hy
        · exact hac
        · exact Nat.lt_trans hac (hlt y hy)
      split
      · subst v
        split
        · subst x
          exact h0
        · rfl
      · simp only [readByte, eq_comm (a := a)]
    · split
      · subst a
        have h0 : readByte m c.1 = 0 := readByte_of_lt _ _ hlt
        split
        · subst v
          split
          · subst x
            exact h0
          · simp only [readByte]
            rw [if_neg (Ne.symm ‹¬x = c.1›)]
        · simp only [readByte, eq_comm (a := c.1)]
          split <;> rfl
      · simp only [readByte, ih hm]
        split
        · rw [if_neg (by omega)]
        · rfl

/-- A run of bytes written into slots keeps the canonical form. -/
theorem writeStream_wf (slots : List Nat) {m : List Host.Cell} (h : memWf m) (i : Nat) (bs : List Byte) :
    memWf (writeStream slots m i bs) := by
  induction bs generalizing m i with
  | nil => exact h
  | cons b bs ih =>
    simp only [writeStream]
    split
    · exact h
    · exact ih (writeByte_wf h _ _) _

/-- The slots' contents right after reset stand in canonical form. -/
theorem reset_memWf : memWf State.reset.part.router.data := ⟨List.Pairwise.nil, fun _ h => nomatch h⟩

end Sys2Proof.Machine
end

