-- ==== Sys2Proof/Laws/Ports.lean ====
section
/-! SUPPORT. What a port does with a command it takes: the command is carried out by its owner on the part as the port's
taking leaves it. -/

namespace Sys2Proof.Machine

open Sys2Proof

/-! ## What the port's taking leaves -/

@[simp] theorem portTook_clock (p : Part) (k : Option Kind) (via : Via) : (portTook p k via).clock = p.clock := by
  cases via <;> rfl
@[simp] theorem portTook_held (p : Part) (k : Option Kind) (via : Via) : (portTook p k via).held = p.held := by
  cases via <;> rfl
@[simp] theorem portTook_windows (p : Part) (k : Option Kind) (via : Via) : (portTook p k via).windows = p.windows := by
  cases via <;> rfl
@[simp] theorem portTook_router (p : Part) (k : Option Kind) (via : Via) : (portTook p k via).router = p.router := by
  cases via <;> rfl
@[simp] theorem portTook_bays (p : Part) (k : Option Kind) (via : Via) : (portTook p k via).bays = p.bays := by
  cases via <;> rfl
@[simp] theorem portTook_power (p : Part) (k : Option Kind) (via : Via) : (portTook p k via).power = p.power := by
  cases via <;> rfl
@[simp] theorem portTook_box (p : Part) (k : Option Kind) (via : Via) : (portTook p k via).box = p.box := by
  cases via <;> rfl
@[simp] theorem portTook_engine (p : Part) (k : Option Kind) (via : Via) : (portTook p k via).engine = p.engine := by
  cases via <;> rfl
@[simp] theorem portTook_matcher (p : Part) (k : Option Kind) (via : Via) : (portTook p k via).matcher = p.matcher := by
  cases via <;> rfl
@[simp] theorem portTook_loader (p : Part) (k : Option Kind) (via : Via) : (portTook p k via).loader = p.loader := by
  cases via <;> rfl
@[simp] theorem portTook_bayRails (p : Part) (k : Option Kind) (via : Via) : (portTook p k via).bayRails = p.bayRails := by
  cases via <;> rfl
@[simp] theorem portTook_statusCode (p : Part) (k : Option Kind) (via : Via) : (portTook p k via).statusCode = p.statusCode := by
  cases via <;> rfl
@[simp] theorem portTook_out_pp (p : Part) (k : Option Kind) (tag : Tag) (addr len : Nat) :
    (portTook p k (.pp tag addr len)).out = [.spRead (p.pp.subBase + 64 * p.pp.fetchPos) 64] := rfl
@[simp] theorem portTook_out_dp (p : Part) (k : Option Kind) (tag : Tag) : (portTook p k (.dp tag)).out = [] := rfl
@[simp] theorem portTook_out_mp (p : Part) (k : Option Kind) (seq : Byte) : (portTook p k (.mp seq)).out = [] := rfl
@[simp] theorem portTook_bay (p : Part) (k : Option Kind) (via : Via) (b : Fin 4) :
    (portTook p k via).bay b = p.bay b := by simp [Part.bay]
@[simp] theorem portTook_window (p : Part) (k : Option Kind) (via : Via) (w : Fin 16) :
    (portTook p k via).window w = p.window w := by simp [Part.window]

/-! ## Commands taken -/

/-- Whether a kind is a block request. -/
def isRequest : Kind → Bool
  | .read | .write | .flush => true
  | _ => false

/-- A command other than a block request, presented to a port that takes it and may issue it, is carried out on the part with
its record or frame taken. -/
theorem issue_taken {via : Via} {k : Kind} {c : Cmd} {p : Part} (h : Taken via k p) (hk : cmdKind c = some k)
    (hr : isRequest k = false) :
    Part.issue via c p.begin = Part.carryOut (answererOf via) c (portTook p (some k) via) := by
  obtain ⟨_, hready, hmay, hbusy⟩ := h
  have hask : ∀ port tag, Part.askOf port tag c = none := by
    intro port tag
    cases c <;> simp_all [Part.askOf, cmdKind] <;> subst hk <;> simp [isRequest] at hr
  cases via with
  | pp tag addr len =>
    have h1 : p.begin.mayFetch = true := hready
    simp only [Part.issue]
    rw [if_pos h1]
    simp [Part.handOnPp, hask, hk, show ppMayIssue k = true from hmay, answererOf, portTook, Part.fetched, Part.readRecord, Part.emit,
      Part.begin]
  | dp tag =>
    have h1 : p.begin.mayTake = true := hready
    simp only [Part.issue]
    rw [if_pos h1]
    simp [Part.handOnDp, hask, hk, show dpMayIssue k = true from hmay, answererOf, portTook, Part.taken, Part.begin]
  | mp seq =>
    have h1 : p.mp.st ≠ .executing := by simpa [portReady] using hready
    have h2 : ¬(p.box.st = none ∧ Part.busyInLoad k = true) := by
      rintro ⟨a, b⟩
      simp [startUpBusy, a, b] at hbusy
    simp [Part.issue, Part.frameIn, Part.begin, h1, Part.handOnMp, hk, Part.frameTaken,
      show mpMayIssue k = true from hmay, h2, answererOf, portTook]

/-- A block request presented to the processor port goes to the router, but for the box in WAKING. -/
theorem issue_request_pp {k : ReqKind} {c : Cmd} {p : Part} {tag : Tag} {addr len : Nat} {a : Ask}
    (h : Taken (.pp tag addr len) (requestKind k) p) (ha : Part.askOf .pp tag c = some a)
    (hw : p.box.st ≠ some .waking) :
    Part.issue (.pp tag addr len) c p.begin
      = (portTook p (some (requestKind k)) (.pp tag addr len)).takeRequest a := by
  obtain ⟨_, hready, _, _⟩ := h
  have h1 : p.begin.mayFetch = true := hready
  simp only [Part.issue]
  rw [if_pos h1]
  simp [Part.handOnPp, ha, Part.fetched, Part.readRecord, Part.emit, Part.begin, hw, portTook]

/-- A block request presented to the direct port goes to the router; a WRITE holds the out pipe. -/
theorem issue_request_dp {k : ReqKind} {c : Cmd} {p : Part} {tag : Tag} {a : Ask}
    (h : Taken (.dp tag) (requestKind k) p) (ha : Part.askOf .dp tag c = some a) :
    Part.issue (.dp tag) c p.begin
      = (if a.kind = .write then (portTook p (some (requestKind k)) (.dp tag)).dpWrite a
        else (portTook p (some (requestKind k)) (.dp tag)).takeRequest a) := by
  obtain ⟨_, hready, _, _⟩ := h
  have h1 : p.begin.mayTake = true := hready
  simp only [Part.issue]
  rw [if_pos h1]
  simp [Part.handOnDp, ha, Part.taken, Part.begin, portTook]

end Sys2Proof.Machine
end

