-- ==== Sys2Proof/WellFormed.lean ====
section
/-! DEFINITION. Which commands the outside can send: a number that crosses a port fits the field that carries it, a record has
its 64 bytes, a buffer list whole addresses. Numbers in a field that no command allows are well formed and refused by their
owner (R202). The meanings do not read this file: `exec` takes every command. -/

namespace Sys2Proof

open Sys2Proof.Machine

/-- A number fits a field of `k` bytes. -/
def fitsBytes (k n : Nat) : Bool := decide (n < 256 ^ k)

/-- The answer buffer of a PP record: an address of 8 bytes and a length of 2 (R202). -/
def viaWf : Via → Bool
  | .pp _ addr len => fitsBytes 8 addr && fitsBytes 2 len
  | .dp _ => true
  | .mp _ => true

/-- The fields of a block request's record (R202). -/
def blockWf (window offset count bufList : Nat) : Bool :=
  fitsBytes 1 window && fitsBytes 8 offset && fitsBytes 2 count && fitsBytes 8 bufList

/-- A term as its 10 bytes carry it (R206). -/
def termWf (t : Term) : Bool := fitsBytes 1 t.offset && fitsBytes 1 t.len && fitsBytes 4 t.value && fitsBytes 4 t.mask

/-- WAKE_ENTRY_SET carries an entry number and, unless it clears, an entry (R158, R206). -/
def wakeWf (w : WakeArgs) : Bool :=
  fitsBytes 1 w.entry && (w.clear == w.body.isNone)
    && (match w.body with
      | none => true
      | some b => b.terms.all termWf)

/-- What SP memory gives for operands: never more than the longest run (R202). -/
def operandsWf : OperandRead → Bool
  | .error => true
  | .bytes b => decide (b.length ≤ Config.maxOperands)

/-- What SP memory gives for a record: its 64 bytes (R176, R202). -/
def recordWf : RecordRead → Bool
  | .error => true
  | .record bytes ops => bytes.length == 64 && operandsWf ops

/-- The data of a drive's answer: whole blocks, no more than an operation covers (R61). -/
def driveDataWf : DriveAnswer → Bool
  | .done d => d.length % Config.blockBytes == 0 && decide (d.length ≤ Config.maxCount * Config.blockBytes)
  | .mediaError _ => true
  | .abort => true

/-- The serial of an IDENTIFY answer: text of up to 20 characters (R53, R202). -/
def identityWf : IdentifyAnswer → Bool
  | .done _ serial => decide (serial.length ≤ 20) && serial.all (· != 0)
  | .mediaError => true
  | .abort => true

/-- The data of a PP WRITE: whole blocks, no more than a request covers (R178). -/
def writeDataWf (d : List Byte) : Bool :=
  d.length % Config.blockBytes == 0 && decide (d.length ≤ Config.maxCount * Config.blockBytes)

/-- What SP memory gives for a buffer list: whole addresses of 8 bytes, no more than a request covers (R178). -/
def bufferListWf (l : List Byte) : Bool := l.length % 8 == 0 && decide (l.length ≤ 8 * Config.maxCount)

/-- An SP memory error: for operands, with a record whose operands are read from SP memory (R202); for a buffer list, with what
came of it; for a block, with a list that has its address and the whole blocks before it (R178). -/
def memoryErrorWf : SpReadError → Bool
  | .record => true
  | .operands r => r.length == 64 && (operandRead r).isSome
  | .list _ came => bufferListWf came
  | .block _ list i data => bufferListWf list && decide (8 * (i + 1) ≤ list.length) && data.length == i * Config.blockBytes

/-- A label has at most the 12 bytes of its field (R202). -/
def labelWf : Option (List Byte) → Bool
  | none => true
  | some l => decide (l.length ≤ 12)

/-- Whether a command is one the outside can send. -/
def wellFormed : Instr → Bool
  | .read via w o n l _ => viaWf via && blockWf w o n l
  | .write via w o n l _ => viaWf via && blockWf w o n l
  | .flush via w _ => viaWf via && fitsBytes 1 w
  | .sleep via _ => viaWf via
  | .resume via => viaWf via
  | .frameFetch via => viaWf via
  | .windowDefine via d => viaWf via && labelWf d.label
  | .windowDelete via _ => viaWf via
  | .replaceMember via _ _ _ _ => viaWf via
  | .windowInfo via _ => viaWf via
  | .bayInfo via _ => viaWf via
  | .baySpin via _ => viaWf via
  | .bayStop via _ => viaWf via
  | .bayClear via _ => viaWf via
  | .bayQuery via b _ => viaWf via && fitsBytes 1 b
  | .profileSet via _ => viaWf via
  | .budgetSet via _ _ => viaWf via
  | .patrolSet via _ => viaWf via
  | .wakeEntrySet via w => viaWf via && wakeWf w
  | .stationSet via _ => viaWf via
  | .alarmSet via _ => viaWf via
  | .alarmClear via _ _ => viaWf via
  | .timeSet via _ => viaWf via
  | .status via first => viaWf via && fitsBytes 2 first
  | .noticeClear via _ => viaWf via
  | .boxWake via => viaWf via
  | .forceDormant via => viaWf via
  | .configSave via => viaWf via
  | .configLoad via => viaWf via
  | .mpMode via _ => viaWf via
  | .restart via _ => viaWf via
  | .unknownKindRecord via code => viaWf via && (kindOfCode code).isNone
  | .badCheckFrame bytes => wholeFrame bytes && !frameAgrees bytes
  | .mpOverrun => true
  | .mpShortFrame => true
  | .mpRead _ => true
  | .mpHoldTimeout => true
  | .setupWordWrite _ v => fitsBytes 8 v
  | .ringStart v => fitsBytes 8 v
  | .submissionTailNotice v => fitsBytes 8 v
  | .completionHeadNotice v => fitsBytes 8 v
  | .interruptMask _ => true
  | .recordFetch r => recordWf r
  | .ppWriteDataDone _ r => bufferListWf r.list && writeDataWf r.data
  | .ppReadDeliveryDone _ list => bufferListWf list
  | .spMemoryError e => memoryErrorWf e
  | .sleepCompletionWritten => true
  | .frameTransferDone => true
  | .linkReset => true
  | .dpAttach => true
  | .dpDetach => true
  | .dpBadUnit len => len != 64
  | .dpDataUnit _ => true
  | .dpDiscardData _ => true
  | .dpReadDataSent => true
  | .dpCompletionSent => true
  | .slotGrant => true
  | .roomResume _ => true
  | .drainEnd => true
  | .windowCloseEnd _ => true
  | .startAdmission => true
  | .copyJobStart => true
  | .bayOpIssue _ => true
  | .driveAnswer _ a => driveDataWf a
  | .commandTimeout _ => true
  | .linkLoss _ => true
  | .linkLocked _ => true
  | .retrainAttemptEnd _ => true
  | .supplySettleEnd _ => true
  | .bringupTrainingTimeout _ => true
  | .driveReadyReport _ => true
  | .identifyAnswer _ a => identityWf a
  | .spinUpAnswer _ _ => true
  | .startTimeout _ => true
  | .goStandbyAnswer _ _ => true
  | .healthReadAnswer _ _ => true
  | .bayPresenceAssert _ => true
  | .bayPresenceRelease _ => true
  | .lowSupplyAssert => true
  | .lowSupplyRelease => true
  | .buttonPress => true
  | .buttonRelease => true
  | .buttonLongPress => true
  | .boxClockTick => true
  | .alarmExpiry => true
  | .idleStandbyExpiry _ => true
  | .idleOffExpiry _ => true
  | .tSpEnd => true
  | .graceEnd => true
  | .resumeLimitExpiry => true
  | .patrolDue _ => true
  | .frameArrival _ => true
  | .powerOnReset _ => true
  | .backupSupplyLoss => true
  | .imageJudged image => decide (image.length ≤ Config.eepromBytes)
  | .saveReadbackEnd image => decide (image.length ≤ Config.eepromBytes)
  | .porLineAsserted => true
  | .backupDomainSupplyReturn => true

end Sys2Proof
end

