-- ==== Sys2Proof/Tests/Slice0.lean ====
section
/-! SUPPORT. The model's own tests: what the checks of WellFormed refuse, small steps whose results the manual states, and for
every statement for the provers the states and operands that meet its hypotheses. -/

namespace Sys2Proof.Tests

open Sys2Proof Sys2Proof.Machine

set_option Elab.async false

/-! ## States the tests start from -/

/-- The state with nothing waiting and this part. -/
def stateOf (p : Part) : State := { pending := [], part := p }

/-- A READY bay with an identified drive. -/
def readyBay : Bay := {
  present := true, power := .ready, link := .locked, identity := some { capacity := 1000000, serial := [0x53] }
  inUse := some {} }

/-- A bay whose rail is off. -/
def offBay : Bay := { present := true, power := .off }

/-- A STANDBY bay. -/
def standbyBay : Bay := { readyBay with power := .standby }

/-- A STARTING bay admitted from OFF. -/
def startingBay : Bay := { present := true, power := .starting, startedFrom := some .off, startLeft := some 30, inUse := some {} }

/-- A WAITING bay. -/
def waitingBay (f : WaitFrom) : Bay := { readyBay with power := .waiting, waitingFrom := some f }

/-- A bay in FAULT. -/
def faultBay : Bay := { present := true, power := .fault, errorCount := 1, firstError := some { kind := .media } }

/-- A SINGLE window of 10,000 blocks on bay 0, read and written by both ports. -/
def singleWindow : Window := {
  st := .opened, layout := .single, members := [{ bay := 0, base := 0, serial := some [0x53] }], length := 10000
  ppRight := .readWrite, dpRight := .readWrite }

/-- A MIRROR window of 10,000 blocks on bays 1 and 2, with PATROL. -/
def mirrorWindow : Window := {
  st := .opened, layout := .mirror, members := [{ bay := 1, base := 0 }, { bay := 2, base := 500 }], length := 10000
  ppRight := .readWrite, dpRight := .readWrite, patrolAttr := true, patrol := some {}, interval := 60 }

/-- A STRIPE window of units of 16 blocks on bays 0 and 3. -/
def stripeWindow : Window := {
  st := .opened, layout := .stripe, members := [{ bay := 0, base := 20000 }, { bay := 3, base := 0 }], length := 3200
  unit := some 16, ppRight := .readWrite, dpRight := .read }

/-- A window that is CLOSING with nothing in flight. -/
def closingWindow : Window := { singleWindow with st := .closing, deleteFor := some (.pp 9 0 0) }

/-- The windows of the tests: 0 SINGLE, 1 MIRROR, 2 STRIPE, 3 CLOSING, the others FREE. -/
def testWindows : Vector Window 16 :=
  #v[singleWindow, mirrorWindow, stripeWindow, closingWindow, {}, {}, {}, {}, {}, {}, {}, {}, {}, {}, {}, {}]

/-- The four bays of the tests: READY but for bay 3, which is OFF. -/
def testBays : Vector Bay 4 := #v[readyBay, readyBay, readyBay, offBay]

/-- A processor port whose rings are set and whose host has given notice of one record. -/
def setPort : PpPort := {
  setup := .set, subBase := 0x1000, subSize := 8, compBase := 0x2000, compSize := 8, tail := 1 }

/-- The box in RUN, its SP powered, both data ports set. -/
def running : Part := {
  clock := { counter := 100, valid := true }, windows := testWindows, bays := testBays
  power := { spRail := true, spInUse := some {} }, box := { st := some .run }, pp := setPort
  dp := { attached := true }, loader := { configPresent := true } }

/-- A record of the processor port with an answer buffer of 256 bytes at 0x9000. -/
def viaPp : Via := .pp 7 0x9000 256

/-- The running part with one bay replaced. -/
def withBay (b : Fin 4) (x : Bay) : Part := { running with bays := testBays.set b x }

/-- The running part with one window replaced. -/
def withWindow (w : Fin 16) (v : Window) : Part := { running with windows := testWindows.set w v }

/-- The running part with its box record replaced. -/
def withBox (x : Box) : Part := { running with box := x }

/-- The running part with a request record. -/
def withRequest (r : Request) : Part := { running with router := {
  requests := [r], ppCount := 1, nextId := r.id + 1
  pool := (List.range 512).map fun k => if k ∈ r.slots then .request r.id else .free } }

/-- A bay operation of the first fragment of request 0. -/
def readOp : BayOp := { kind := .read, block := 5, count := 2, origin := .pp, parent := .request 0 0, slots := [0, 1] }

/-- A write of the same blocks. -/
def writeOp : BayOp := { readOp with kind := .write }

/-- Request 0: a READ of two blocks at offset 5 of window 0, at the bays. -/
def readRequest : Request := {
  id := 0, port := .pp, tag := 7, kind := .read, window := 0, offset := 5, count := 2, life := .atBays, slots := [0, 1]
  frags := [{ member := 0, bay := 0, block := 5, count := 2, first := 5, placed := true }], routed := true }


/-! ## What the checks of WellFormed refuse: one ill-formed term for each, beside one that passes -/

theorem test_wf_via : wellFormed (.resume (.pp 7 (2 ^ 64) 0)) = false ∧ wellFormed (.resume (.pp 7 0 65536)) = false
    ∧ wellFormed (.resume (.pp 7 (2 ^ 64 - 1) 65535)) = true := by decide

theorem test_wf_block : wellFormed (.read (.dp 1) 256 0 1 0 false) = false ∧ wellFormed (.write (.dp 1) 0 (2 ^ 64) 1 0 false) = false
    ∧ wellFormed (.read (.dp 1) 0 0 65536 0 false) = false ∧ wellFormed (.read (.dp 1) 0 0 1 (2 ^ 64) false) = false
    ∧ wellFormed (.flush (.dp 1) 256 false) = false ∧ wellFormed (.read (.dp 1) 255 (2 ^ 64 - 1) 65535 0 true) = true := by decide

theorem test_wf_bayQuery : wellFormed (.bayQuery (.mp 1) 256 true) = false ∧ wellFormed (.bayQuery (.mp 1) 4 true) = true := by
  decide

theorem test_wf_wakeEntry : wellFormed (.wakeEntrySet (.mp 1) { clear := true, body := some {} }) = false
    ∧ wellFormed (.wakeEntrySet (.mp 1) { clear := false }) = false
    ∧ wellFormed (.wakeEntrySet (.mp 1) { entry := 256, clear := true }) = false
    ∧ wellFormed (.wakeEntrySet (.mp 1) { body := some { terms := [{ value := 2 ^ 32 }] } }) = false
    ∧ wellFormed (.wakeEntrySet (.mp 1) { body := some { terms := [{ value := 2 ^ 32 - 1 }] } }) = true := by decide

theorem test_wf_label : wellFormed (.windowDefine (.mp 1) { label := some (List.replicate 13 0x41) }) = false
    ∧ wellFormed (.windowDefine (.mp 1) { label := some (List.replicate 12 0x41) }) = true := by decide

/-- A frame of fewer bytes than its length asks for, and one whose check byte agrees, are no frames with a bad check byte. -/
theorem test_wf_frame : wellFormed (.badCheckFrame [0x34, 1, 1, 0, 0xCA]) = false
    ∧ wellFormed (.badCheckFrame [0x34, 1, 0, 0, 0xCB]) = false
    ∧ wellFormed (.badCheckFrame [0x34, 1, 0, 0, 0xCA]) = true := by decide

/-- A record whose operands are longer than its own 24 bytes, and one whose operands are not. -/
theorem test_wf_memoryError :
    let record (n : Byte) : List Byte := [0x50, 0, 7, 0] ++ List.replicate 12 0 ++ [n] ++ List.replicate 47 0
    wellFormed (.spMemoryError (.operands (record 24))) = false ∧ wellFormed (.spMemoryError (.list 7 [1])) = false
    ∧ wellFormed (.spMemoryError (.operands (record 25))) = true
    ∧ wellFormed (.spMemoryError (.list 7 (List.replicate 2048 0))) = true
    ∧ wellFormed (.spMemoryError (.block 7 (List.replicate 8 0) 1 [])) = false
    ∧ wellFormed (.spMemoryError (.block 7 (List.replicate 8 0) 0 [])) = true := by decide +kernel

theorem test_wf_status : wellFormed (.status (.mp 1) 65536) = false ∧ wellFormed (.status (.mp 1) 65535) = true := by decide

theorem test_wf_unknown : wellFormed (.unknownKindRecord (.mp 1) 0x93) = false
    ∧ wellFormed (.unknownKindRecord (.mp 1) 0x94) = true := by decide +kernel

theorem test_wf_words : wellFormed (.setupWordWrite .submissionBase (2 ^ 64)) = false ∧ wellFormed (.ringStart (2 ^ 64)) = false
    ∧ wellFormed (.submissionTailNotice (2 ^ 64)) = false ∧ wellFormed (.completionHeadNotice (2 ^ 64)) = false
    ∧ wellFormed (.completionHeadNotice (2 ^ 64 - 1)) = true := by decide

theorem test_wf_record : wellFormed (.recordFetch (.record (List.replicate 63 0) .error)) = false
    ∧ wellFormed (.recordFetch (.record (List.replicate 64 0) (.bytes (List.replicate 1025 0)))) = false
    ∧ wellFormed (.recordFetch (.record (List.replicate 64 0) (.bytes (List.replicate 1024 0)))) = true := by decide +kernel

theorem test_wf_data : wellFormed (.ppWriteDataDone 7 { list := List.replicate 8 0, data := List.replicate 4095 0 }) = false
    ∧ wellFormed (.ppWriteDataDone 7 { list := List.replicate 7 0, data := List.replicate 4096 0 }) = false
    ∧ wellFormed (.ppReadDeliveryDone 7 (List.replicate 2056 0)) = false
    ∧ wellFormed (.ppReadDeliveryDone 7 (List.replicate 2048 0)) = true
    ∧ wellFormed (.driveAnswer 0 (.done (List.replicate 4097 0))) = false
    ∧ wellFormed (.driveAnswer 0 (.done (List.replicate 4096 0))) = true := by decide +kernel

theorem test_wf_others : wellFormed (.dpBadUnit 64) = false
    ∧ wellFormed (.identifyAnswer 0 (.done 8 (List.replicate 21 0x41))) = false
    ∧ wellFormed (.identifyAnswer 0 (.done 8 [0x41, 0])) = false
    ∧ wellFormed (.identifyAnswer 0 (.done 8 (List.replicate 20 0x41))) = true := by decide

theorem test_wf_image : wellFormed (.imageJudged (List.replicate 32769 0)) = false
    ∧ wellFormed (.saveReadbackEnd (List.replicate 32769 0)) = false
    ∧ wellFormed (.imageJudged (List.replicate 32768 0)) = true := by decide +kernel

/-- No row of the table has bits, so no word spells a command (spec/opcode_table.json). -/
theorem test_decode_none : decodeTableWord 64 1 = none ∧ State.reset.withFetchWord 64 1 = State.reset := ⟨rfl, rfl⟩

/-! ## More states -/

/-- The part as `running`, with no window being closed: no consequence is due. -/
def calm : Part := { running with windows := testWindows.set 3 {} }

/-- The state with one command waiting. -/
def waiting (c : Instr) (p : Part) : State := { pending := [c], part := p }

/-- A log entry of window 1. -/
def entryOf (g : Nat) (good : Side) : LogEntry := { window := 1, region := g, good := good }

/-- The running part with its copy engine replaced. -/
def withEngine (e : Engine) : Part := { running with engine := e }

/-- The running part with window 1 and its two bays replaced. -/
def mirrorOf (w : Window) (b1 b2 : Bay) : Part := {
  running with windows := testWindows.set 1 w, bays := (testBays.set 1 b1).set 2 b2 }

/-- The running part with its management port executing a command. -/
def executing : Part := { running with mp := { st := .executing, execKind := some .status, execSeq := 9 } }

/-- The running part with its box clock replaced. -/
def withClock (c : Clock) : Part := { running with clock := c }

/-- A request on window 1 that stands in ROUTING. -/
def mirrorRequest (k : ReqKind) (o n : Nat) : Request := {
  readRequest with kind := k, window := 1, offset := o, count := n, life := .routing, routed := false
                   frags := [{ member := 0, bay := 1, block := 5, count := 2, first := 5, placed := true }] }

/-- A WRITE of the direct port whose data is awaited. -/
def dpWrite : Request := {
  readRequest with id := 3, kind := .write, port := .dp, life := .dataIn, slots := [5, 6], frags := [] }

/-- The part with the processor port's rings not set. -/
def unsetPort : Part := { running with pp := { subBase := 64, subSize := 2, compBase := 16, compSize := 1024 } }

/-- The part right after reset, its POR line held. -/
def heldPart : Part := { held := true, statusCode := 0 }

/-! ## What the statements ask of a state and its operands is met

Each theorem shows a state and operands that meet the hypotheses of the statement it names, clause by clause. -/

/-- Where no further consequence is due, `Gives` and `GivesQuietly` state the whole next state. -/
theorem test_calm_settled : calm.settled = true ∧ calm.mayPost = false := by decide +kernel

theorem test_witness_StepRunsFrontCommand : State.reset.pending = [] := rfl

/-- The premises of the statements about a step: a state with a command waiting that meets each invariant. -/
theorem test_witness_invariants :
    (calm.PoolInv ∧ calm.AlarmInv ∧ calm.LogInv ∧ calm.QueueInv ∧ calm.StartInv)
    ∧ (∃ t, step (waiting .buttonPress calm) = .next t)
    ∧ Part.ReadOnlyInv { calm with loader := { mode := .readOnly } }
    ∧ Part.readOnly { calm with loader := { mode := .readOnly } } = true
    ∧ Part.AlarmInv (withClock { counter := 100, valid := true, alarms := [⟨1, 101, 0, []⟩, ⟨2, 101, 7, [3]⟩] })
    ∧ Part.LogInv (withEngine { log := (List.range 64).map fun g => entryOf g .primary, above := true })
    ∧ Part.QueueInv (withBay 0 { readyBay with queue := List.replicate 32 readOp })
    ∧ Part.StartInv { withBay 3 (waitingBay .off) with
        box := { st := some .waking }, power := { startQueue := [.sp, .bay 3] } } := by
  refine ⟨?_, ⟨_, rfl⟩, ?_⟩ <;>
    (try unfold Part.ReadOnlyInv) <;> (try unfold Part.PoolInv) <;> (try unfold Part.AlarmInv) <;> (try unfold Part.LogInv) <;>
    (try unfold Part.QueueInv) <;> (try unfold Part.StartInv) <;> decide +kernel

theorem test_witness_WorstIsMostSevere : ∀ r ∈ [Status.ok, .media, .bayAbsent], r ∈ resultOrder := by decide

theorem test_witness_FragmentsCoverRequest :
    singleWindow.layout ≠ .mirror ∧ (stripeWindow.layout = .stripe ∧ 0 < stripeWindow.unit.getD 1 ∧ stripeWindow.members ≠ [])
    ∧ (1 ≤ 1 ∧ 1 ≤ 256) ∧ (1 ≤ 256 ∧ 256 ≤ 256) := by decide

theorem test_witness_ReverseMapUndoesTranslation :
    (3199 < stripeWindow.length ∧ 0 < stripeWindow.unit.getD 1 ∧ stripeWindow.members ≠ []
      ∧ stripeWindow.unit.getD 1 * stripeWindow.members.length ∣ stripeWindow.length ∧ (blockOf stripeWindow 3199).1 = 1)
    ∧ (9999 < mirrorWindow.length ∧ mirrorWindow.layout = .mirror ∧ 1 < 2)
    ∧ (0 < singleWindow.length ∧ singleWindow.layout = .single ∧ (blockOf singleWindow 0).1 = 0) := by decide

/-- A READ of one block and a WRITE of 256 that ends at the window's end, through each data port, and a FLUSH. -/
theorem test_witness_RequestAccepted :
    (∃ a, requestOf (.read viaPp 0 0 1 0x5000 false) = some (viaPp, a) ∧ Taken viaPp (requestKind a.kind) running
      ∧ a.kind = .read ∧ running.box.st ≠ some .waking ∧ 1 ≤ a.count ∧ a.offset + a.count ≤ (running.window 0).length)
    ∧ (∃ a, requestOf (.write (.dp 3) 0 9744 256 0 false) = some (.dp 3, a) ∧ Taken (.dp 3) (requestKind a.kind) running
      ∧ a.kind = .write ∧ a.count ≤ 256 ∧ a.offset + a.count ≤ (running.window 0).length
      ∧ running.loader.mode ≠ .readOnly)
    ∧ (∃ a, requestOf (.flush viaPp 1 true) = some (viaPp, a) ∧ Taken viaPp (requestKind a.kind) running ∧ a.kind = .flush)
    ∧ (∀ w : Fin 16, w.val < 2 → (running.window w).st = .opened ∧ (running.window w).right .pp = .readWrite
      ∧ (running.window w).right .dp = .readWrite) ∧ running.router.requests = [] := by
  refine ⟨⟨_, rfl, ?_⟩, ⟨_, rfl, ?_⟩, ⟨_, rfl, ?_⟩, ?_, ?_⟩ <;> (try unfold Taken) <;> decide +kernel

/-- The first of R28's checks that fails, read as RequestRefused reads it. -/
def refusalOf (p : Part) (a : Ask) : Option Status :=
  let v : Window := if h : a.window < 16 then p.window ⟨a.window, h⟩ else {}
  firstRefusal
    [(decide (a.kind = .flush ∨ (1 ≤ a.count ∧ a.count ≤ 256)), .badRequest),
     (decide (∀ r ∈ p.router.requests, ¬(r.port = a.port ∧ r.tag = a.tag)), .tagInUse),
     (decide (a.window < 16 ∧ v.st = .opened), .noWindow),
     (decide (v.right a.port = .readWrite ∨ (v.right a.port = .read ∧ a.kind ≠ .write)), .denied),
     (decide (a.kind = .flush ∨ a.offset + a.count ≤ v.length), .range),
     (decide (a.kind = .write → p.loader.mode ≠ .readOnly), .readOnly)]

/-- Each of the six checks fails first for some request that its port takes: counts 0 and 257, a tag in use, a window above 15
and a FREE one, a WRITE where the right is READ, an extent one block too long, a WRITE in READ_ONLY mode. -/
theorem test_witness_RequestRefused :
    let of (c : Instr) (p : Part) : Option Status := (requestOf c).bind fun x => refusalOf p x.2
    let fixed : Part := { running with loader := { mode := .readOnly } }
    (Taken viaPp .read running ∧ Taken (.dp 3) .write running ∧ Taken viaPp .read (withRequest readRequest)
      ∧ Taken (.dp 3) .write fixed ∧ running.box.st ≠ some .waking)
    ∧ of (.read viaPp 0 0 0 0 false) running = some .badRequest
    ∧ of (.write (.dp 3) 0 0 257 0 false) running = some .badRequest
    ∧ of (.read viaPp 0 0 1 0 false) (withRequest readRequest) = some .tagInUse
    ∧ of (.read viaPp 16 0 1 0 false) running = some .noWindow ∧ of (.read viaPp 4 0 1 0 false) running = some .noWindow
    ∧ of (.write (.dp 3) 2 0 1 0 false) running = some .denied
    ∧ of (.read viaPp 0 9745 256 0 false) running = some .range ∧ of (.read viaPp 0 9744 256 0 false) running = none
    ∧ of (.write (.dp 3) 0 0 256 0 false) fixed = some .readOnly := by
  unfold Taken; decide +kernel

/-- A request and the copy engine at the head of the slot-wait list, with exactly as many free slots as the head needs and with
too few; the head of a room-wait list with the queue at 31. -/
theorem test_witness_SlotGrantAndRoomResume :
    (let p : Part := { withRequest { readRequest with life := .slotWait, slots := [], count := 256 } with
        router := { (withRequest { readRequest with life := .slotWait, slots := [], count := 256 }).router with
          slotWait := [{ who := .request 0, need := 256 }]
          pool := List.replicate 256 .engine ++ List.replicate 256 .free } }
     p.held = false ∧ p.request? 0 ≠ none ∧ p.freeSlots = 256)
    ∧ (let c : Chunk := { kind := .patrol, window := 1, source := .primary, dest := .secondary, offset := 0, count := 64 }
       let p : Part := { withEngine { chunk := some c } with
         router := { slotWait := [{ who := .engine, need := 64 }] } }
       p.engine.chunk = some c ∧ 64 ≤ p.freeSlots)
    ∧ Part.freeSlots { running with router := { pool := List.replicate 512 .engine, slotWait := [{ who := .engine, need := 64 }] } } < 64
    ∧ (let r : Request := { readRequest with life := .routing, pausedAt := some 0, frags := [{ member := 0, bay := 0, block := 5, count := 2, first := 5 }] }
       let x : Bay := { readyBay with queue := List.replicate 31 readOp, roomWait := [.request 0] }
       let p : Part := { withRequest r with bays := testBays.set 0 x }
       (p.bay 0).roomWait = .request r.id :: [] ∧ (p.bay 0).queue.length < 32 ∧ p.request? r.id = some r
         ∧ ((p.window r.window).member 0).isForeign = false ∧ (p.bay 0).power ≠ .absent ∧ (p.bay 0).power ≠ .fault)
    ∧ (running.window 0).layout ≠ .mirror ∧ (running.window 1).layout = .mirror
    ∧ (let f : Fragment := { member := 0, bay := 0, block := 5, count := 2, first := 5 }
       let r : Request := { readRequest with life := .routing, frags := [{ f with placed := true }, { f with first := 7 }] }
       (withRequest r).request? r.id = some r ∧ r.frags = [{ f with placed := true }] ++ { f with first := 7 } :: []
         ∧ r.routed = true ∧ r.pausedAt = none ∧ (∃ y ∈ r.frags, y.placed = false ∧ y.result = none)
         ∧ (∀ y ∈ readRequest.frags, y.placed = true ∨ y.result.isSome = true))
    ∧ (let r : Request := { mirrorRequest .flush 0 0 with routed := true, frags := [] }
       r.routed = true ∧ r.pausedAt = none ∧ r.life = .routing)
    ∧ (let x (n : Nat) (l : List Waiter) : Bay := { readyBay with queue := List.replicate n readOp, roomWait := l }
       (x 31 []).queue.length < 32 ∧ (x 31 [.request 0]).roomWait = .request 0 :: [] ∧ ¬(x 32 []).queue.length < 32
         ∧ .request 0 ∈ (x 32 [.request 0]).roomWait ∧ .request 0 ∉ (x 31 [.engine]).roomWait
         ∧ (withBay 0 { offBay with power := .absent }).bay 0 = { offBay with power := .absent }
         ∧ ((withBay 0 faultBay).bay 0).power = .fault) := by
  decide +kernel

/-- The last byte of two slots that are not neighbours. -/
theorem test_witness_StreamWritesItsSlots :
    memWf [(0, 1), (4097, 3)] ∧ [2, 0].Nodup ∧ 8190 + [1, 2].length ≤ 4096 * [2, 0].length
    ∧ [(1 : Byte), 2][1]? = some 2 ∧ [2, 0][(8190 + 1) / 4096]? = some 0 := by decide

theorem test_witness_PpDataMoved :
    (let r : Request := { readRequest with kind := .write, life := .dataIn }
     (withRequest r).ppRequest 7 .write .dataIn = some r ∧ 1 < r.count ∧ r.count ≤ 2)
    ∧ (let r : Request := { readRequest with life := .dataOut }
       (withRequest r).ppRequest 7 .read .dataOut = some r ∧ (withRequest r).ppRequest 7 .write .dataIn = none) := by
  decide +kernel

/-! ### Mirrored windows -/

/-- The cases of a READ's copy and of a fragment's result. -/
theorem test_witness_MirrorReadCopyAndRetry :
    (running.window 1).layout = .mirror
    ∧ (mirrorOf { mirrorWindow with lost := some .primary } readyBay readyBay |>.window 1).lost = some .primary
    ∧ (let p := { mirrorOf mirrorWindow readyBay readyBay with engine := { log := [entryOf 0 .primary] } }
       p.usable 1 .primary = true ∧ 0 ∈ touched 0 1)
    ∧ (let p := { mirrorOf mirrorWindow faultBay readyBay with engine := { log := [entryOf 0 .primary] } }
       p.usable 1 .primary = false)
    ∧ (0 ∈ touched 4095 2 ∧ 1 ∈ touched 4095 2 ∧ (entryOf 0 .primary).good ≠ (entryOf 1 .secondary).good)
    ∧ ((mirrorOf mirrorWindow faultBay readyBay).usable 1 .primary = false
      ∧ (mirrorOf mirrorWindow faultBay readyBay).usable 1 .secondary = true)
    ∧ ((mirrorOf mirrorWindow faultBay faultBay).usable 1 .primary = false
      ∧ (mirrorOf mirrorWindow faultBay faultBay).usable 1 .secondary = false)
    ∧ (running.usable 1 .primary = true ∧ running.usable 1 .secondary = true ∧ running.engine.repairs = [])
    ∧ (3 < 5 + 2 ∧ 5 < 3 + 3)
    ∧ ((mirrorOf mirrorWindow readyBay readyBay).bay 1).power = .ready
    ∧ ((mirrorOf mirrorWindow offBay standbyBay).bay 2).power ≠ .ready
    ∧ (let r := { mirrorRequest .read 5 2 with life := .atBays }
       (withRequest r).request? r.id = some r ∧ (r.frags[0]?).isSome = true ∧ r.kind = .read)
    ∧ (let p := mirrorOf { mirrorWindow with lost := some .secondary, cursor := some 0 } readyBay readyBay
       (p.window 1).cursor.isSome = true ∧ (p.window 1).lost = some (sideOf 1)) := by
  decide +kernel

/-- The cases of a WRITE's copies, of a FLUSH's, and of the gathering of a WRITE's results. -/
theorem test_witness_MirrorWriteCopiesAndPair :
    (running.window (mirrorRequest .write 5 2).window).layout = .mirror ∧ (mirrorRequest .write 5 2).kind = .write
    ∧ (running.window 1).lost = none ∧ (running.window 1).cursor = none ∧ running.engine.chunk = none
    ∧ running.engine.log = [] ∧ running.usable 1 .primary = true ∧ running.usable 1 .secondary = true
    ∧ running.copyReady 1 .secondary = true
    ∧ (let p := mirrorOf { mirrorWindow with lazyAttr := true } readyBay standbyBay
       p.copyReady 1 .secondary = false ∧ p.usable 1 .secondary = true
         ∧ (p.tryLog 1 (touched 5 2) .primary).isSome = true)
    ∧ (let p := { mirrorOf { mirrorWindow with lazyAttr := true } readyBay standbyBay with
          engine := { log := (List.range 64).map fun g => { window := 5, region := g, good := .primary }, above := true } }
       p.copyReady 1 .secondary = false ∧ p.tryLog 1 (touched 5 2) .primary = none)
    ∧ (let p := mirrorOf { mirrorWindow with lost := some .secondary, cursor := some 0 } readyBay readyBay
       (p.window 1).lost = some .secondary ∧ (p.window 1).cursor = some 0 ∧ (∀ y ∈ touched 4096 1, 0 < y)
         ∧ ∃ y ∈ touched 4095 2, y ≤ 0)
    ∧ (let p := mirrorOf mirrorWindow faultBay readyBay
       p.usable 1 .secondary = true ∧ p.usable 1 .primary = false)
    ∧ (let p := { running with engine := { log := [entryOf 0 .secondary] } }
       (∃ e ∈ p.engine.log, e.window = 1 ∧ e.region ∈ touched 4095 2 ∧ e.good = .secondary)
         ∧ (p.tryLog 1 (touched 4095 2) .secondary).isSome = true)
    ∧ (let p := withEngine { log := (List.range 64).map fun g => entryOf g .primary, above := true }
       p.tryLog 1 (touched 262143 2) .primary = none ∧ 63 ∈ touched 262143 2)
    ∧ (∀ g ∈ [(0 : Nat), 1], g ∈ touched 4095 2)
    ∧ ((withEngine { log := [entryOf 0 .primary] }).engine.log.filter (fun e => e.window == 1 && !e.unreadable)) ≠ []
    ∧ (let r := { mirrorRequest .flush 0 0 with
         life := .atBays, routed := true, mirrorBoth := true, second := [.secondary]
         frags := [{ bay := 1, result := some .ok }] }
       (∀ f ∈ r.frags, f.result.isSome = true) ∧ r.waits = [] ∧ r.second ≠ [])
    ∧ (let r := { mirrorRequest .write 5 2 with
         gather := .survivor .primary, frags := [{ member := 0, result := some .ok }, { member := 1, result := some .timeout }] }
       Part.copyResult r .primary = some .ok ∧ Part.copyResult r .secondary = some .timeout) := by
  decide +kernel

/-- Room for exactly the entries needed, for one too few, and a window with a lost member; a log below the high mark, at it and
risen to it; a repair that an entry holds, one that its neighbour takes, and a queue with room for one more and with none. -/
theorem test_witness_LoggingRegions :
    64 - ((List.range 63).map fun g => entryOf g .primary).length < [63, 64].length
    ∧ [63].length ≤ 64 - ((List.range 63).map fun g => entryOf g .primary).length
    ∧ { mirrorWindow with lost := some .primary }.lost.isSome = true
    ∧ (let l (n : Nat) := (List.range n).map fun g => entryOf g .primary
       (l 47).length < 48 ∧ 48 ≤ (withEngine { log := l 48, above := true }).engine.log.length
         ∧ (withEngine { log := l 48 }).engine.above = false ∧ (withEngine { log := l 48 }).loader.mode ≠ .readOnly
         ∧ ((withEngine { log := l 48 }).engine.log.find? fun e => !e.unreadable && (running.window e.window).st != .free)
           = some (entryOf 0 .primary)
         ∧ (running.window 1).lost = none
         ∧ (let c : Chunk := { kind := .patrol, window := 1, source := .primary, dest := .secondary, offset := 0, count := 64 }
            c.phase = .slotWait ∧ c.abandoned = false ∧ { c with phase := .reading }.phase ≠ .slotWait)
         ∧ (48 ≤ ((withEngine { log := l 48, above := true }).engine.log.filter fun e => e.window != 1).length →
           (withEngine { log := l 48, above := true }).engine.above = true))
    ∧ (let e : RepairEntry := { window := 1, copy := .primary, offset := 10, count := 4, next := 10 }
       (10 ≤ 10 ∧ 10 + 4 ≤ e.offset + e.count ∧ e.next ≤ 10)
         ∧ ¬10 + 5 ≤ e.offset + e.count ∧ 14 ≤ e.offset + e.count ∧ max (14 + 252) (e.offset + e.count) - min 14 e.offset = 256
         ∧ (withEngine { repairs := [e] }).engine.repairs = [] ++ e :: [] ∧ e.busy = false
         ∧ (withEngine { repairs := List.replicate 7 { e with window := 2 } }).engine.repairs.length < 8
         ∧ 8 ≤ (withEngine { repairs := List.replicate 8 { e with window := 2 } }).engine.repairs.length
         ∧ Part.tryRepair 1 .primary 3 1 (withEngine { repairs := List.replicate 8 { e with window := 2 } }) = none) := by
  decide +kernel

/-- The operation of a chunk on a copy. -/
def chunkOp (k : ReqKind) (x : Side) : BayOp := { kind := k, block := 5, count := 64, origin := .resync, parent := .chunk x }

/-- A chunk of window 1. -/
def chunkOf (k : ChunkKind) (o : Nat) : Chunk := {
  kind := k, window := 1, source := .primary, dest := .secondary, offset := o, count := 64, phase := .reading
  slots := List.range 64 }

/-- A job at each place of the order, and none; a chunk of each kind with what its results look at: the last chunk of the
window and one before it, entries and repairs in progress; a chunk on a bay and one that is not. -/
theorem test_witness_CopyJobOrder :
    (let p := withEngine { repairs := [{ window := 1, copy := .primary, offset := 3, count := 4, next := 3 }] }
     p.repairJob.isSome = true ∧ p.engine.chunk = none ∧ p.box.st ≠ some .dormant ∧ p.loader.mode ≠ .readOnly)
    ∧ (let p := withEngine { log := [entryOf 0 .primary] }
       p.repairJob = none ∧ p.resyncJob.isSome = true)
    ∧ (let p := withWindow 1 { mirrorWindow with lost := some .secondary, cursor := some 0 }
       p.repairJob = none ∧ p.resyncJob = none ∧ p.engine.above = false ∧ p.rebuildJob.isSome = true)
    ∧ (let p : Part := { withEngine { log := (List.range 48).map fun g => entryOf g .primary, above := true } with
         bays := testBays.set 2 standbyBay }
       p.repairJob = none ∧ p.resyncJob = none ∧ p.engine.above = true ∧ p.loader.mode ≠ .readOnly)
    ∧ (let e : RepairEntry := { window := 1, copy := .primary, offset := 4094, count := 4, next := 4094 }
       let p := withEngine { repairs := [{ e with window := 4 }, e], log := [entryOf 1 .primary] }
       p.engine.repairs = [{ e with window := 4 }] ++ e :: [] ∧ (p.window 4).st = .free ∧ (p.window 1).st ≠ .free
         ∧ (∀ x ∈ [Side.primary, .secondary],
           (p.bay ((p.window 1).copy x).bay).power = .ready ∧ ((p.window 1).copy x).isForeign = false)
         ∧ touched e.offset e.count = [0, 1] ∧ (p.engine.log.any fun e => e.window == 1 && e.region == 1) = true
         ∧ (p.engine.log.any fun e => e.window == 1 && e.region == 0) = false)
    ∧ (let p : Part := { withWindow 1 { mirrorWindow with due := true, patrol := some { region := 1, chunk := 3 } } with
         engine := { log := [entryOf 1 .primary, entryOf 2 .primary] } }
       (p.window 1).due = true ∧ (p.window 1).lost = none ∧ (p.window 1).interval ≠ 0
         ∧ (p.window 1).patrol = some { region := 1, chunk := 3 } ∧ (mirrorWindow.length - 1) / 4096 = 2
         ∧ (∀ j < 3, 1 ≤ j → (p.engine.log.any fun e => e.window == 1 && e.region == j) = true)
         ∧ (p.engine.log.any fun e => e.window == 1 && e.region == 3) = false)
    ∧ (running.repairJob = none ∧ running.resyncJob = none ∧ running.rebuildJob = none)
    ∧ (let c := chunkOf .resync 9984
       (withEngine { chunk := some c }).engine.chunk = some c ∧ (chunkOp .write .secondary).parent = .chunk .secondary
         ∧ c.abandoned = false ∧ c.again = false ∧ mirrorWindow.length ≤ 2 * 4096 + (9984 % 4096 / 64 + 1) * 64
         ∧ ¬mirrorWindow.length ≤ 2 * 4096 + (9920 % 4096 / 64 + 1) * 64)
    ∧ (let p := withEngine { chunk := some (chunkOf .resync 0), log := [{ entryOf 0 .primary with copying := true }] }
       p.logEntry? 1 0 = some { entryOf 0 .primary with copying := true } ∧ p.logEntry? 1 1 = none
         ∧ (48 ≤ (p.engine.log.filter fun y => !(y.window == 1 && y.region == 0)).length → p.engine.above = true))
    ∧ (let e : RepairEntry := { window := 1, copy := .secondary, offset := 3, count := 4, next := 3, busy := true }
       let p := withEngine { chunk := some (chunkOf .repair 3), repairs := [e] }
       (p.engine.repairs.find? fun e => e.busy) = some e)
    ∧ ((chunkOf .rebuild 4032).offset % 4096 / 64 + 1 = 64 ∧ (chunkOf .rebuild 4032).offset / 4096 < (mirrorWindow.length - 1) / 4096
         ∧ (chunkOf .rebuild 9984).offset / 4096 = (mirrorWindow.length - 1) / 4096)
    ∧ (let p := withEngine { chunk := some (chunkOf .rebuild 0) }
       (p.window 1).onBay 1 = true ∧ (p.window 1).onBay 0 = false ∧ (chunkOf .rebuild 0).abandoned = false) := by
  decide +kernel

/-- An order of DORMANT at the bays of a rebuild in progress stops neither the chunk nor the rebuild. -/
theorem test_dormant_order_keeps_chunk :
    let p : Part := { withWindow 1 { mirrorWindow with lost := some .secondary, cursor := some 0, rebuildChunk := 5 } with
      engine := { chunk := some (chunkOf .rebuild 320) } }
    ((p.orderBay 1).bay 1).power = .stopping ∧ (p.orderBay 1).engine.chunk = some (chunkOf .rebuild 320)
      ∧ ((p.orderBay 1).window 1).rebuildChunk = 5 := by
  decide +kernel

/-! ### Windows -/

/-- A WINDOW_DEFINE that every check passes, for the highest index, and one that each check fails. -/
theorem test_witness_WindowDefined :
    let d : WindowDef := {
      index := 15, layout := some .single, members := [(1, 200000)], length := 800000, ppRight := some .readWrite
      dpRight := some .read }
    Taken viaPp .windowDefine running ∧ (running.window 15).st = .free ∧ wellFormedDef d = true
    ∧ (windowOfDef d).members = [{ bay := 1, base := 200000 }]
    ∧ (running.bay 1).identity.map Identity.capacity = some 1000000
    ∧ noOverlap (windowOfDef d) ((allWindows.filter (· ≠ 15)).map running.window) = true
    ∧ wholeAlone (windowOfDef d) ((allWindows.filter (· ≠ 15)).map running.window) = true
    ∧ stripeLength (windowOfDef d) = true
    ∧ (running.window 0).st ≠ .free ∧ wellFormedDef { d with length := 0 } = false ∧ (running.bay 3).identity = none
    ∧ ¬200000 + { windowOfDef d with length := 800001 }.extentLen ≤ 1000000
    ∧ noOverlap (windowOfDef { d with members := [(1, 9999)] }) ((allWindows.filter (· ≠ 15)).map running.window) = false
    ∧ wholeAlone (windowOfDef { d with layout := some .whole, members := [(0, 0)] })
        ((allWindows.filter (· ≠ 15)).map running.window) = false
    ∧ stripeLength { stripeWindow with length := 3201 } = false := by
  unfold Taken; decide +kernel

/-- A delete of a window in each state, and a CLOSING window whose work is over. -/
theorem test_witness_WindowDeletedAndFreed :
    Taken viaPp .windowDelete running ∧ (running.window 4).st = .free ∧ (running.window 3).st = .closing
    ∧ (running.window 0).st = .opened ∧ (running.window 0).cursor = none ∧ running.engine.log = []
    ∧ (∃ e ∈ (withEngine { log := [entryOf 0 .primary] }).engine.log, e.window = 1)
    ∧ (running.window 3).inFlight = 0 ∧ running.engine.chunk = none
    ∧ (48 ≤ (running.engine.log.filter fun e => e.window != 3).length → running.engine.above = true) := by
  unfold Taken; decide +kernel

/-- A replacement that every check passes, and a state for each refusal. -/
theorem test_witness_MemberReplaced :
    let p := withWindow 1 { mirrorWindow with lost := some .secondary }
    Taken viaPp .replaceMember p ∧ (p.window 1).st = .opened ∧ (p.window 1).layout = .mirror
    ∧ (p.window 1).lost = some .secondary ∧ (p.window 1).cursor = none ∧ ((p.window 1).copy .primary).bay ≠ 2
    ∧ (p.bay 2).identity.map Identity.capacity = some 1000000 ∧ 990000 + (p.window 1).length ≤ 1000000
    ∧ 1000000 < 990001 + (p.window 1).length
    ∧ (∀ u : Fin 16, u ≠ 1 → (p.window u).st ≠ .free → ∀ m ∈ (p.window u).members, m.bay ≠ 2)
    ∧ (p.window 4).st = .free ∧ (p.window 3).st = .closing ∧ (p.window 0).layout ≠ .mirror
    ∧ (p.bay 3).identity = none ∧ (∃ m ∈ (p.window 0).members, m.bay = 0)
    ∧ Taken viaPp .replaceMember { p with loader := { mode := .readOnly } } := by
  unfold Taken; decide +kernel

theorem test_witness_ReportsChangeNothing :
    Taken viaPp .windowInfo running ∧ Taken (.dp 3) .windowInfo running ∧ Taken (.mp 5) .windowInfo running
    ∧ Taken viaPp .bayInfo running ∧ Taken (.mp 5) .bayInfo running ∧ Taken viaPp .status running
    ∧ Taken (.mp 5) .status running := by
  unfold Taken; decide +kernel

/-! ### Drive bays -/

/-- A bay in each of the eight power states, the service hold set and clear. -/
theorem test_witness_StartRequested :
    (running.bay 0).serviceHold = false ∧ { offBay with serviceHold := true }.serviceHold = true
    ∧ offBay.power = .off ∧ standbyBay.power = .standby ∧ { readyBay with power := .stopping }.power = .stopping
    ∧ (waitingBay .off).power ∈ [Power.waiting, .starting, .ready, .absent, .fault] := by decide +kernel

theorem test_witness_BayClearSpinStop :
    Taken (.mp 5) .bayClear running ∧ Taken viaPp .bayClear running ∧ Taken viaPp .baySpin running
    ∧ Taken (.mp 5) .baySpin running ∧ Taken viaPp .bayStop running ∧ Taken (.mp 5) .bayStop running
    ∧ ((withBay 0 { offBay with serviceHold := true }).bay 0).serviceHold = true
    ∧ ((withBay 0 {}).bay 0).power = .absent ∧ ((withBay 0 faultBay).bay 0).power = .fault
    ∧ (running.bay 0).quiet = true ∧ (running.bay 0).link = .locked
    ∧ { readyBay with link := .training }.quiet = true
    ∧ (readyBay.power = .ready ∧ { readyBay with queue := [readOp] }.quiet = false) := by
  unfold Taken; decide +kernel

theorem test_witness_BayQueriedForHealth :
    Taken (.mp 5) .bayQuery running ∧ (running.bay 0).power = .ready ∧ (running.bay 3).power = .off
    ∧ (running.bay 3).serviceHold = false
    ∧ (let x := (withBay 0 { readyBay with inFlight := .healthRead, queryHeld := true }).bay 0
       x.power = .ready ∧ x.link = .locked ∧ x.inFlight = .healthRead ∧ x.queryHeld = true) := by
  unfold Taken; decide +kernel

/-- A head that exactly fits the headroom, one that does not by 1 W, and the SP's entry. -/
theorem test_witness_StartAdmitted :
    (let p : Part := { withBay 3 (waitingBay .off) with power := { spRail := true, spInUse := some {}, startQueue := [.bay 3] } }
     let fits (b : Nat) : Prop :=
       let q : Part := { p with power := { p.power with budget := b } }
       q.committedDraw ≤ q.bEff ∧ q.startDelta (.bay 3) ≤ (q.bEff : Int) - q.committedDraw
     (p.bay 3).power = .waiting ∧ fits (p.committedDraw + 240) ∧ ¬fits (p.committedDraw + 239))
    ∧ (let p : Part := { withBox { st := some .waking } with power := { startQueue := [.sp], budget := 1000 } }
       p.committedDraw ≤ p.bEff ∧ p.startDelta .sp ≤ (p.bEff : Int) - p.committedDraw) := by
  decide +kernel

theorem test_witness_AdmissionTest :
    (let p : Part := { withBay 3 (waitingBay .standby) with
        power := { spRail := true, spInUse := some {}, startQueue := [.bay 3], budget := 4000 } }
     p.admits = true ∧ (p.bay 3).power = .waiting ∧ (p.bay 3).waitingFrom = some .standby ∧ (p.bay 3).inUse.isSome = true)
    ∧ (let p : Part := { withBay 3 (waitingBay .off) with power := { spRail := true, spInUse := some {}, startQueue := [.bay 3], budget := 100 } }
       p.admits = false ∧ p.held = false ∧ (p.bay 3).waitingFrom = some .off)
    ∧ (let p : Part := { withBox { st := some .waking } with power := { startQueue := [.sp], budget := 1000 } }
       p.admits = true ∧ p.power.spRail = false) := by
  decide +kernel

theorem test_witness_BayIssuesNext :
    (let x := (withBay 0 { readyBay with queue := [readOp, writeOp] }).bay 0
     x.power = .ready ∧ x.link = .locked ∧ x.inFlight = .nothing ∧ x.healthPending = false ∧ x.queue = readOp :: [writeOp])
    ∧ (let p : Part := { withBay 0 { readyBay with queue := [writeOp] } with loader := { mode := .readOnly } }
       p.loader.mode = .readOnly ∧ writeOp.kind = .write ∧ (p.bay 0).inFlight = .nothing)
    ∧ { readyBay with healthPending := true }.healthPending = true ∧ readyBay.queue = [] := by
  decide +kernel

theorem test_witness_DriveAnswered :
    (let x := (withBay 0 { readyBay with inFlight := .op readOp }).bay 0
     x.power = .ready ∧ x.link = .locked ∧ x.inFlight = .op readOp ∧ readOp.kind ≠ .flush ∧ readOp.reissue = false)
    ∧ { readOp with kind := .flush }.kind = .flush ∧ { readOp with reissue := true }.reissue = true := by
  decide +kernel

theorem test_witness_RequestEndsWithItsResults :
    (let p := withRequest readRequest
     readOp.parent = .request readRequest.id 0 ∧ p.request? readRequest.id = some readRequest
       ∧ (readRequest.frags[0]?).isSome = true ∧ (p.window readRequest.window).layout ≠ .mirror
       ∧ p.pp.setup ≠ .unset ∧ p.dp.attached = true)
    ∧ (let r : Request := { readRequest with frags := [{ result := some .ok }] }
       let p : Part := { withRequest r with router := { (withRequest r).router with ended := [0] } }
       p.router.ended = 0 :: [] ∧ p.request? 0 = some r ∧ r.routed = true ∧ r.frags.all (fun f => f.result.isSome) = true)
    ∧ (readRequest.port = .pp ∧ unsetPort.pp.setup = .unset ∧ dpWrite.port = .dp ∧ ({} : DpPort).attached = false) := by
  decide +kernel

theorem test_witness_BayFaultsAndTimeouts :
    ((withBay 0 startingBay).bay 0).power = .starting
    ∧ (let x : Bay := { readyBay with link := .training, retrain := 3 }
       x.power = .ready ∧ x.link = .training ∧ x.retrain = 3)
    ∧ (let x : Bay := { readyBay with power := .stopping, link := .training, retrain := 2 }
       x.power = .stopping ∧ x.link = .training ∧ x.retrain < 3)
    ∧ (let x : Bay := { readyBay with inFlight := .op readOp, timeoutRun := true }
       x.link = .locked ∧ x.inFlight ≠ .nothing ∧ x.inFlight ≠ .healthRead ∧ x.timeoutRun = true)
    ∧ (let x : Bay := { readyBay with inFlight := .op readOp }
       x.timeoutRun = false ∧ x.link = .locked ∧ x.power = .ready)
    ∧ { readyBay with power := .stopping, inFlight := .goStandby }.inFlight = .goStandby
    ∧ (let x : Bay := { readyBay with inFlight := .healthRead, queryHeld := true }
       x.inFlight = .healthRead ∧ x.queryHeld = true ∧ { x with timeoutRun := true }.timeoutRun = true) := by
  decide +kernel

theorem test_witness_LinkLostAndLocked :
    readyBay.link = .locked ∧ { readyBay with power := .stopping }.link = .locked
    ∧ (startingBay.power = .starting ∧ { startingBay with link := .locked }.link = .locked)
    ∧ (standbyBay.power = .standby ∧ standbyBay.link = .locked ∧ { standbyBay with startAfterStop := true }.startAfterStop = true)
    ∧ (let x : Bay := { startingBay with link := .training }
       x.link = .training ∧ x.power = .starting ∧ x.startedFrom ≠ some .standby)
    ∧ (let x : Bay := { startingBay with link := .training, startedFrom := some .standby }
       x.link = .training ∧ x.startedFrom = some .standby)
    ∧ (let x : Bay := { readyBay with link := .training, inFlight := .op readOp }
       x.link = .training ∧ x.inFlight = .op readOp ∧ readOp.reissue = false)
    ∧ { readyBay with power := .stopping, link := .training }.inFlight = .nothing := by
  decide +kernel

theorem test_witness_BayComesUp :
    (startingBay.power = .starting ∧ startingBay.startedFrom = some .off ∧ startingBay.link = .down)
    ∧ { startingBay with link := .training }.link = .training
    ∧ (let x : Bay := { startingBay with link := .locked }
       x.startedFrom = some .off ∧ x.link = .locked ∧ x.inFlight = .nothing)
    ∧ (let x : Bay := { startingBay with link := .locked, inFlight := .identify }
       x.link = .locked ∧ x.inFlight = .identify)
    ∧ (let x : Bay := { startingBay with link := .locked, startedFrom := some .standby, inFlight := .spinUp }
       x.link = .locked ∧ x.inFlight = .spinUp)
    ∧ (singleWindow.member 0).serial = some [0x53] ∧ (singleWindow.member 0).base + singleWindow.extentLen ≤ 10000
    ∧ ¬(singleWindow.member 0).base + singleWindow.extentLen ≤ 9999 ∧ (mirrorWindow.member 1).serial = none
    ∧ (let w : Window := { mirrorWindow with lost := some .secondary }
       w.lost = some (sideOf 1) ∧ w.lost = some (otherSide (sideOf 0)))
    ∧ ((mirrorOf { mirrorWindow with lost := some .secondary } readyBay readyBay).window 1).cursor = none := by
  decide +kernel

/-- Idle counters exactly at the profile's figures. -/
theorem test_witness_BayStopsWhenIdle :
    (let x : Bay := { readyBay with idle := 1200 }
     x.quiet = true ∧ x.profile.idleStandby ≠ 0 ∧ x.profile.idleStandby ≤ x.idle ∧ x.link = .locked)
    ∧ { readyBay with idle := 1200, link := .training }.link ≠ .locked
    ∧ (let x : Bay := { standbyBay with idle := 60, profile := { idleOff := 60, mayPowerOff := true } }
       x.power = .standby ∧ x.profile.mayPowerOff = true ∧ x.profile.idleOff ≠ 0 ∧ x.profile.idleOff ≤ x.idle)
    ∧ (let x : Bay := { readyBay with power := .stopping, inFlight := .goStandby, stopFor := [.mp] }
       x.power = .stopping ∧ x.link = .locked ∧ x.inFlight = .goStandby) := by
  decide +kernel

theorem test_witness_PresenceChanges : ((withBay 3 {}).bay 3).present = false ∧ (running.bay 0).present = true := by
  decide +kernel

/-! ### Power, patrol, box states -/

/-- Figures exactly at their limits and one past them. -/
theorem test_witness_PowerFiguresAndSupply :
    Taken viaPp .budgetSet running ∧ Taken (.mp 5) .profileSet running
    ∧ (240 ≤ min 240 4000 ∧ running.power.spProfile.sUp ≤ min 240 4000 ∧ ∀ k, (running.bay k).profile.pUp ≤ min 240 4000)
    ∧ ¬(running.bay 0).profile.pUp ≤ min 239 4000
    ∧ min running.power.budget running.power.bLow = 350
    ∧ running.power.lowAsserted = false
    ∧ (let p : Part := { running with power := { running.power with lowAsserted := true, tSpLeft := some 3 } }
       p.power.lowAsserted = true ∧ p.power.spRail = true ∧ p.power.tSpLeft.isSome = true ∧ p.power.spInUse.isSome = true) := by
  unfold Taken; decide +kernel

/-- The patrol's commands, and a compare chunk whose other READ is out, is in, or found its copy unreadable. -/
theorem test_witness_PatrolSetAndDue :
    (let c := chunkOf .patrol 64
     let p := withEngine { chunk := some c }
     p.engine.chunk = some c ∧ c.abandoned = false ∧ (chunkOp .read .primary).parent = .chunk .primary
       ∧ memWf p.router.data ∧ c.resSecondary = none ∧ { c with resSecondary := some true }.resSecondary = some true
       ∧ { c with resSecondary := some false, again := true }.again = true ∧ (p.window 1).st = .opened
       ∧ (p.window 1).lost = none ∧ p.engine.log = []
       ∧ (∃ e ∈ (withEngine { chunk := some c, log := [entryOf 0 .primary] }).engine.log, e.window = 1 ∧ e.region = 0)
       ∧ (p.tryRepair 1 .primary c.offset c.count).isSome = true)
    ∧ Taken viaPp .patrolSet running ∧ (running.window 1).st = .opened ∧ (running.window 1).layout = .mirror
    ∧ (running.window 1).patrolAttr = true ∧ (running.window 4).st = .free ∧ (running.window 3).st = .closing
    ∧ (running.window 0).layout ≠ .mirror ∧ running.engine.chunk = none
    ∧ (let k : Chunk := { kind := .patrol, window := 1, source := .primary, dest := .secondary, offset := 0, count := 64 }
       (withEngine { chunk := some k }).engine.chunk = some k ∧ k.window = 1 ∧ k.kind = .patrol
         ∧ k.phase = .slotWait ∧ k.abandoned = false ∧ ∀ st ∈ [WindowState.opened, .closing],
           let p : Part := { withEngine { chunk := some k } with
             windows := running.windows.set 1 { running.window 1 with lost := some .secondary, st := st } }
           (p.window k.window).lost.isSome = true ∧ (p.window k.window).st = st
             ∧ (∀ e ∈ p.router.slotWait, e.who ≠ .engine) ∧ k.todo = []
             ∧ ∃ e ∈ ({ p with router := { slotWait := [{ who := .engine, need := 128 }] } } : Part).router.slotWait, e.who = .engine)
    ∧ (running.window 1).patrol.isSome = true ∧ (running.window 1).interval ≠ 0 := by
  unfold Taken; decide +kernel

theorem test_witness_SleepAndResume :
    Taken viaPp .sleep running ∧ running.box.st = some .run ∧ running.dp.attached = true
    ∧ Taken viaPp .sleep (withBox { st := some .waking })
    ∧ (let p := withBox { st := some .draining, phase := some .drain, target := some .sleep, pendingSleep := some 9 }
       p.router.ppCount = 0 ∧ p.pp.setup ≠ .unset ∧ p.box.pendingSleep = some 9)
    ∧ (let p := withBox { st := some .draining, phase := some .grace, target := some .sleep }
       p.box.grace = none ∧ ∀ c ∈ p.pp.list, c.isSleep = false)
    ∧ Taken viaPp .resume (withBox { st := some .waking })
    ∧ (withBox { st := some .waking }).power.spRail = true := by
  unfold Taken; decide +kernel

theorem test_witness_SpRailGoesOff :
    (let p := withBox { st := some .draining, phase := some .grace, target := some .dormant, grace := some 3 }
     p.held = false ∧ p.box.st = some .draining ∧ p.box.phase = some .grace ∧ p.box.grace.isSome = true)
    ∧ (let p := withBox { st := some .waking, resumeCount := some 120 }
       p.power.spRail = true ∧ p.box.resumeCount.isSome = true ∧ p.box.cycled = false)
    ∧ (withBox { st := some .waking, resumeCount := some 120, cycled := true }).box.cycled = true
    ∧ Part.power { running with power := {} } = {}
    ∧ (let p : Part := { withBox { st := some .dormant } with
         bays := Vector.replicate 4 offBay, windows := Vector.replicate 16 {}, power := {}, pp := {} }
       p.settled = true ∧ p.box.st = some .dormant) := by
  decide +kernel

theorem test_witness_WakeEventByState :
    running.box.st = some .run
    ∧ (let p := withBox { st := some .draining, phase := some .drain, pendingSleep := some 9 }
       p.box.phase = some .drain ∧ p.box.pendingSleep = some 9 ∧ p.pp.setup ≠ .unset)
    ∧ (withBox { st := some .draining, phase := some .grace }).box.phase = some .grace
    ∧ (withBox { st := some .dormant }).box.st = some .dormant ∧ (withBox { st := some .waking }).box.st = some .waking := by
  decide +kernel

theorem test_witness_ButtonAndForcedStops :
    Taken (.mp 5) .boxWake running ∧ Taken (.mp 5) .forceDormant running ∧ running.box.st.isSome = true
    ∧ running.dp.attached = true ∧ Part.dp { running with dp := {} } = {}
    ∧ Taken (.mp 5) .forceDormant { running with dp := {} }
    ∧ (withBox { st := some .run, pressed := true }).box.pressed = true
    ∧ (withBox { st := some .sleep }).box.st = some .sleep ∧ (withBox { st := some .dormant }).box.st = some .dormant := by
  unfold Taken; decide +kernel

/-! ### The box clock and the wake matcher -/

/-- A repeating alarm that expires with room for its next time, and one at the end of the counter's range. -/
theorem test_witness_RepeatingAlarmSetAgain :
    (let c : Clock := { counter := 100, valid := true, alarms := [⟨1, 95, 7, []⟩] }
     c.alarms = ⟨1, 95, 7, []⟩ :: [] ∧ 95 ≤ c.counter ∧ 0 < 7 ∧ c.counter < 2 ^ 32 - 1)
    ∧ (let c : Clock := { counter := 2 ^ 32 - 1, valid := true, alarms := [⟨1, 2 ^ 32 - 1, 7, []⟩] }
       2 ^ 32 - 1 ≤ c.counter ∧ c.alarms = ⟨1, 2 ^ 32 - 1, 7, []⟩ :: []) := by
  decide +kernel

theorem test_witness_ClockAdvancesAndExpires :
    (running.held = false ∧ running.clock.supplied = true) ∧ (heldPart.held = true ∧ heldPart.clock.supplied = true)
    ∧ (withClock { counter := 101, valid := true, alarms := [⟨1, 101, 0, []⟩] }).clock.alarms = ⟨1, 101, 0, []⟩ :: []
    ∧ running.clock.alarms = [] ∧ Taken viaPp .timeSet running
    ∧ [(⟨1, 101, 0, []⟩ : Alarm), ⟨2, 101, 7, [1]⟩].Pairwise (fun a b => a.time ≤ b.time)
    ∧ (heldPart.clock.undelivered.any fun u => u.id == 7) = false ∧ State.reset.part.box.st = none
    ∧ running.box.st = some .run ∧ (withBox { st := some .sleep }).box.st = some .sleep
    ∧ startingBay.startLeft = some 30 ∧ startingBay.power = .starting ∧ readyBay.startLeft = none
    ∧ readyBay.quiet = true ∧ standbyBay.quiet = false ∧ standbyBay.power = .standby ∧ offBay.quiet = false
    ∧ (readyBay.profile.idleStandby = 1200 ∧ 1199 < 1200 ∧ 1200 ≤ 1200) ∧ standbyBay.profile.mayPowerOff = false
    ∧ (let p := withBox { st := some .draining, phase := some .grace, grace := some 1 }
       p.box.grace = some 1 ∧ p.box.st = some .draining ∧ p.box.phase = some .grace)
    ∧ (let p := withBox { st := some .waking, resumeCount := some 119 }
       p.box.st = some .waking ∧ p.power.spRail = true ∧ p.box.settings.resumeLimit = 119 + 1)
    ∧ (running.window 1).patrol.isSome = true ∧ (running.window 1).interval = 60 := by
  unfold Taken; decide +kernel

theorem test_witness_AlarmsSetAndCleared :
    Taken viaPp .alarmSet running ∧ Taken (.mp 5) .alarmClear running ∧ running.clock.valid = true
    ∧ running.clock.counter < (101 : Seconds).toNat ∧ (100 : Seconds).toNat ≤ running.clock.counter
    ∧ running.clock.alarms.length < 8
    ∧ Taken viaPp .alarmSet (withClock {}) ∧ (withClock {}).clock.valid = false
    ∧ 8 ≤ ((List.finRange 8).map fun i => ({ id := i, time := 200, interval := 0, spins := [] } : Alarm)).length := by
  unfold Taken; decide +kernel

/-- A term at its limits, and operands that pass and fail. -/
theorem test_witness_MatcherIsSet :
    Taken viaPp .wakeEntrySet running ∧ Taken (.mp 5) .stationSet running
    ∧ (255 ≤ 255 ∧ 1 ≤ 4 ∧ 0xFFFFFFFF < 2 ^ (8 * 4) ∧ 255 < 2 ^ (8 * 1) ∧ ¬256 < 2 ^ (8 * 1))
    ∧ (let station : Address := #v[2, 2, 3, 4, 5, 6]
       let group : Address := #v[1, 2, 3, 4, 5, 6]
       station[0].getLsbD 0 = false ∧ station ≠ Vector.replicate 6 0 ∧ group[0].getLsbD 0 = true
         ∧ group ≠ Vector.replicate 6 0xFF) := by
  unfold Taken; decide +kernel

/-- A frame of data followed by its check. -/
def checked (data : List Byte) : List Byte := data ++ leBytes 4 (Part.frameCheck data)

/-- A broadcast frame of exactly 64 bytes that agrees with its check, one of 63, and the other hypotheses. -/
theorem test_witness_FramesArriveAndAreFetched :
    (let f := checked (List.replicate 6 0xFF ++ List.replicate 54 1)
     f.length = 64 ∧ leNat (f.drop 60) = Part.frameCheck (f.take 60) ∧ f.take 6 = List.replicate 6 0xFF)
    ∧ (checked (List.replicate 59 1)).length = 63
    ∧ (withBox { st := some .sleep, rxOn := true }).box.rxOn = true ∧ running.box.rxOn = false
    ∧ Taken viaPp .frameFetch running
    ∧ (let m : Matcher := { held := [{ source := none, time := 3, bytes := List.replicate 64 1 }]
                            transfer := some { tag := 7, bufAddr := 0x9000 } }
       m.transfer = some { tag := 7, bufAddr := 0x9000 } ∧ m.held ≠ [] ∧ running.pp.setup ≠ .unset)
    ∧ (checked []).length = 4 ∧ ¬4 ≤ ([1, 2, 3] : List Byte).length := by
  unfold Taken; decide +kernel

/-- A frame that carries the SUMMONS pattern at its first data byte, and one that an entry's term matches. -/
theorem test_witness_frame_matches :
    (let a : List Byte := (#v[2, 2, 3, 4, 5, 6] : Address).toList
     let data := a ++ List.replicate 6 0xFF ++ (List.replicate 16 a).flatten
     (data.drop 6).take 102 = List.replicate 6 0xFF ++ (List.replicate 16 a).flatten
       ∧ 6 + 102 ≤ data.length ∧ 64 ≤ (checked data).length ∧ (checked data).length ≤ 1536)
    ∧ Nat.land (Part.beNat (([0xFF, 0xFF, 0x12, 0x34] : List Byte).drop 2 |>.take 2)) 0xFF00 = Nat.land 0x1299 0xFF00 := by
  decide +kernel

/-! ### Ports, configuration, resets -/

theorem test_witness_AnswersReachTheirPort :
    (executing.mp.st = .executing ∧ executing.mp.heldRead = none)
    ∧ (let m (n : Nat) : MpPort := { executing.mp with heldRead := some n }
       let r : Reply := { seq := executing.mp.execSeq, status := .ok, length := 0, bytes := [] }
       (m 7).st = .executing ∧ (m 7).heldRead = some 7 ∧ (replyFrame r).length ≤ 7 ∧ 6 < (replyFrame r).length)
    ∧ running.pp.setup ≠ .unset ∧ running.dp.attached = true
    ∧ (let q : PpPort := { setPort with list := [{ tag := 7, status := .ok }], owed := 1, compPos := 6 }
       q.list ≠ [] ∧ (q.compPos + q.compSize - q.head) % q.compSize < q.compSize - 1) := by
  decide +kernel

theorem test_witness_NoticesAndMode :
    Taken (.mp 5) .noticeClear running ∧ Taken viaPp .noticeClear running ∧ Taken (.mp 5) .mpMode running := by
  unfold Taken; decide +kernel

theorem test_witness_PortsAnswerThemselves :
    running.held = false ∧ portReady running viaPp = true ∧ portReady running (.dp 3) = true
    ∧ portReady running (.mp 5) = true ∧ running.mp.st ≠ .executing
    ∧ (let bytes : List Byte := [0x34, 1, 0, 0, 0xCA]
       5 + leField bytes 2 2 ≤ bytes.length ∧ byteAt bytes (4 + leField bytes 2 2) ≠ checkByte (bytes.take 4))
    ∧ (cmdKind .boxWake = some .boxWake ∧ portMayIssue viaPp .boxWake = false ∧ isBlockRequest .boxWake = false)
    ∧ (cmdKind .configLoad = some .configLoad ∧ Part.box { running with box := {} } = {})
    ∧ (cmdKind (.flush 0 false) = some .flush ∧ isBlockRequest (.flush 0 false) = true
      ∧ (withBox { st := some .waking }).mayFetch = true) := by
  decide +kernel

/-- A whole frame with an extra byte, one a byte short, one whose length is 1025, and the states of the port. -/
theorem test_witness_ManagementTransactions :
    (let bytes : List Byte := [0x34, 1, 2, 0, 3, 1, 0xC5, 9]
     leField bytes 2 2 = 2 ∧ 5 + 2 ≤ bytes.length ∧ byteAt bytes (4 + 2) = checkByte (bytes.take (4 + 2))
       ∧ kindOfCode (byteAt bytes 0) = some .bayQuery ∧ (bytes.take 6).length < 5 + leField (bytes.take 6) 2 2)
    ∧ (let bytes : List Byte := [0x34, 1, 1, 4] ++ List.replicate 1025 0 ++ [0xC6]
       1024 < leField bytes 2 2 ∧ 5 + 1025 ≤ bytes.length ∧ byteAt bytes (4 + 1025) = checkByte (bytes.take (4 + 1025)))
    ∧ kindOfCode 0x04 = none ∧ byteAt [0x02] 0 = 2 ∧ (byteAt [3, 2] 1).getLsbD 0 = false
    ∧ (executing.held = false ∧ executing.mp.st = .executing ∧ executing.mp.mode = .hold ∧ executing.mp.heldRead = none)
    ∧ running.mp.st = .idle ∧ ({ executing.mp with mode := .notify } : MpPort).mode = .notify
    ∧ (let r : Reply := { seq := 5, status := .ok, length := 0, bytes := [] }
       let m : MpPort := { st := .replyReady, reply := some r }
       m.st = .replyReady ∧ m.reply = some r ∧ 0 < ((replyFrame r).drop m.readPos).length) := by
  decide +kernel

/-- Sizes at their limits, and a head notice that claims every completion written. -/
theorem test_witness_SetUpAndNotices :
    running.power.spRail = true ∧ Part.power { running with power := {} } = {} ∧ unsetPort.pp.setup = .unset
    ∧ (unsetPort.pp.subBase % 64 = 0 ∧ unsetPort.pp.compBase % 16 = 0 ∧ 2 ≤ unsetPort.pp.subSize
      ∧ unsetPort.pp.subSize ≤ 1024 ∧ 2 ≤ unsetPort.pp.compSize ∧ unsetPort.pp.compSize ≤ 1024)
    ∧ ¬(1025 ≤ 1024) ∧ 2 ≠ 1 ∧ running.pp.setup = .set ∧ 7 < running.pp.subSize ∧ running.pp.subSize ≤ 8
    ∧ (let q : PpPort := { setPort with compPos := 5, head := 2 }
       5 < q.compSize ∧ (5 + q.compSize - q.head) % q.compSize ≤ (q.compPos + q.compSize - q.head) % q.compSize
         ∧ ¬(6 + q.compSize - q.head) % q.compSize ≤ (q.compPos + q.compSize - q.head) % q.compSize) := by
  decide +kernel

theorem test_witness_RecordsAreFetched :
    running.held = false ∧ running.mayFetch = true
    ∧ askOfRecord (List.replicate 64 0xFF) (.bytes []) = .refuse .badRequest
    ∧ (let bytes : List Byte := [0x50, 0, 7, 0] ++ List.replicate 12 0 ++ [45] ++ List.replicate 47 0
       bytes.length = 64 ∧ leField bytes 16 2 = 45 ∧ ∃ k, kindOfCode (byteAt bytes 0) = some k ∧ ppMayIssue k = true
         ∧ k ∉ [Kind.read, .write, .flush])
    ∧ (∃ c, askOfRecord ((leBytes 1 0x11 ++ [0]) ++ leBytes 2 7 ++ List.replicate 60 0) (.bytes []) = .command c) := by
  refine ⟨by decide +kernel, by decide +kernel, by decide +kernel, by decide +kernel, _, rfl⟩

/-- A request with one fragment in flight and one not placed, its fragments after its drop, and the same request dropped; a
WRITE whose removed fragment lies on the target of a rebuild; the box states of a link reset. -/
theorem test_witness_LinkResetForgetsRings :
    (let f : Fragment := { member := 0, bay := 0, block := 5, count := 2, first := 5, placed := true }
     let r : Request := { readRequest with kind := .write, frags := [f, { f with member := 1, bay := 3, placed := false }] }
     let p : Part := { withRequest r with bays := testBays.set 0 { readyBay with inFlight := .op writeOp } }
     let frags : List Fragment := [f, { f with member := 1, bay := 3, placed := false, result := some .media, removed := true }]
     (p.bay 0).inFlight = .op writeOp ∧ writeOp.parent = .request r.id 0 ∧ frags.length = r.frags.length
       ∧ (let q : Part := { running with router := { dropped := [{ r with frags := frags }] } }
          q.request? r.id = none ∧ q.dropped? r.id = some { r with frags := frags } ∧ frags[0]? = some f
            ∧ (q.window r.window).layout ≠ .mirror))
    ∧ (let w : Window := { mirrorWindow with lost := some .secondary, cursor := some 0 }
       let frags : List Fragment := [{ member := 0, result := some .ok }, { member := 1, result := some .media, removed := true }]
       w.layout = .mirror ∧ w.cursor.isSome = true ∧ (∃ g ∈ frags, g.removed = true ∧ g.member = sideIndex .secondary)
         ∧ ∃ g ∈ frags, g.member ≠ sideIndex .secondary ∧ g.removed = false ∧ (g.result = none ∨ g.result = some .ok))
    ∧ running.box.st ≠ some .draining
    ∧ (withBox { st := some .draining, phase := some .drain }).box.phase = some .drain
    ∧ (withBox { st := some .draining, phase := some .grace }).box.grace = none := by decide +kernel

theorem test_witness_DirectPortAttachDetach :
    (Part.dp { running with dp := {} }).attached = false ∧ running.dp.attached = true ∧ running.box.st.isSome = true
    ∧ (Part.box { running with box := {} }).st = none := by decide +kernel

/-- Data that exactly ends the WRITE, and data that does not. -/
theorem test_witness_DirectPortPipes :
    (running.mayTake = true ∧ 63 ≠ 64)
    ∧ (List.replicate 64 (0 : Byte)).length = 64 ∧ kindOfCode 1 = some .read ∧ kindOfCode 0x23 = some .windowInfo
    ∧ kindOfCode 0x12 ∉ [some Kind.read, some .write, some .flush, some .windowInfo]
    ∧ (running.dp.out = .record ∧ Part.mayTake { running with dp := { attached := true, owed := 64 } } = false)
    ∧ ((withBox { st := none }).held = false ∧ (withBox { st := none }).mayTake = false)
    ∧ ({ attached := true, out := .hold } : DpPort).out = .hold
    ∧ (let p : Part := { withRequest dpWrite with dp := { attached := true, out := .data, remaining := 5, writing := some 3 } }
       p.dp.out = .data ∧ p.dp.writing = some dpWrite.id ∧ p.request? dpWrite.id = some dpWrite
         ∧ [(1 : Byte), 2, 3, 4].length < p.dp.remaining ∧ p.dp.remaining ≤ [(1 : Byte), 2, 3, 4, 5].length)
    ∧ ({ attached := true, out := .discard, remaining := 4096 } : DpPort).out = .discard
    ∧ (let p : Part := { withRequest { readRequest with port := .dp } with dp := { attached := true, sendList := [.readData 0] } }
       p.dp.sendList = .readData 0 :: [] ∧ (p.request? 0).isSome = true)
    ∧ ({ attached := true, sendList := [.completion none { tag := 1, status := .ok }] } : DpPort).sendList ≠ [] := by
  decide +kernel

theorem test_witness_ConfigurationLoadedAndSaved :
    let all : Vector Window 16 := Vector.replicate 16 {}
    Taken (.mp 5) .configLoad running ∧ Taken (.mp 5) .configSave running ∧ running.loader.configPresent = true
    ∧ running.loader.st = .idle ∧ (running.window 0).st ≠ .free
    ∧ Taken (.mp 5) .configLoad { running with loader := {} }
    ∧ (∀ w, (Part.window { running with windows := all } w).st = .free)
    ∧ State.reset.part.loader.st = .loading ∧ State.reset.part.box.st = none ∧ State.reset.part.held = false
    ∧ (Part.loader { running with loader := { st := .saving, image := [1] } }).st = .saving
    ∧ running.matcher.groups.length = 4 := by
  unfold Taken; decide +kernel

/-- An image of one section, attach-wakes set: its header, its section, its check. -/
def smallImage : List Byte :=
  [0x45, 0x42, 0x43, 0x46, 1, 0, 21, 0, 0xD0, 0xFE] ++ List.replicate 6 0 ++ [8, 0, 1, 0, 1]

/-- The small image is sound, its sections stand in it, and it is judged good; with another version it is not. -/
theorem test_witness_ConfigurationLoadedAndSaved_image :
    smallImage.take 4 = [0x45, 0x42, 0x43, 0x46] ∧ leField smallImage 4 2 = 1 ∧ leField smallImage 6 2 = 21
    ∧ sectionsAt smallImage 21 16 [{ kind := 8, contents := [1] }]
    ∧ (leField smallImage 8 2 + imageSum smallImage 21) % 65536 = 0
    ∧ sectionPasses (settingsGiven [{ kind := 8, contents := [1] }]) { kind := 8, contents := [1] }
    ∧ judgeImage smallImage = .ok (settingsGiven [{ kind := 8, contents := [1] }])
    ∧ (settingsGiven [{ kind := 8, contents := [1] }]).attachWakes = true
    ∧ leField (smallImage.set 4 2) 4 2 ≠ 1 ∧ (smallImage.set 3 0).take 4 ≠ [0x45, 0x42, 0x43, 0x46]
    ∧ (leField (smallImage.set 8 0) 8 2 + imageSum (smallImage.set 8 0) 21) % 65536 ≠ 0 :=
  ⟨by decide, by decide, by decide, ⟨by decide +kernel, by decide, by decide, rfl⟩, by decide +kernel, rfl, by decide +kernel,
    by decide, by decide, by decide, by decide +kernel⟩

theorem test_witness_ResetsAndSupplies :
    heldPart.held = true ∧ (∀ i, Instr.linkReset ≠ .powerOnReset i)
    ∧ Instr.linkReset ∉ [Instr.boxClockTick, .alarmExpiry, .backupSupplyLoss, .backupDomainSupplyReturn, .porLineAsserted]
    ∧ heldPart.clock.supplied = true ∧ (withClock { supplied := false }).clock.supplied = false
    ∧ Taken (.mp 5) .restart running ∧ running.clock.supplied = true := by
  unfold Taken
  refine ⟨rfl, fun i => by simp, ?_⟩
  decide +kernel

theorem test_witness_StatusCodeShowsHighestRank : Part.ShowsHighestRank { calm with statusCode := 3 } := by
  have none_fault : ∀ b, (calm.bay b).power ≠ .fault := by decide +kernel
  exact ⟨nofun, fun _ => ⟨nofun, fun _ => ⟨fun ⟨b, h⟩ => absurd h (none_fault b),
    fun _ => ⟨nofun, fun _ => ⟨nofun, fun _ => ⟨nofun, fun _ => rfl⟩⟩⟩⟩⟩⟩

/-! ## Steps and figures whose results the manual states -/

/-- The part after one command, from a part with nothing waiting. -/
def after (c : Instr) (p : Part) : Part :=
  match exec c (stateOf p) with
  | .next t => t.part
  | .fault _ => p
  | .refused _ => p

/-- Window 3 of the worked cases of chapters 1 and 2. -/
def archive : Window := {
  st := .opened, layout := .stripe, members := [{ bay := 1, base := 1000000 }, { bay := 2, base := 2000000 }]
  length := 1048576, unit := some 64, ppRight := .readWrite }

/-- The worked case of section 1.3: offset 1000, 100 blocks, three fragments. -/
theorem test_translate_across_units :
    (translate archive 1000 100).map (fun f => (f.first, f.bay, f.block, f.count))
      = [(1000, 2, 2000488, 24), (1024, 1, 1000512, 64), (1088, 2, 2000512, 12)] := by decide +kernel

/-- The example of section 1.2: base 1,000,000 on bay 1 is clear of window 0 on it, base 400,000 is not. -/
theorem test_define_overlap :
    let w0 : Window := { st := .opened, layout := .single, members := [{ bay := 1, base := 0 }], length := 500000 }
    noOverlap archive [w0] = true ∧ stripeLength archive = true
    ∧ noOverlap { archive with members := [{ bay := 1, base := 400000 }, { bay := 2, base := 2000000 }] } [w0] = false := by
  decide +kernel

/-- R23: blocks 4095 and 4096 lie in regions 0 and 1. -/
theorem test_touched_two_regions : touched 4095 2 = [0, 1] ∧ touched 1000 100 = [0] := by decide

/-- R202, R204: a READ record of kind 0x01, tag 7, window 2, offset 5, count 3, buffer list 0x1000, byte by byte. -/
theorem test_record_read :
    askOfRecord (([0x01, 0x00, 0x07, 0x00, 0x02, 0, 0, 0, 5, 0, 0, 0, 0, 0, 0, 0, 3, 0, 0, 0, 0, 0, 0, 0, 0x00, 0x10, 0, 0, 0, 0, 0, 0] : List Byte)
      ++ List.replicate 32 0) (.bytes []) = .command (.read 2 5 3 0x1000 false) := by decide +kernel

/-- R204: the codes of the kinds: 0x93 is RESTART, 0x04 names no kind. -/
theorem test_kind_codes : kindOfCode 0x93 = some .restart ∧ kindOfCode 0x04 = none ∧ kindOfCode 0x34 = some .bayQuery := by
  decide

/-- R203: a completion of tag 0x0102, status RANGE, phase 1. -/
theorem test_completion_bytes :
    completionBytes { tag := 0x0102, status := .range } true false
      = [0x02, 0x01, 0x24, 0x01, 0, 0, 0, 0, 0, 0, 0, 0, 0, 0, 0, 0] := by decide

/-- Section 11.1: the check byte is the two's complement of the sum of the others. -/
theorem test_reply_check :
    replyFrame { seq := 41, status := .pending, length := 0, bytes := [] } = [41, 0x30, 0, 0, 0, 0, 0xA7] := by decide

/-- R148: the frame check of the bytes of "123456789", the usual check value of the network's 32-bit code. -/
theorem test_frame_check :
    Part.frameCheck [0x31, 0x32, 0x33, 0x34, 0x35, 0x36, 0x37, 0x38, 0x39] = 0xCBF43926 := by decide +kernel

/-- The example of section 3.5: operation A passes its 30 s at 5030, then B at 5061. -/
theorem test_drive_stops_answering :
    let a := withBay 2 { readyBay with inFlight := .op readOp, queue := [writeOp] }
    let p := after (.commandTimeout 2) { a with clock := { counter := 5030, valid := true } }
    let q := after (.commandTimeout 2) { withBay 2 { p.bay 2 with link := .locked, retrain := 0, inFlight := .op writeOp } with
      clock := { counter := 5061, valid := true } }
    ((p.bay 2).power, (p.bay 2).link, (p.bay 2).retrain, (p.bay 2).timeoutRun, (p.bay 2).errorCount)
        = (.ready, .training, 1, true, 1)
    ∧ (p.bay 2).firstError = some { kind := .timeout, block := none, time := 5030 }
    ∧ ((q.bay 2).power, (q.bay 2).link, (q.bay 2).queue, (q.bay 2).timeoutRun, (q.bay 2).errorCount)
        = (.fault, .down, [], false, 2)
    ∧ (q.bay 2).firstError = some { kind := .timeout, block := none, time := 5030 }
    ∧ q.statusCode = 9 ∧ q.pp.notices = [.bayFault] := by decide +kernel

/-- The worked case of section 4.4: C = 276, Δ = 232, and after the admission C = 508. -/
theorem test_two_starts :
    let p : Part := { running with
      bays := #v[readyBay, readyBay, waitingBay .standby, standbyBay]
      power := { spRail := true, spInUse := some {}, startQueue := [.bay 2] } }
    p.committedDraw = 276 ∧ p.startDelta (.bay 2) = 232 ∧ (p.admitHead).committedDraw = 508
    ∧ ((p.admitHead).bay 2).power = .starting := by decide +kernel

/-- The example of section 10.4: a ring of 4 with three unread; head notice 2 lets D be written at index 3 and the phase flips;
head notice 3 then claims too much. -/
theorem test_small_ring :
    let d : Completion := { tag := 4, status := .ok }
    let p : Part := { calm with pp := { setPort with compSize := 4, compPos := 3, list := [d], owed := 1 } }
    let q := after (.completionHeadNotice 2) p
    let r := after (.completionHeadNotice 3) { q with pp := { q.pp with compPos := 1, head := 1 } }
    (q.pp.compPos, q.pp.phase, q.pp.head, q.pp.list, q.pp.owed) = (0, false, 2, [], 0)
    ∧ q.out = [.completion (0x2000 + 48) (completionBytes d true false), .completionInterrupt]
    ∧ (r.pp.head, r.pp.noticeErrors) = (1, 1) := by decide +kernel

/-- The worked sequence of section 9.4: TIME_SET 1,300,000 from SLEEP. -/
theorem test_alarms_after_clock_change :
    let p : Part := { calm with
      clock := { counter := 1000500, valid := true, alarms := [⟨5, 1010000, 0, []⟩, ⟨3, 1036000, 86400, [2]⟩, ⟨1, 1200000, 3600, []⟩] }
      bays := testBays.set 2 standbyBay, power := {}, box := { st := some .sleep } }
    let q := after (.timeSet (.mp 9) 1300000) p
    q.clock.alarms = [⟨1, 1300800, 3600, []⟩, ⟨3, 1381600, 86400, [2]⟩]
    ∧ q.box.st = some .waking
    ∧ q.box.resume.reasons = [⟨.alarm 5, 1300000⟩, ⟨.alarm 3, 1300000⟩, ⟨.alarm 1, 1300000⟩]
    ∧ (q.bay 2).power = .starting ∧ q.power.spRail = true := by decide +kernel

/-- The example of section 11.1: in HOLD mode a frame that arrives while a command executes counts an overrun, and the read
that was held 25 ms is answered PENDING. -/
theorem test_health_query_in_hold :
    let p : Part := { executing with mp := { executing.mp with execSeq := 41, heldRead := some 7 } }
    let q := after .mpHoldTimeout p
    q.out = [.mpBytes [41, 0x30, 0, 0, 0, 0, 0xA7]] ∧ q.mp.late = true
    ∧ (after .mpOverrun q).mp.overruns = 1 := by decide +kernel

/-- The worked sequence of section 8.7, frame B: a frame of 50 bytes with a good check is a short frame. -/
theorem test_short_frame :
    let p := withBox { st := some .sleep, rxOn := true }
    (after (.frameArrival { bytes := checked (List.replicate 46 1), fromStart := true }) p).matcher.shortFrames = 1
    ∧ (after (.frameArrival { bytes := List.replicate 90 1, fromStart := true }) p).matcher.checkErrors = 1 := by decide +kernel

/-- Section 2.4's example, its first rows: a READ of 100 blocks at the head is not granted from 40 free slots, and is from 104. -/
theorem test_slot_wait_order :
    let r : Request := { readRequest with count := 100, life := .slotWait, slots := [] }
    let p (n : Nat) : Part := { withRequest r with router := { (withRequest r).router with
      slotWait := [{ who := .request 0, need := 100 }]
      pool := List.replicate (512 - n) .engine ++ List.replicate n .free } }
    (after .slotGrant (p 40)).freeSlots = 40 ∧ (after .slotGrant (p 104)).freeSlots = 4 := by decide +kernel

/-- R28: a READ with a count of 0 is answered BAD_REQUEST and leaves no record. -/
theorem test_read_count_zero :
    let q := after (.read viaPp 0 0 0 0x5000 false) calm
    q.router.requests = [] ∧ q.pp.list = [] ∧ q.pp.fetchPos = 1
    ∧ q.out = [.spRead 0x1000 64, .completion 0x2000 (completionBytes { tag := 7, status := .badRequest } true false)
        , .completionInterrupt] := by
  decide +kernel

/-- R31, R103: a MIRROR_BOTH flush of copies that are both asleep and stale has no fragment, and waits AT_BAYS. -/
theorem test_flush_without_fragments :
    let p := { mirrorOf mirrorWindow standbyBay standbyBay with engine := { log := [entryOf 0 .primary, entryOf 1 .secondary] } }
    (after (.flush viaPp 1 true) p).router.requests.map (fun r => (r.life, r.frags, r.waits)) = [(.atBays, [], [0, 1])] := by
  decide +kernel

/-- R34, R121, R122: a compare chunk of a window with a LOST member that still waits for its slots is granted them and reads;
one that has left the slot-wait list ends, due again. -/
theorem test_compare_chunk_after_lost :
    let c : Chunk := { kind := .patrol, window := 1, source := .primary, dest := .secondary, offset := 0, count := 64 }
    let p (l : List SlotWait) : Part := { withEngine { chunk := some c } with
      windows := running.windows.set 1 { running.window 1 with lost := some .secondary }, router := { slotWait := l } }
    let q := after .copyJobStart (p [{ who := .engine, need := 128 }])
    let r := after .copyJobStart (p [])
    q.engine.chunk.map (fun k => k.phase) = some .reading ∧ (q.window 1).due = false
    ∧ r.engine.chunk = none ∧ (r.window 1).due = true := by
  decide +kernel

/-- R178: an error of block 1 of a WRITE leaves block 0 in its slot; an error of block 0 reads no block after it. -/
theorem test_block_error :
    let p := withRequest { readRequest with kind := .write, life := .dataIn }
    let list := leBytes 8 0x4000 ++ leBytes 8 0x6000
    let q := after (.spMemoryError (.block 7 list 1 [0x11])) p
    q.router.requests = [] ∧ readByte q.router.data 0 = 0x11
    ∧ q.out.take 3 = [.spRead 0 16, .spRead 0x4000 4096, .spRead 0x6000 4096]
    ∧ (after (.spMemoryError (.block 7 list 0 [])) p).out.take 3
      = [.spRead 0 16, .spRead 0x4000 4096, .completion 0x2000 (completionBytes { tag := 7, status := .transferError } true false)] := by
  decide +kernel

/-- R115, R196: a patrol entry of index 20 fails its section, though the image gives a MIRROR window with PATROL that index. -/
theorem test_patrol_index :
    let s (i : Nat) : Settings := {
      patrols := [(i, 60)], windows := [{ d := { index := i, layout := some .mirror, patrolAttr := true }, lost := none, serials := [] }] }
    sectionFits (s 20) { kind := 7, contents := [1, 20, 60, 0] } = false
    ∧ sectionFits (s 15) { kind := 7, contents := [1, 15, 60, 0] } = true := by decide +kernel

/-- R61: a READ at the bay ends OK and its data stands in the request's slots when DATA_OUT begins. -/
theorem test_read_answered :
    let p := { withRequest readRequest with bays := testBays.set 0 { readyBay with inFlight := .op readOp }, windows := calm.windows }
    let q := after (.driveAnswer 0 (.done [0x11, 0x22])) p
    (q.request? 0).map (fun r => (r.life, r.outcome)) = some (.dataOut, some .ok)
    ∧ readByte q.router.data 1 = 0x22 ∧ (q.bay 0).inFlight = .nothing := by decide +kernel

/-- R41, R49: a release ends the bay's operations in queue order, and the requests leave AT_BAYS in that order: request 1, whose
operation stands first in the queue, before request 0, accepted before it. -/
theorem test_release_ends_in_queue_order :
    let r1 : Request := { readRequest with id := 1, tag := 8 }
    let p : Part := { calm with
      bays := testBays.set 0 { readyBay with queue := [{ readOp with parent := .request 1 0 }, readOp] }
      router := { requests := [readRequest, r1], ppCount := 2, nextId := 2 } }
    let q := after (.bayPresenceRelease 0) p
    q.router.requests = [] ∧ q.out = [
      .noticeInterrupt
      , .completion 0x2000 (completionBytes (requestCompletion 8 .bayAbsent 0) true false)
      , .completion 0x2010 (completionBytes (requestCompletion 7 .bayAbsent 0) true false), .completionInterrupt] := by
  decide +kernel

/-- R82: a profile set below the draw in STANDBY gives a negative increase, which is admitted only where C is within B_eff. -/
theorem test_negative_increase :
    let x : Bay := { waitingBay .standby with profile := { pUp := 50 }, inUse := some { pStby := 100 } }
    let p (b : Nat) : Part := { withBay 3 x with
      power := { spRail := true, spInUse := some {}, startQueue := [.bay 3], budget := b } }
    (p 600).startDelta (.bay 3) = -50
    ∧ ((p (p 600).committedDraw).admits = true ∧ (p ((p 600).committedDraw - 1)).admits = false) := by decide +kernel

/-- R190, R205: BAY_QUERY's frame for bay 3 with NO_WAKE set, and with its check byte wrong. -/
theorem test_frame_bytes :
    frameAgrees [0x34, 1, 2, 0, 3, 1, 0xC5] = true ∧ cmdOfOperands .bayQuery [3, 1] = .bayQuery 3 true
    ∧ frameAgrees [0x34, 1, 2, 0, 3, 1, 0xC6] = false := by decide

/-- R131: SLEEP moves the box from RUN to DRAINING, and with nothing outstanding the drain ends in the same event. -/
theorem test_sleep_drains :
    let q := after (.sleep viaPp (some .sleep)) calm
    (q.box.st, q.box.phase, q.box.target) = (some .draining, some .grace, some .sleep) ∧ q.box.grace = some 5 := by decide +kernel

/-- R201: right after reset the status code shows the load. -/
theorem test_reset_code : State.reset.part.statusCode = 1 ∧ State.reset.part.finish.statusCode = 1 := by decide +kernel

end Sys2Proof.Tests
end

section
/-! PROOFS. The admission test (O29, R82): the draws of a waiting and of a started entry, what an admission leaves, and that
it raises the committed draw by exactly the increase the test has judged. -/

namespace Sys2Proof.Machine

open Sys2Proof

/-! ## Draws (R78) -/

theorem bayDraw_of_starting {x : Bay} {f : BayProfile} (hp : x.power = .starting) (hf : x.inUse = some f) :
    bayDraw x = f.pUp := by simp [bayDraw, hp, hf]

theorem bayDraw_of_waiting_standby {x : Bay} {f : BayProfile} (hp : x.power = .waiting)
    (hw : x.waitingFrom = some .standby) (hf : x.inUse = some f) : bayDraw x = f.pStby := by simp [bayDraw, hp, hw, hf]

theorem bayDraw_of_waiting_off {x : Bay} (hp : x.power = .waiting) (hw : x.waitingFrom = some .off) : bayDraw x = 0 := by
  cases hf : x.inUse <;> simp [bayDraw, hp, hw, hf]

theorem spDraw_of_rail_off {c : PowerCtl} (h : c.spRail = false) : spDraw c = 0 := by simp [spDraw, h]

theorem spDraw_of_starting {c : PowerCtl} {f : SpProfile} (hr : c.spRail = true) (hf : c.spInUse = some f)
    (ht : c.tSpLeft.isSome = true) : spDraw c = f.sUp := by simp [spDraw, hr, hf, ht]

namespace Part

theorem committedDraw_eq_sum (p : Part) : p.committedDraw = ∑ b, bayDraw (p.bay b) + spDraw p.power := by
  simp [committedDraw, Fin.sum_univ_four]

/-- Where one bay alone has changed, the committed draw has changed by the change of that bay's draw. -/
theorem committedDraw_of_bay_changed {p q : Part} (b : Fin 4) (hs : spDraw q.power = spDraw p.power)
    (hb : ∀ i, i ≠ b → q.bay i = p.bay i) :
    q.committedDraw + bayDraw (p.bay b) = p.committedDraw + bayDraw (q.bay b) := by
  have hrest : ∑ i ∈ ({b} : Finset (Fin 4))ᶜ, bayDraw (q.bay i) = ∑ i ∈ ({b} : Finset (Fin 4))ᶜ, bayDraw (p.bay i) :=
    Finset.sum_congr rfl fun i hi => by rw [hb i (by simpa using hi)]
  rw [committedDraw_eq_sum, committedDraw_eq_sum, hs, Fintype.sum_eq_add_sum_compl b,
    Fintype.sum_eq_add_sum_compl b fun i => bayDraw (p.bay i), hrest]
  omega

/-! ## The increase asked for and the test (R82) -/

theorem startDelta_bay_of_off {p : Part} {b : Fin 4} (h : (p.bay b).waitingFrom = some .off) :
    p.startDelta (.bay b) = (p.bay b).profile.pUp := by simp [startDelta, h]

/-- A waiting bay asks for its start draw less its draw now, whichever state it waits from. -/
theorem startDelta_bay_of_waiting {p : Part} {b : Fin 4} (hp : (p.bay b).power = .waiting)
    (hw : (p.bay b).waitingFrom.isSome = true) :
    p.startDelta (.bay b) = ((p.bay b).profile.pUp : Int) - bayDraw (p.bay b) := by
  obtain ⟨w, hw⟩ := Option.isSome_iff_exists.1 hw
  cases w with
  | off => simp [startDelta_bay_of_off hw, bayDraw_of_waiting_off hp hw]
  | standby => simp [startDelta, hw]

theorem admits_iff {p : Part} {e : StartEntry} {rest : List StartEntry} (h : p.power.startQueue = e :: rest) :
    p.admits = true ↔ p.committedDraw ≤ p.bEff ∧ p.startDelta e ≤ (p.bEff : Int) - p.committedDraw := by
  simp [admits, h]

/-! ## What an admission does (R83) -/

/-- The part with these entries in its start queue: what an admission acts on once the head has left. -/
def withStartQueue (p : Part) (l : List StartEntry) : Part := { p with power := { p.power with startQueue := l } }

@[simp] theorem withStartQueue_startQueue (p : Part) (l : List StartEntry) : (p.withStartQueue l).power.startQueue = l := rfl
@[simp] theorem withStartQueue_bay (p : Part) (l : List StartEntry) (b : Fin 4) : (p.withStartQueue l).bay b = p.bay b := rfl
@[simp] theorem withStartQueue_bEff (p : Part) (l : List StartEntry) : (p.withStartQueue l).bEff = p.bEff := rfl
@[simp] theorem spDraw_withStartQueue (p : Part) (l : List StartEntry) :
    spDraw (p.withStartQueue l).power = spDraw p.power := rfl

theorem admitHead_bay {p : Part} {b : Fin 4} {rest : List StartEntry} (h : p.power.startQueue = .bay b :: rest) :
    p.admitHead = (p.withStartQueue rest).admitBay b := by simp [admitHead, h, withStartQueue]

theorem admitHead_sp {p : Part} {rest : List StartEntry} (h : p.power.startQueue = .sp :: rest) :
    p.admitHead = (p.withStartQueue rest).admitSp := by simp [admitHead, h, withStartQueue]

@[simp] theorem issueSpinUp_power (b : Fin 4) (p : Part) : (p.issueSpinUp b).power = p.power := rfl

theorem issueSpinUp_bay_of_ne {b i : Fin 4} (h : b ≠ i) (p : Part) : (p.issueSpinUp b).bay i = p.bay i := by
  simp [issueSpinUp, h]

@[simp] theorem admitBay_power (b : Fin 4) (p : Part) : (p.admitBay b).power = p.power := by
  simp only [admitBay]
  split
  · rfl
  · split <;> simp

theorem admitBay_bay_of_ne {b i : Fin 4} (h : b ≠ i) (p : Part) : (p.admitBay b).bay i = p.bay i := by
  simp only [admitBay]
  split
  · rfl
  · split <;> simp [issueSpinUp_bay_of_ne, h]

/-- A waiting bay that is admitted becomes STARTING with its profile copied as its figures in use (R52, R75). -/
theorem admitBay_starts {p : Part} {b : Fin 4} (h : (p.bay b).power = .waiting) :
    ((p.admitBay b).bay b).power = .starting ∧ ((p.admitBay b).bay b).inUse = some (p.bay b).profile := by
  simp only [admitBay, h, ne_eq, not_true_eq_false, if_false]
  split <;> simp [issueSpinUp]

theorem bayDraw_admitBay {p : Part} {b : Fin 4} (h : (p.bay b).power = .waiting) :
    bayDraw ((p.admitBay b).bay b) = (p.bay b).profile.pUp := by
  obtain ⟨hpower, huse⟩ := admitBay_starts h
  exact bayDraw_of_starting hpower huse

@[simp] theorem admitBay_bEff (b : Fin 4) (p : Part) : (p.admitBay b).bEff = p.bEff := by simp [bEff]

theorem admitHead_startQueue {p : Part} {e : StartEntry} {rest : List StartEntry}
    (h : p.power.startQueue = e :: rest) : p.admitHead.power.startQueue = rest := by
  cases e with
  | bay b => simp [admitHead_bay h]
  | sp => simp [admitHead_sp h, admitSp]

@[simp] theorem admitHead_bEff (p : Part) : p.admitHead.bEff = p.bEff := by
  cases h : p.power.startQueue with
  | nil => simp [admitHead, h]
  | cons e rest =>
    cases e with
    | bay b => simp [admitHead_bay h]
    | sp => rw [admitHead_sp h]; rfl

/-- The admission of a waiting bay raises the committed draw by the increase its start asks for. -/
theorem committedDraw_admitHead_bay {p : Part} {b : Fin 4} {rest : List StartEntry}
    (h : p.power.startQueue = .bay b :: rest) (hp : (p.bay b).power = .waiting)
    (hw : (p.bay b).waitingFrom.isSome = true) :
    (p.admitHead.committedDraw : Int) = p.committedDraw + p.startDelta (.bay b) := by
  have hsp : spDraw p.admitHead.power = spDraw p.power := by simp [admitHead_bay h]
  have hbay : ∀ i, i ≠ b → p.admitHead.bay i = p.bay i := fun i hi => by simp [admitHead_bay h, admitBay_bay_of_ne hi.symm]
  have hdraw : bayDraw (p.admitHead.bay b) = (p.bay b).profile.pUp := by
    rw [admitHead_bay h]
    exact bayDraw_admitBay hp
  have hsum := committedDraw_of_bay_changed b hsp hbay
  rw [startDelta_bay_of_waiting hp hw]
  omega

/-- The admission of the SP's entry, its rail off, raises the committed draw by the SP's start draw. -/
theorem committedDraw_admitHead_sp {p : Part} {rest : List StartEntry} (h : p.power.startQueue = .sp :: rest)
    (hr : p.power.spRail = false) : (p.admitHead.committedDraw : Int) = p.committedDraw + p.startDelta .sp := by
  have hdraw : spDraw p.admitHead.power = p.power.spProfile.sUp := by
    rw [admitHead_sp h]
    exact spDraw_of_starting rfl rfl rfl
  have hbay : ∀ i, p.admitHead.bay i = p.bay i := fun i => by rw [admitHead_sp h]; rfl
  rw [committedDraw_eq_sum, committedDraw_eq_sum, hdraw, spDraw_of_rail_off hr]
  simp [hbay, startDelta]

/-- After an admission the committed draw is at most the budget in force: it is the draw before it and the increase that the
test has judged. -/
theorem committedDraw_admitHead_le {p : Part} {e : StartEntry} {rest : List StartEntry}
    (h : p.power.startQueue = e :: rest) (ha : p.admits = true)
    (hbay : ∀ b, e = .bay b → (p.bay b).power = .waiting ∧ (p.bay b).waitingFrom.isSome = true)
    (hsp : e = .sp → p.power.spRail = false) : p.admitHead.committedDraw ≤ p.bEff := by
  obtain ⟨-, hfits⟩ := (admits_iff h).1 ha
  have hdraw : (p.admitHead.committedDraw : Int) = p.committedDraw + p.startDelta e := by
    cases e with
    | bay b =>
      obtain ⟨hp, hw⟩ := hbay b rfl
      exact committedDraw_admitHead_bay h hp hw
    | sp => exact committedDraw_admitHead_sp h (hsp rfl)
  omega

end Part

/-! ## The command -/

theorem exec_startAdmission (s : State) : exec .startAdmission s = onCondition Part.admits Part.admitHead s := rfl

/-- A head that is not admitted stays, and nothing behind it is taken: the event has no effect of its own. -/
theorem gives_startAdmission_of_not_admits {s : State} (hh : s.part.held = false) (ha : s.part.admits = false) :
    Gives .startAdmission s { s.part with out := [] } := by
  have hbegin : s.part.begin.admits = false := ha
  exact gives_of_event (exec_startAdmission s) hh (by rw [hbegin]; rfl)

/-- Settles O29: an admission raises the committed draw by exactly the increase the test has judged, and a failed test leaves
the part as it stands. -/
theorem admissionTest : Obligations.AdmissionTest := by
  refine ⟨fun p e rest h => ⟨?_, ?_, ?_, Part.admits_iff h, fun ha hbay hsp => ?_⟩,
    fun s hh ha => gives_startAdmission_of_not_admits hh ha⟩
  · rintro rfl
    rfl
  · rintro b rfl hw
    exact Part.startDelta_bay_of_off hw
  · rintro b f rfl hp hw hf
    rw [Part.startDelta_bay_of_waiting hp (by simp [hw]), bayDraw_of_waiting_standby hp hw hf]
  · exact ⟨Part.admitHead_startQueue h, Part.admitHead_bEff p, Part.committedDraw_admitHead_le h ha hbay hsp⟩

end Sys2Proof.Machine
end

section
/-! PROOFS. Repeating alarms (O44, R171): an expired alarm's action leaves the alarm list and the counter as they were, the
step count (v − t) / I + 1 is the smallest that puts the alarm after the counter v, and the alarm is set again at it or dropped. -/

namespace Sys2Proof.Machine

open Sys2Proof

/-! ## The first time after the counter -/

/-- The steps of length `i` that a time `t` needs to pass `v` (R171). -/
def stepsPast (t i v : Nat) : Nat := (v - t) / i + 1

theorem stepsPast_pos (t i v : Nat) : 1 ≤ stepsPast t i v := Nat.le_add_left 1 _

theorem lt_add_stepsPast_mul {t i v : Nat} (hi : 0 < i) : v < t + stepsPast t i v * i := by
  have hrem : v - t < ((v - t) / i + 1) * i := by simpa [Nat.mul_comm] using Nat.lt_mul_div_succ (v - t) hi
  unfold stepsPast
  omega

/-- No smaller number of steps passes `v`: `j` steps that do are more than the whole steps within `v - t`. -/
theorem stepsPast_le {t i v j : Nat} (hi : 0 < i) (ht : t ≤ v) (hj : v < t + j * i) : stepsPast t i v ≤ j := by
  have hdiv : (v - t) / i < j := (Nat.div_lt_iff_lt_mul hi).2 (by omega)
  exact hdiv

namespace Part

/-! ## What an expired alarm's action leaves (R170) -/

@[simp] theorem seekNext_clock (p : Part) : p.seekNext.clock = p.clock := rfl

@[simp] theorem requestStarts_clock (p : Part) (l : List (Fin 4)) : (p.requestStarts l).clock = p.clock := by
  unfold requestStarts
  induction l generalizing p with
  | nil => rfl
  | cons b l ih => simp [ih]

@[simp] theorem hold_clock (p : Part) (e : HeldEvent) : (p.hold e).clock = p.clock := rfl

@[simp] theorem woken_clock (p : Part) : p.woken.clock = p.clock := by
  simp only [woken]
  split <;> simp

@[simp] theorem enterWaking_clock (p : Part) : p.enterWaking.clock = p.clock := by simp [enterWaking]

/-- A wake event leaves the box clock in every box state. -/
@[simp] theorem wakeEvent_clock (p : Part) (k : ReasonKind) : (p.wakeEvent k).clock = p.clock := by
  cases hst : p.box.st with
  | none => simp [wakeEvent, hst]
  | some st =>
    cases st with
    | draining =>
      simp only [wakeEvent, hst]
      split <;> simp
    | run | sleep | dormant | waking => simp [wakeEvent, hst]

@[simp] theorem takeAlarm_clock (p : Part) (id : Fin 8) (spins : List (Fin 4)) :
    (p.takeAlarm id spins).clock = p.clock := by
  simp only [takeAlarm]
  split <;> simp

/-- The action of an expired alarm writes no more of the clock than the undelivered expiries. -/
theorem handAlarm_clock (p : Part) (a : Alarm) :
    ∃ us, (p.handAlarm a).clock = { p.clock with undelivered := us } := by
  unfold handAlarm
  split
  · split <;> exact ⟨_, rfl⟩
  · split
    · exact ⟨_, hold_clock p _⟩
    · exact ⟨_, takeAlarm_clock p a.id a.spins⟩

@[simp] theorem handAlarm_alarms (p : Part) (a : Alarm) : (p.handAlarm a).clock.alarms = p.clock.alarms := by
  obtain ⟨us, hclock⟩ := p.handAlarm_clock a
  rw [hclock]

@[simp] theorem handAlarm_counter (p : Part) (a : Alarm) : (p.handAlarm a).clock.counter = p.clock.counter := by
  obtain ⟨us, hclock⟩ := p.handAlarm_clock a
  rw [hclock]

/-! ## Setting an alarm again (R171) -/

theorem rearm_of_repeating {a : Alarm} (v : Nat) (hi : 0 < a.interval) :
    rearm a v = if a.time + stepsPast a.time a.interval v * a.interval ≤ 2 ^ 32 - 1
      then some { a with time := a.time + stepsPast a.time a.interval v * a.interval } else none :=
  if_neg hi.ne'

theorem rearm_of_fits {a : Alarm} {v : Nat} (hi : 0 < a.interval)
    (hfits : a.time + stepsPast a.time a.interval v * a.interval ≤ 2 ^ 32 - 1) :
    rearm a v = some { a with time := a.time + stepsPast a.time a.interval v * a.interval } := by
  rw [rearm_of_repeating v hi, if_pos hfits]

theorem rearm_of_past {a : Alarm} {v : Nat} (hi : 0 < a.interval)
    (hpast : 2 ^ 32 - 1 < a.time + stepsPast a.time a.interval v * a.interval) : rearm a v = none := by
  rw [rearm_of_repeating v hi, if_neg hpast.not_ge]

theorem expireHead_of_rearm_some {p : Part} {a b : Alarm} {l : List Alarm} (h : p.clock.alarms = a :: l)
    (hb : rearm a p.clock.counter = some b) :
    p.expireHead = ((p.setAlarms l).handAlarm a).setAlarms (insertAlarm b l) := by
  have hb' : rearm a ((p.setAlarms l).handAlarm a).clock.counter = some b := by rwa [handAlarm_counter]
  have hl : ((p.setAlarms l).handAlarm a).clock.alarms = l := handAlarm_alarms _ a
  unfold setAlarms at *
  simp only [expireHead, h, hb', hl]

theorem expireHead_of_rearm_none {p : Part} {a : Alarm} {l : List Alarm} (h : p.clock.alarms = a :: l)
    (hb : rearm a p.clock.counter = none) : p.expireHead = (p.setAlarms l).handAlarm a := by
  have hb' : rearm a ((p.setAlarms l).handAlarm a).clock.counter = none := by rwa [handAlarm_counter]
  unfold setAlarms at *
  simp only [expireHead, h, hb']

end Part

/-- Settles O44: the smallest step count is `stepsPast`, and at a saturated counter its time is past the counter's range. -/
theorem repeatingAlarmSetAgain : Obligations.RepeatingAlarmSetAgain := by
  intro p a l h hdue hi v acted
  have hafter : v < a.time + stepsPast a.time a.interval v * a.interval := lt_add_stepsPast_mul hi
  have hdropped (hpast : 2 ^ 32 - 1 < a.time + stepsPast a.time a.interval v * a.interval) : p.expireHead = acted :=
    Part.expireHead_of_rearm_none h (Part.rearm_of_past hi hpast)
  refine ⟨Part.handAlarm_alarms _ a, Part.handAlarm_counter _ a, fun hsat => hdropped (hsat.trans_lt hafter),
    stepsPast a.time a.interval v, stepsPast_pos _ _ _, hafter, fun j _ hj => stepsPast_le hi hdue hj, rfl,
    fun hfits => ?_, hdropped⟩
  exact Part.expireHead_of_rearm_some h (Part.rearm_of_fits hi hfits)

end Sys2Proof.Machine
end

section
/-! PROOFS. The status-code outputs (O60, R201): the code shown is the one the ranks ask for in order, every event's end puts
it on the outputs, and a command that ends no event writes no more than the box clock, on which no rank depends. -/

namespace Sys2Proof.Machine

open Sys2Proof

namespace Part

/-! ## The code and the ranks -/

theorem any_fault_iff (p : Part) :
    (allBays.any fun b => (p.bay b).power == .fault) = true ↔ ∃ b, (p.bay b).power = .fault := by
  simp [mem_allBays]

/-- The status code's tests, asked in turn, are the ranks from the highest down. -/
theorem showsHighestRank_of_codeNow {p : Part} (h : p.statusCode = p.codeNow) : p.ShowsHighestRank := by
  rw [ShowsHighestRank, h]
  refine ⟨fun hheld => ?held, fun hheld => ⟨fun hno => ?noResume, fun hno => ⟨fun hfault => ?fault, fun hfault => ?_⟩⟩⟩
  case held => simp [codeNow, hheld]
  case noResume => simp [codeNow, hheld, hno]
  case fault => simp [codeNow, hheld, hno, p.any_fault_iff.2 hfault]
  have hany : (allBays.any fun b => (p.bay b).power == .fault) = false :=
    Bool.eq_false_iff.2 (mt p.any_fault_iff.1 (not_exists.2 hfault))
  refine ⟨fun hbad => ?cfgBad, fun hbad => ⟨fun hlow => ?lowSupply, fun hlow => ⟨fun hmode => ?service, fun hmode => ?box⟩⟩⟩
  case cfgBad => simp [codeNow, hheld, hno, hany, hbad]
  case lowSupply => simp [codeNow, hheld, hno, hany, hbad, hlow]
  case service => simp [codeNow, hheld, hno, hany, hbad, hlow, service, hmode]
  case box =>
    have hcode : p.codeNow = boxCode p.box.st := by simp [codeNow, hheld, hno, hany, hbad, hlow, service, hmode]
    exact hcode.trans rfl

@[simp] theorem codeNow_closeBatch (p : Part) : p.closeBatch.codeNow = p.codeNow := by simp [codeNow, service]

@[simp] theorem codeNow_finish (p : Part) : p.finish.codeNow = p.codeNow := by simp [codeNow, service]

@[simp] theorem finish_statusCode (p : Part) : p.finish.statusCode = p.codeNow := p.codeNow_closeBatch

theorem finish_showsHighestRank (p : Part) : p.finish.ShowsHighestRank := showsHighestRank_of_codeNow (by simp)

/-- No rank depends on the box clock. -/
theorem showsHighestRank_setClock (p : Part) (k : Clock) :
    ({ p with clock := k } : Part).ShowsHighestRank ↔ p.ShowsHighestRank := Iff.rfl

/-! ## How a command leaves the part -/

/-- How a command leaves the part `p`: at the end of an event, or with at most its box clock written. -/
inductive EndsEvent (p : Part) : Part → Prop
  | finish (r : Part) : EndsEvent p r.finish
  | setClock (k : Clock) : EndsEvent p { p with clock := k }

theorem EndsEvent.refl (p : Part) : EndsEvent p p := .setClock p.clock

theorem EndsEvent.showsHighestRank {p q : Part} (h : EndsEvent p q) (hp : p.ShowsHighestRank) : q.ShowsHighestRank := by
  cases h with
  | finish r => exact r.finish_showsHighestRank
  | setClock k => exact (p.showsHighestRank_setClock k).2 hp

/-- A held main domain takes no part in its events (R195). -/
theorem event_endsEvent (f : Part → Part) (p : Part) : EndsEvent p (p.event f) := by
  cases hh : p.held with
  | true => rw [event_of_held hh]; exact .refl p
  | false => rw [event_of_running hh]; exact .finish _

theorem quietEvent_endsEvent (f : Part → Part) (p : Part) : EndsEvent p (p.quietEvent f) := by
  cases hh : p.held with
  | true => rw [quietEvent_of_held hh]; exact .refl p
  | false => rw [quietEvent_of_running hh]; exact .finish _

theorem clockEvent_endsEvent (f : Part → Part) (p : Part) : EndsEvent p (p.clockEvent f) := by
  unfold clockEvent
  split
  · exact .finish _
  · exact event_endsEvent f p

theorem backupSupplyLoss_endsEvent (p : Part) :
    EndsEvent p (if p.held then { p with clock := { supplied := false } } else p) := by
  split
  · exact .setClock _
  · exact .refl p

theorem backupSupplyReturn_endsEvent (p : Part) : EndsEvent p (if p.clock.supplied then p else p.clockRestored) := by
  split
  · exact .refl p
  · exact .setClock _

end Part

/-! ## Every command -/

/-- What every command can do to the part: an event in one of the three forms, a reset, or the supply of the box clock. -/
theorem exec_endsEvent (c : Instr) (s : State) :
    ∃ q : Part, exec c s = .next { s with part := q } ∧ Part.EndsEvent s.part q := by
  cases c with
  | boxClockTick | alarmExpiry => exact ⟨_, rfl, Part.clockEvent_endsEvent _ _⟩
  | powerOnReset | porLineAsserted => exact ⟨_, rfl, .finish _⟩
  | backupSupplyLoss => exact ⟨_, rfl, Part.backupSupplyLoss_endsEvent _⟩
  | backupDomainSupplyReturn => exact ⟨_, rfl, Part.backupSupplyReturn_endsEvent _⟩
  | windowDefine | windowInfo | bayInfo | wakeEntrySet | stationSet | alarmClear | status | noticeClear | configSave
  | configLoad | mpMode | unknownKindRecord | mpOverrun | mpShortFrame | mpRead | mpHoldTimeout | setupWordWrite
  | ringStart | submissionTailNotice | interruptMask | dpBadUnit | dpDiscardData | dpCompletionSent | buttonPress
  | saveReadbackEnd => exact ⟨_, rfl, Part.quietEvent_endsEvent _ _⟩
  | _ => exact ⟨_, rfl, Part.event_endsEvent _ _⟩

theorem step_showsHighestRank {s t : State} (hs : s.part.ShowsHighestRank) (h : step s = .next t) :
    t.part.ShowsHighestRank := by
  unfold step at h
  split at h
  · cases h
    exact hs
  next c rest _ =>
    obtain ⟨q, hexec, hends⟩ := exec_endsEvent c { s with pending := rest }
    cases hexec.symm.trans h
    exact hends.showsHighestRank hs

theorem reset_showsHighestRank : State.reset.part.ShowsHighestRank := Part.showsHighestRank_of_codeNow (by decide)

/-- Settles O60: every event's end sets the outputs, and a command that ends no event writes only what no rank reads. -/
theorem statusCodeShowsHighestRank : Obligations.StatusCodeShowsHighestRank :=
  ⟨Part.finish_showsHighestRank, fun _ _ => step_showsHighestRank, reset_showsHighestRank⟩

end Sys2Proof.Machine
end

section
/-! PROOFS. What every step keeps (O2 to O6): one relation, `Keeps c r p`, says that each of the six invariants of Safety.lean that
holds of `r` holds of `p`. Every function of the model that writes the part has one lemma, which takes `Keeps c r p` to `Keeps c r` of
what the function makes of `p`; a proof follows the function's own definition. -/

set_option Elab.async false

namespace Sys2Proof.Machine

open Sys2Proof

/-! ## The invariants by the fields they read -/

/-- The window and region of a log entry, by which the log's entries are distinct (R93). -/
def LogEntry.key (e : LogEntry) : Fin 16 × Nat := (e.window, e.region)

/-- `y` is `x` as far as the invariants read a bay: no longer queue, the same power state and presence, no new WRITE in flight. -/
structure BayLike (x y : Bay) : Prop where
  queue : y.queue.length ≤ x.queue.length
  power : y.power = x.power
  present : y.present = x.present
  flight : Part.writeInFlight y = true → Part.writeInFlight x = true

theorem BayLike.refl (x : Bay) : BayLike x x := ⟨le_rfl, rfl, rfl, id⟩

/-- A bay in which neither queue, power state, presence nor what is in flight has changed. -/
theorem BayLike.of_eq {x y : Bay} (hq : y.queue = x.queue) (hp : y.power = x.power) (hn : y.present = x.present)
    (hf : y.inFlight = x.inFlight) : BayLike x y :=
  ⟨by rw [hq], hp, hn, by simp [Part.writeInFlight, hf]⟩

/-- A bay in which the queue has become no longer and nothing else has changed. -/
theorem BayLike.of_queue {x : Bay} {l : List BayOp} (hl : l.length ≤ x.queue.length) : BayLike x { x with queue := l } :=
  ⟨hl, rfl, rfl, id⟩

namespace Part

theorem writeInFlight_of_not_op {x : Bay} (h : ∀ o, x.inFlight ≠ .op o) : writeInFlight x = false := by
  unfold writeInFlight
  split
  · rename_i o ho
    exact absurd ho (h o)
  · rfl

section

variable {p q : Part}

theorem PoolInv.of_eq (h : p.PoolInv) (hpool : q.router.pool.length = p.router.pool.length := by simp)
    (hdata : q.router.data = p.router.data := by simp) : q.PoolInv := by
  unfold PoolInv at h ⊢
  rwa [hpool, hdata]

theorem AlarmInv.of_eq (h : p.AlarmInv) (hcounter : q.clock.counter = p.clock.counter := by simp)
    (halarms : q.clock.alarms = p.clock.alarms := by simp) : q.AlarmInv := by
  unfold AlarmInv at h ⊢
  rwa [hcounter, halarms]

/-- The log's invariant, the following of the high mark claimed where `mark` holds: between a change of the log and the mark's
following it, the rest holds alone. -/
def LogInvIf (mark : Prop) (p : Part) : Prop :=
  p.engine.log.length ≤ Config.logLimit
    ∧ (p.engine.log.map LogEntry.key).Nodup
    ∧ (mark → p.engine.above = decide (Config.highMark ≤ p.engine.log.length))
    ∧ p.engine.repairs.length ≤ Config.repairLimit

theorem LogInv.logInvIf {mark : Prop} (h : p.LogInv) : p.LogInvIf mark := by
  obtain ⟨hlen, hdis, hmark, hrep⟩ := h
  exact ⟨hlen, hdis, fun _ => hmark, hrep⟩

theorem LogInvIf.logInv (h : p.LogInvIf True) : p.LogInv := by
  obtain ⟨hlen, hdis, hmark, hrep⟩ := h
  exact ⟨hlen, hdis, hmark trivial, hrep⟩

theorem LogInvIf.of_keys {mark : Prop} (h : p.LogInvIf mark)
    (hkeys : q.engine.log.map LogEntry.key = p.engine.log.map LogEntry.key := by simp)
    (habove : mark → q.engine.above = p.engine.above := by simp)
    (hrepairs : q.engine.repairs.length ≤ p.engine.repairs.length := by simp) : q.LogInvIf mark := by
  obtain ⟨hlen, hdis, hmark, hrep⟩ := h
  have hl : q.engine.log.length = p.engine.log.length := by simpa using congrArg List.length hkeys
  exact ⟨by omega, hkeys ▸ hdis, fun hm => by rw [habove hm, hl, hmark hm], by omega⟩

theorem QueueInv.of_le (h : p.QueueInv) (hbays : ∀ b, (q.bay b).queue.length ≤ (p.bay b).queue.length := by simp) :
    q.QueueInv := fun b => (hbays b).trans (h b)

/-- The start queue and the bays agree: no entry twice, a bay's entry exactly while it is WAITING; a bay is ABSENT exactly when its
presence is (R80). -/
def BaysInv (p : Part) : Prop :=
  p.power.startQueue.Nodup
    ∧ (∀ b, StartEntry.bay b ∈ p.power.startQueue ↔ (p.bay b).power = .waiting)
    ∧ ∀ b, (p.bay b).present = false ↔ (p.bay b).power = .absent

/-- The start queue and the SP rail agree with the box state (R80, R90). -/
def SpInv (p : Part) : Prop :=
  (StartEntry.sp ∈ p.power.startQueue ↔ p.box.st = some .waking ∧ p.power.spRail = false)
    ∧ (p.power.spRail = true → p.box.st = some .run ∨ p.box.st = some .draining ∨ p.box.st = some .waking)

theorem startInv_iff : p.StartInv ↔ p.BaysInv ∧ p.SpInv := by
  unfold StartInv BaysInv SpInv
  tauto

theorem BaysInv.of_eq (h : p.BaysInv) (hqueue : q.power.startQueue = p.power.startQueue := by simp)
    (hpower : ∀ b, (q.bay b).power = (p.bay b).power := by simp)
    (hpresent : ∀ b, (q.bay b).present = (p.bay b).present := by simp) : q.BaysInv := by
  unfold BaysInv at h ⊢
  simpa only [hqueue, hpower, hpresent] using h

/-- One bay alone has changed, and of the entries no other's has. -/
theorem BaysInv.of_bay (h : p.BaysInv) (b : Fin 4) (hother : ∀ i, b ≠ i → q.bay i = p.bay i)
    (hnodup : p.power.startQueue.Nodup → q.power.startQueue.Nodup)
    (hentries : ∀ i, b ≠ i → (StartEntry.bay i ∈ q.power.startQueue ↔ StartEntry.bay i ∈ p.power.startQueue))
    (hentry : StartEntry.bay b ∈ q.power.startQueue ↔ (q.bay b).power = .waiting)
    (hpresent : (q.bay b).present = false ↔ (q.bay b).power = .absent) : q.BaysInv := by
  obtain ⟨hn, hb, hp⟩ := h
  refine ⟨hnodup hn, fun i => ?_, fun i => ?_⟩
  · by_cases hi : b = i
    · exact hi ▸ hentry
    · rw [hentries i hi, hother i hi]
      exact hb i
  · by_cases hi : b = i
    · exact hi ▸ hpresent
    · rw [hother i hi]
      exact hp i

theorem SpInv.of_eq (h : p.SpInv) (hsp : StartEntry.sp ∈ q.power.startQueue ↔ StartEntry.sp ∈ p.power.startQueue := by simp)
    (hrail : q.power.spRail = p.power.spRail := by simp) (hst : q.box.st = p.box.st := by simp) : q.SpInv := by
  unfold SpInv at h ⊢
  rwa [hsp, hrail, hst]

theorem ReadOnlyInv.of_le (h : p.ReadOnlyInv) (hmode : q.loader.mode = p.loader.mode := by simp)
    (hflight : ∀ b, writeInFlight (q.bay b) = true → writeInFlight (p.bay b) = true := by simp)
    (hout : ∀ o ∈ q.out, writesDrive o = true → o ∈ p.out := by simp +contextual) : q.ReadOnlyInv := by
  intro hro
  have hro' : p.readOnly = true := by simpa [readOnly, hmode] using hro
  obtain ⟨hb, ho⟩ := h hro'
  refine ⟨fun b => ?_, fun o hm => ?_⟩
  · by_contra hc
    have := hflight b (by simpa using hc)
    simp [hb b] at this
  · by_contra hc
    have hw : writesDrive o = true := by simpa using hc
    simp [ho o (hout o hm hw)] at hw

end

/-! ## The relation -/

/-- What start requests alone can have done to the bays' power states, the SP's entry, the SP rail and the box state. -/
structure Steady (r p : Part) : Prop where
  power : ∀ b, (r.bay b).power ≠ .off → (r.bay b).power ≠ .standby → (p.bay b).power = (r.bay b).power
  sp : StartEntry.sp ∈ p.power.startQueue ↔ StartEntry.sp ∈ r.power.startQueue
  rail : p.power.spRail = r.power.spRail
  st : p.box.st = r.box.st

/-- What is claimed beside the invariants that hold inside an event too: that the high mark follows the log; that the SP's entry and
rail agree with the box state; that the alarms lie after the counter; and that nothing but start requests has moved what `Steady`
names. Some functions break one of the first three and mend it before they end. -/
structure Claims where
  mark : Prop
  sp : Prop
  alarm : Prop
  steady : Prop

/-- Each of the six invariants that holds of `r` holds of `p`, as far as it is claimed. -/
structure Keeps (c : Claims) (r p : Part) : Prop where
  pool : r.PoolInv → p.PoolInv
  log : r.LogInv → p.LogInvIf c.mark
  queue : r.QueueInv → p.QueueInv
  readOnly : r.ReadOnlyInv → p.ReadOnlyInv
  bays : r.BaysInv → p.BaysInv
  sp : c.sp → r.BaysInv → r.SpInv → p.SpInv
  alarm : c.alarm → r.AlarmInv → p.AlarmInv
  steady : c.steady → Steady r p

theorem Keeps.refl (c : Claims) (p : Part) : Keeps c p p where
  pool := id
  log i := i.logInvIf
  queue := id
  readOnly := id
  bays := id
  sp _ _ := id
  alarm _ := id
  steady _ := ⟨fun _ _ _ => rfl, .rfl, rfl, rfl⟩

section

variable {c : Claims} {r p q : Part}

/-- The SP's invariant is set aside. -/
theorem Keeps.butSp (h : Keeps c r p) : Keeps { c with sp := False } r p := { h with sp := False.elim }

/-- The SP's invariant holds again. -/
theorem Keeps.andSp (h : Keeps { c with sp := False } r p) (hs : c.sp → r.BaysInv → r.SpInv → p.SpInv) : Keeps c r p :=
  { h with sp := hs }

/-- The alarm list's invariant is set aside. -/
theorem Keeps.butAlarm (h : Keeps c r p) : Keeps { c with alarm := False } r p := { h with alarm := False.elim }

/-- The alarm list's invariant holds again. -/
theorem Keeps.andAlarm (h : Keeps { c with alarm := False } r p) (ha : c.alarm → r.AlarmInv → p.AlarmInv) : Keeps c r p :=
  { h with alarm := ha }

/-- The steadiness of the bays is given up. -/
theorem Keeps.butSteady (h : Keeps c r p) : Keeps { c with steady := False } r p := { h with steady := False.elim }

/-- The high mark's following is set aside. -/
theorem Keeps.butMark (h : Keeps c r p) : Keeps { c with mark := False } r p :=
  { h with log := fun i => ⟨(h.log i).1, (h.log i).2.1, False.elim, (h.log i).2.2.2⟩ }

/-- The high mark follows the log again. -/
theorem Keeps.andMark (h : Keeps { c with mark := False } r p)
    (hm : p.engine.above = decide (Config.highMark ≤ p.engine.log.length)) : Keeps c r p :=
  { h with log := fun i => ⟨(h.log i).1, (h.log i).2.1, fun _ => hm, (h.log i).2.2.2⟩ }

/-- A part in which nothing that the invariants read has changed for the worse. -/
theorem Keeps.same (h : Keeps c r p) (hpool : q.router.pool.length = p.router.pool.length := by simp)
    (hdata : q.router.data = p.router.data := by simp) (hcounter : q.clock.counter = p.clock.counter := by simp)
    (halarms : q.clock.alarms = p.clock.alarms := by simp)
    (hkeys : q.engine.log.map LogEntry.key = p.engine.log.map LogEntry.key := by simp)
    (habove : c.mark → q.engine.above = p.engine.above := by simp)
    (hrepairs : q.engine.repairs.length ≤ p.engine.repairs.length := by simp)
    (hqueue : q.power.startQueue = p.power.startQueue := by simp)
    (hrail : c.sp ∨ c.steady → q.power.spRail = p.power.spRail := by simp)
    (hst : c.sp ∨ c.steady → q.box.st = p.box.st := by simp) (hmode : q.loader.mode = p.loader.mode := by simp)
    (hout : ∀ o ∈ q.out, writesDrive o = true → o ∈ p.out := by simp +contextual)
    (hbays : ∀ b, BayLike (p.bay b) (q.bay b) := by simp [Part.bay, BayLike.refl]) : Keeps c r q where
  pool i := (h.pool i).of_eq hpool hdata
  alarm hc i := (h.alarm hc i).of_eq hcounter halarms
  steady hc :=
    { power := fun b h1 h2 => (hbays b).power.trans ((h.steady hc).power b h1 h2)
      sp := by rw [hqueue, (h.steady hc).sp], rail := (hrail (.inr hc)).trans (h.steady hc).rail
      st := (hst (.inr hc)).trans (h.steady hc).st }
  log i := (h.log i).of_keys hkeys habove hrepairs
  queue i := (h.queue i).of_le fun b => (hbays b).queue
  bays i := (h.bays i).of_eq hqueue (fun b => (hbays b).power) fun b => (hbays b).present
  sp hc j i := (h.sp hc j i).of_eq (by rw [hqueue]) (hrail (.inl hc)) (hst (.inl hc))
  readOnly i := (h.readOnly i).of_le hmode (fun b => (hbays b).flight) hout

/-- A property that each step of a fold keeps is kept by the fold. -/
theorem Keeps.foldl {α : Type} {f : Part → α → Part} (hf : ∀ q a, Keeps c r q → Keeps c r (f q a)) (h : Keeps c r p) (l : List α) :
    Keeps c r (l.foldl f p) := List.foldlRecOn l f h fun q hq a _ => hf q a hq

theorem Keeps.ite {b : Prop} [Decidable b] (hp : b → Keeps c r p) (hq : ¬b → Keeps c r q) : Keeps c r (if b then p else q) := by
  split
  · exact hp ‹_›
  · exact hq ‹_›

end

end Part

end Sys2Proof.Machine
end

section
/-! PROOFS. What the shared operations, the answers and the starts keep. -/

set_option Elab.async false

namespace Sys2Proof.Machine

open Sys2Proof

namespace Part

namespace Keeps

variable {c : Claims} {r p : Part} (h : Keeps c r p)
include h

/-! ## Updates of one record -/

theorem modBay {b : Fin 4} {f : Bay → Bay} (hf : BayLike (p.bay b) (f (p.bay b))) : Keeps c r (p.modBay b f) := by
  refine h.same (hbays := fun i => ?_)
  by_cases hi : b = i
  · subst hi
    simpa using hf
  · simpa [hi] using BayLike.refl _

theorem modBays {f : Bay → Bay} (hf : ∀ x, BayLike x (f x)) : Keeps c r (p.modBays f) := by
  rw [modBays_eq]
  exact h.same (hbays := fun i => by simpa [bay] using hf _)

theorem modWindow {w : Fin 16} {f : Window → Window} : Keeps c r (p.modWindow w f) := h.same

theorem modRequest {id : Nat} {f : Request → Request} : Keeps c r (p.modRequest id f) := h.same

theorem modFrag {id k : Nat} {f : Fragment → Fragment} : Keeps c r (p.modFrag id k f) := h.modRequest

theorem setRequests {l : List Request} : Keeps c r { p with router := { p.router with requests := l } } := h.same

theorem setDropped {l : List Request} : Keeps c r { p with router := { p.router with dropped := l } } := h.same

theorem setChunk {x : Option Chunk} : Keeps c r { p with engine := { p.engine with chunk := x } } := h.same

theorem markEnded : Keeps c r p.markEnded := h.same

theorem emit {o : Output} (ho : writesDrive o = false) : Keeps c r (p.emit o) := by
  refine h.same (hout := fun x hx hw => ?_)
  rcases List.mem_append.1 hx with hx | hx
  · exact hx
  · simp_all

theorem releaseSlots {x : Holder} {keep : List Nat} : Keeps c r (p.releaseSlots x keep) :=
  h.same (hpool := freeSlotsOf_length _ _ _ _)

theorem leaveSlotWait {w : Waiter} : Keeps c r (p.leaveSlotWait w) := by
  unfold Part.leaveSlotWait
  exact h.same

theorem leaveRooms {w : Waiter} : Keeps c r (p.leaveRooms w) := h.modBays fun _ => .of_eq rfl rfl rfl rfl

theorem joinRoom {b : Fin 4} {w : Waiter} : Keeps c r (p.joinRoom b w) :=
  .ite (fun _ => h) fun _ => h.leaveRooms.modBay (.of_eq rfl rfl rfl rfl)

/-! ## Notices and answers -/

theorem raise {k : Notice} : Keeps c r (p.raise k) := by
  obtain ⟨out, hout, heq⟩ := raise_cases p k
  rw [heq]
  refine h.same (hout := fun o ho hw => ?_)
  rcases hout with rfl | rfl
  · exact ho
  · rcases List.mem_append.1 ho with ho | ho
    · exact ho
    · simp [writesDrive, List.mem_singleton.1 ho] at hw

theorem handPp {x : Completion} : Keeps c r (p.handPp x) := .ite (fun _ => h) fun _ => h.same

theorem handDp {a : Option (List Byte)} {x : Completion} : Keeps c r (p.handDp a x) := .ite (fun _ => h.same) fun _ => h

theorem sendReply {n : Nat} : Keeps c r (p.sendReply n) := by
  unfold Part.sendReply
  split
  · exact h
  · next x _ =>
    have he : Keeps c r (p.emit (.mpBytes (((replyFrame x).drop p.mp.readPos).take n))) := h.emit rfl
    exact .ite (fun _ => he.same) fun _ => he.same

theorem placeReply {st : Status} {a : List Byte} {first : Nat} : Keeps c r (p.placeReply st a first) := by
  refine .ite (fun _ => ?_) fun _ => h
  dsimp only
  split
  · exact h.same
  · exact sendReply h.same

theorem answerFrom {first : Nat} {a : Answerer} {st : Status} {ans : Answer} : Keeps c r (p.answerFrom first a st ans) := by
  cases a with
  | void => exact h
  | mp => exact h.placeReply
  | dp tag => exact h.handDp
  | pp tag addr len => exact handPp (.ite (fun _ => h.emit rfl) fun _ => h)

theorem answer {a : Answerer} {st : Status} {ans : Answer} : Keeps c r (p.answer a st ans) := h.answerFrom

theorem reply {a : Answerer} {st : Status} : Keeps c r (p.reply a st) := h.answer

/-! ## Starts -/

theorem requestStart {b : Fin 4} : Keeps c r (p.requestStart b) := by
  obtain heq | ⟨-, -, heq⟩ | ⟨f, -, hpow, heq⟩ := requestStart_cases p b
  · rwa [heq]
  · rw [heq]
    exact h.modBay (.of_eq rfl rfl rfl rfl)
  · rw [heq]
    have hw : (p.bay b).power ≠ .waiting ∧ (p.bay b).power ≠ .absent := by
      rcases hpow with ⟨hp, -⟩ | ⟨hp, -⟩ <;> simp [hp]
    have hne : ∀ i, b ≠ i → ({ p with bays := p.bays.set b { p.bay b with power := .waiting, waitingFrom := some f } } : Part).bay i
        = p.bay i := fun i hi => bay_modBay_of_ne p hi fun _ => _
    refine { pool := fun i => (h.pool i).of_eq, alarm := fun hc i => (h.alarm hc i).of_eq, log := fun i => (h.log i).of_keys
             queue := fun i => (h.queue i).of_le fun j => ?_, sp := fun hc j i => (h.sp hc j i).of_eq
             readOnly := fun i => (h.readOnly i).of_le (hflight := fun j hj => ?_), bays := fun i => ?_
             steady := fun hc => { power := fun j h1 h2 => ?_, sp := by simpa using (h.steady hc).sp, rail := (h.steady hc).rail
                                   st := (h.steady hc).st } }
    · by_cases hj : b = j
      · subst hj; simp [bay]
      · exact le_of_eq (congrArg (fun x => x.queue.length) (hne j hj))
    · by_cases hj' : b = j
      · subst hj'; simpa [bay, writeInFlight] using hj
      · exact (congrArg writeInFlight (hne j hj')).symm.trans hj
    · have hi := h.bays i
      obtain ⟨-, hbay, hpres⟩ := h.bays i
      have hfresh : StartEntry.bay b ∉ p.power.startQueue := fun hm => hw.1 ((hbay b).1 hm)
      refine hi.of_bay b hne (fun hn => List.nodup_append.2 ⟨hn, by simp, fun x hx y hy => ?_⟩)
        (fun j hj => by simp [Ne.symm hj]) (by simp [bay]) ?_
      · rw [List.mem_singleton.1 hy]
        rintro rfl
        exact hfresh hx
      · have : (p.bay b).present ≠ false := fun hc => hw.2 ((hpres b).1 hc)
        simpa [bay] using this
    · by_cases hj : b = j
      · subst hj
        have hs := (h.steady hc).power b h1 h2
        rcases hpow with ⟨hp, -⟩ | ⟨hp, -⟩ <;> simp_all
      · exact (congrArg Bay.power (hne j hj)).trans ((h.steady hc).power j h1 h2)

theorem requestStarts {l : List (Fin 4)} : Keeps c r (p.requestStarts l) := h.foldl (fun _ _ hq => hq.requestStart) l

theorem wakeBay {b : Fin 4} : Keeps c r (p.wakeBay b) := .ite (fun _ => h) fun _ => h.requestStart

theorem recordError {b : Fin 4} {k : ErrorKind} {block : Option Nat} : Keeps c r (p.recordError b k block) :=
  h.modBay (.of_eq rfl rfl rfl rfl)

theorem reportClass {b : Fin 4} {a : ActClass} : Keeps c r (p.reportClass b a) := by
  refine h.modBay ?_
  split
  · exact .of_eq rfl rfl rfl rfl
  · exact .refl _

/-- An operation joins a queue that has room. -/
theorem appendOp {b : Fin 4} {o : BayOp} (hroom : (p.bay b).queue.length < Config.queueLimit) :
    Keeps c r (p.appendOp b o) := by
  refine requestStart ?_
  have hother : ∀ {α : Type} (g : Bay → α), (∀ x l, g { x with queue := l } = g x) →
      ∀ i, g ((p.modBay b fun x => { x with queue := x.queue ++ [o] }).bay i) = g (p.bay i) := by
    intro α g hg i
    by_cases hi : b = i
    · subst hi; simp [hg]
    · simp [hi]
  refine { pool := fun i => (h.pool i).of_eq, alarm := fun hc i => (h.alarm hc i).of_eq, log := fun i => (h.log i).of_keys
           queue := fun i j => ?_
           bays := fun i => (h.bays i).of_eq (hpower := hother _ fun _ _ => rfl) (hpresent := hother _ fun _ _ => rfl)
           sp := fun hc j i => (h.sp hc j i).of_eq
           readOnly := fun i => (h.readOnly i).of_le (hflight := fun j => by rw [hother writeInFlight fun _ _ => rfl]; exact id)
           steady := fun hc => { h.steady hc with
             power := fun j h1 h2 => (hother Bay.power (fun _ _ => rfl) j).trans ((h.steady hc).power j h1 h2) } }
  by_cases hj : b = j
  · subst hj; simpa using hroom
  · simpa [hj] using h.queue i j

/-- The drive command of an operation that is no WRITE is put out, or of any outside READ_ONLY boot mode. -/
theorem issueOp {b : Fin 4} {o : BayOp} (ho : o.kind = .write → p.readOnly = true → r.ReadOnlyInv → False) :
    Keeps c r (p.issueOp b o) := by
  refine { pool := fun i => (h.pool i).of_eq, alarm := fun hc i => (h.alarm hc i).of_eq, log := fun i => (h.log i).of_keys
           queue := fun i => (h.queue i).of_le, bays := fun i => (h.bays i).of_eq
           sp := fun hc j i => (h.sp hc j i).of_eq, steady := fun hc => { h.steady hc with }
           readOnly := fun i hro => ⟨fun b => ?_, fun x hx => ?_⟩ }
  · exact (h.readOnly i hro).1 b
  · rcases List.mem_append.1 hx with hx | hx
    · exact (h.readOnly i hro).2 x hx
    · rw [List.mem_singleton.1 hx]
      cases hk : o.kind with
      | read => simp [driveCmdOf, hk, writesDrive]
      | flush => simp [driveCmdOf, hk, writesDrive]
      | write => exact (ho hk hro i).elim

/-- The slots' contents change, in canonical form. -/
theorem setData {d : List Host.Cell} (hd : memWf p.router.data → memWf d) :
    Keeps c r { p with router := { p.router with data := d } } where
  pool i := ⟨(h.pool i).1, hd (h.pool i).2⟩
  log i := (h.log i).of_keys
  queue i := (h.queue i).of_le fun _ => le_rfl
  readOnly i := (h.readOnly i).of_le rfl (fun _ => id) fun _ ho _ => ho
  bays i := (h.bays i).of_eq rfl (fun _ => rfl) fun _ => rfl
  sp hc j i := (h.sp hc j i).of_eq
  alarm hc i := (h.alarm hc i).of_eq
  steady hc := { h.steady hc with }

end Keeps

end Part

end Sys2Proof.Machine
end

section
/-! PROOFS. What the copy engine's records and chunks keep (chapters 5 and 6). -/

set_option Elab.async false

namespace Sys2Proof.Machine

open Sys2Proof

/-- The regions of an extent are distinct. -/
theorem touched_nodup (o n : Nat) : (touched o n).Nodup :=
  List.nodup_range.map fun _ _ hij => Nat.add_left_cancel hij

namespace Part

theorem length_of_hasRoom {p : Part} {b : Fin 4} {who : Waiter} (h : p.hasRoom b who = true) :
    (p.bay b).queue.length < Config.queueLimit := by
  simpa using (Bool.and_eq_true_iff.1 h).1

namespace Keeps

variable {c : Claims} {r p : Part} (h : Keeps c r p)
include h

/-! ## The log and the high mark (R93, R94) -/

theorem seekNext : Keeps c r p.seekNext := by
  unfold Part.seekNext
  exact h.same

/-- The log's entries are changed, their windows and regions kept. -/
theorem mapLog {f : LogEntry → LogEntry} (hf : ∀ e, (f e).key = e.key) : Keeps c r (p.setLog (p.engine.log.map f)) := by
  unfold setLog
  exact h.same (hkeys := by simp [Function.comp_def, hf])

theorem modEntry {w : Fin 16} {g : Nat} {f : LogEntry → LogEntry} (hf : ∀ e, (f e).key = e.key) :
    Keeps c r (p.modEntry w g f) := h.mapLog fun e => by split <;> simp [hf]

/-- Entries leave the log; whether the mark still follows it is open. -/
theorem filterLog {f : LogEntry → Bool} : Keeps { c with mark := False } r (p.setLog (p.engine.log.filter f)) := by
  unfold setLog
  have hb := h.butMark
  refine { pool := hb.pool, alarm := hb.alarm, queue := hb.queue, bays := hb.bays, sp := hb.sp, steady := fun hc => { hb.steady hc with }, readOnly := hb.readOnly
           log := fun i => ?_ }
  obtain ⟨hlen, hdis, -, hrep⟩ := hb.log i
  exact ⟨(List.length_filter_le _ _).trans hlen, hdis.sublist (List.filter_sublist.map _), False.elim, hrep⟩

theorem markStarts : Keeps c r p.markStarts := by
  refine .ite (fun _ => h) fun _ => ?_
  split
  · exact h
  · exact h.wakeBay.wakeBay

omit h in
/-- The mark follows the log, whatever it was before. -/
theorem followMark (h : Keeps { c with mark := False } r p) : Keeps c r p.followMark := by
  have hq : Keeps c r { p with engine := { p.engine with above := decide (Config.highMark ≤ p.engine.log.length) } } :=
    andMark (h.same (habove := False.elim)) rfl
  exact .ite (fun _ => hq.raise.markStarts) fun _ => hq

theorem tryLog {w : Fin 16} {gs : List Nat} {good : Side} {q : Part} (hgs : gs.Nodup) (hq : p.tryLog w gs good = some q) :
    Keeps c r q := by
  unfold Part.tryLog at hq
  split at hq
  · cases hq
    exact h
  split at hq
  case isFalse => cases hq
  next hroom =>
    have hfit : (gs.filter fun g => !p.logged w g).length ≤ Config.logLimit - p.engine.log.length := by
      simpa [logRoom] using hroom
    have hkeep : ∀ {f : LogEntry → LogEntry}, (∀ e, (f e).key = e.key) → Keeps { c with mark := False } r (p.setLog
        (p.engine.log.map f ++ (gs.filter fun g => !p.logged w g).map (p.newEntry w good))) := by
      intro f hf
      have hb := h.butMark
      refine { pool := hb.pool, alarm := hb.alarm, queue := hb.queue, bays := hb.bays, sp := hb.sp, steady := fun hc => { hb.steady hc with }, readOnly := hb.readOnly
               log := fun i => ?_ }
      obtain ⟨hlen, hdis, -, hrep⟩ := hb.log i
      refine ⟨by simp [setLog]; omega, ?_, False.elim, hrep⟩
      have hkeys : (p.engine.log.map f).map LogEntry.key = p.engine.log.map LogEntry.key := by simp [Function.comp_def, hf]
      show (List.map LogEntry.key (_ ++ _)).Nodup
      rw [List.map_append, hkeys, List.map_map]
      refine List.nodup_append.2 ⟨hdis, (hgs.filter _).map fun a b hab => congrArg Prod.snd hab, ?_⟩
      intro x hx y hy hxy
      subst hxy
      obtain ⟨e, he, rfl⟩ := List.mem_map.1 hx
      obtain ⟨g, hg, hge⟩ := List.mem_map.1 hy
      have hge' : (w, g) = (e.window, e.region) := hge
      have hlogged : p.logged w g = true := by
        refine List.any_eq_true.2 ⟨e, he, ?_⟩
        simp only [Prod.mk.injEq] at hge'
        simp [LogEntry.isFor, hge'.1, hge'.2]
      simp [hlogged] at hg
    cases hq
    refine .ite (fun _ => ?_) fun _ => ?_
    · exact followMark (hkeep fun e => by split <;> rfl)
    · exact (followMark (hkeep fun e => by split <;> rfl)).seekNext

theorem tellFlushes {w : Fin 16} {g : Nat} {note : Status} {stale : Option Side} {failing : Option Nat} :
    Keeps c r (p.tellFlushes w g note stale failing) := markEnded h.same

/-! ## Chunks abandoned and ended (R34, R106) -/

theorem modChunk {f : Chunk → Chunk} : Keeps c r (p.modChunk f) := by
  unfold Part.modChunk
  exact h.same

theorem abandonChunk : Keeps c r p.abandonChunk := by
  unfold Part.abandonChunk
  split
  · exact h
  · exact setChunk (h.leaveSlotWait.leaveRooms.modBays fun _ => .of_queue (List.length_filter_le _ _))

theorem endChunk : Keeps c r p.endChunk := by
  have hq : Keeps c r (p.releaseSlots .engine []) := h.releaseSlots
  unfold Part.endChunk
  exact hq.same

theorem stopChunk : Keeps c r p.stopChunk := by
  unfold Part.stopChunk
  split
  · exact h
  next x _ =>
    refine .ite (fun _ => h) fun _ => abandonChunk ?_
    cases x.kind with
    | resync => exact h.modEntry fun _ => rfl
    | repair => exact h
    | rebuild => exact h.modWindow
    | patrol => exact h.modWindow

/-! ## LOST marks (R95) -/

theorem withdrawChunk {w : Fin 16} : Keeps c r (p.withdrawChunk w) := by
  unfold Part.withdrawChunk
  split
  · exact h
  next x _ =>
    refine .ite (fun _ => h) fun _ => ?_
    cases x.kind with
    | resync => exact h.abandonChunk
    | repair => exact h.abandonChunk
    | rebuild => exact h
    | patrol => exact .ite (fun _ => h.leaveSlotWait) fun _ => h

theorem filterRepairs {f : RepairEntry → Bool} :
    Keeps c r { p with engine := { p.engine with repairs := p.engine.repairs.filter f } } :=
  h.same (hrepairs := List.length_filter_le _ _)

theorem markLost {w : Fin 16} {s : Side} : Keeps c r (p.markLost w s) := by
  refine .ite (fun _ => h) fun _ => followMark (raise (withdrawChunk (filterRepairs (markEnded (setRequests ?_)))))
  exact foldl (fun q e hq => hq.tellFlushes) (h.modWindow (w := w)).filterLog _

theorem logOrLose {w : Fin 16} {gs : List Nat} {good : Side} (hgs : gs.Nodup) : Keeps c r (p.logOrLose w gs good) := by
  unfold Part.logOrLose
  split
  · exact h.tryLog hgs ‹_›
  · exact h.markLost

/-! ## Repairs and rebuilds (R104, R110, R112) -/

theorem setRepairs {l : List RepairEntry} (hl : l.length ≤ p.engine.repairs.length) :
    Keeps c r { p with engine := { p.engine with repairs := l } } := h.same (hrepairs := hl)

theorem tryRepair {w : Fin 16} {s : Side} {o n : Nat} {q : Part} (hq : p.tryRepair w s o n = some q) : Keeps c r q := by
  unfold Part.tryRepair at hq
  dsimp only at hq
  split at hq
  · cases hq
    exact h
  split at hq
  · split at hq
    · cases hq
    · cases hq
      exact h.setRepairs (by simp)
  · split at hq
    case isFalse => cases hq
    next hroom =>
      cases hq
      refine seekNext { pool := h.pool, alarm := h.alarm, queue := h.queue, bays := h.bays, sp := h.sp, steady := fun hc => { h.steady hc with }, readOnly := h.readOnly
                        log := fun i => ?_ }
      obtain ⟨hlen, hdis, hmark, -⟩ := h.log i
      exact ⟨hlen, hdis, hmark, by simpa using hroom⟩

theorem repairOrLog {w : Fin 16} {s : Side} {o n : Nat} : Keeps c r (p.repairOrLog w s o n) := by
  unfold Part.repairOrLog
  split
  · exact h.tryRepair ‹_›
  · exact h.logOrLose (touched_nodup o n)

theorem startRebuild {w : Fin 16} : Keeps c r (p.startRebuild w) := .ite (fun _ => h.modWindow.seekNext) fun _ => h

theorem abandonRebuild {w : Fin 16} : Keeps c r (p.abandonRebuild w) := by
  refine .ite (fun _ => h) fun _ => raise (modWindow ?_)
  split
  · exact .ite (fun _ => h.abandonChunk) fun _ => h
  · exact h

/-! ## A bay's READY state as the engine follows it (R47) -/

theorem restartCopies {b : Fin 4} {kept : Option Chunk} : Keeps c r (p.restartCopies b kept) := by
  refine foldl (fun q w hq => .ite (fun _ => hq.modWindow) fun _ => hq) (h.mapLog fun e => ?_) _
  split <;> rfl

theorem bayLeavesReady {b : Fin 4} : Keeps c r (p.bayLeavesReady b) := by
  have hq := h.restartCopies (b := b) (kept := none)
  unfold Part.bayLeavesReady
  dsimp only
  split
  · exact .ite (fun _ => hq.stopChunk) fun _ => hq
  · exact hq

theorem bayLeavesForDormant {b : Fin 4} : Keeps c r (p.bayLeavesForDormant b) :=
  .ite (fun _ => h.restartCopies) fun _ => h.bayLeavesReady

theorem bayEntersReady {b : Fin 4} : Keeps c r (p.bayEntersReady b) := by
  refine seekNext (foldl (fun q w hq => ?_) h _)
  split
  · exact hq
  · exact .ite (fun _ => hq.startRebuild) fun _ => hq

theorem targetGone {b : Fin 4} : Keeps c r (p.targetGone b) := by
  refine foldl (fun q w hq => ?_) h _
  split
  · exact hq
  · exact .ite (fun _ => hq.abandonRebuild) fun _ => hq

/-! ## Patrol cursors and identification (R17, R18, R119, R122, R123) -/

theorem passEnd {w : Fin 16} : Keeps c r (p.passEnd w) := h.modWindow

theorem cursorPast {w : Fin 16} {g : Nat} : Keeps c r (p.cursorPast w g) := .ite (fun _ => h.passEnd) fun _ => h.modWindow

theorem cursorAdvance {w : Fin 16} {g k : Nat} : Keeps c r (p.cursorAdvance w g k) :=
  .ite (fun _ => h.cursorPast) fun _ => h.modWindow

theorem judge {w : Fin 16} {k : Nat} {i : Identity} : Keeps c r (p.judge w k i) := by
  refine .ite (fun _ => ?_) fun _ => h.modWindow
  split
  · exact h.modWindow.markLost
  · exact .ite (fun _ => h.modWindow.abandonRebuild) fun _ => h.modWindow

theorem judgeOn {b : Fin 4} {i : Identity} {w : Fin 16} : Keeps c r (p.judgeOn b i w) :=
  h.foldl (fun _ _ hq => .ite (fun _ => hq.judge) fun _ => hq) _

theorem foreignCheck {b : Fin 4} {i : Identity} : Keeps c r (p.foreignCheck b i) :=
  h.foldl (fun _ _ hq => .ite (fun _ => hq.judgeOn) fun _ => hq) _

theorem freeWindow {w : Fin 16} : Keeps c r (p.freeWindow w) := by
  have hq : Keeps c r (Part.modWindow w (fun _ => {}) { p with
      engine := { p.engine with
        log := p.engine.log.filter fun e => e.window != w
        repairs := p.engine.repairs.filter fun e => e.window != w }
      router := { p.router with
        dropped := p.router.dropped.map fun r => if r.window = w then { r with windowGone := true } else r } }).followMark :=
    followMark (modWindow (setDropped (filterLog (h.filterRepairs (f := fun e => e.window != w)))))
  unfold Part.freeWindow
  dsimp only
  split
  · exact hq
  · exact hq.reply

/-! ## A chunk's work (sections 5.6, 5.7 and chapter 6) -/

theorem placeChunk : Keeps c r p.placeChunk := by
  unfold Part.placeChunk
  split
  · exact h
  split
  · exact h
  · refine .ite (fun _ => h.stopChunk) fun _ => .ite (fun hroom => ?_) fun _ => h.joinRoom.modChunk
    refine h.leaveRooms.modChunk.appendOp ?_
    simpa [leaveRooms_eq, bay, Part.modChunk] using length_of_hasRoom hroom

theorem chunkToWriting : Keeps c r p.chunkToWriting := h.modChunk

theorem chunkAgain : Keeps c r p.chunkAgain := h.modChunk

theorem entryDone {w : Fin 16} {g : Nat} {stale : Side} : Keeps c r (p.entryDone w g stale) :=
  followMark h.filterLog.tellFlushes

theorem resyncAdvance {w : Fin 16} {g k : Nat} : Keeps c r (p.resyncAdvance w g k) := by
  unfold Part.resyncAdvance
  dsimp only
  split
  · exact h.endChunk
  · exact .ite (fun _ => h.endChunk.modEntry fun _ => rfl) fun _ => .ite (fun _ => h.endChunk.modEntry fun _ => rfl) fun _ =>
      h.endChunk.entryDone

theorem resyncUnreadable {w : Fin 16} {g o : Nat} : Keeps c r (p.resyncUnreadable w g o) := by
  refine endChunk (tellFlushes (modWindow (h.modEntry ?_)))
  exact fun _ => rfl

theorem dropRepair : Keeps c r p.dropRepair := h.filterRepairs

theorem repairAdvance {n : Nat} : Keeps c r (p.repairAdvance n) :=
  endChunk (h.setRepairs (List.length_filterMap_le _ _))

theorem repairFailed {w : Fin 16} {src : Side} : Keeps c r (p.repairFailed w src) := by
  unfold Part.repairFailed
  split
  · exact h.endChunk
  · exact (h.dropRepair.logOrLose (touched_nodup _ _)).endChunk

theorem rebuildAdvance {w : Fin 16} {g k : Nat} : Keeps c r (p.rebuildAdvance w g k) :=
  .ite (fun _ => h.endChunk.modWindow) fun _ => .ite (fun _ => h.endChunk.modWindow) fun _ => h.endChunk.modWindow.raise

theorem mismatch {w : Fin 16} {g : Nat} : Keeps c r (p.mismatch w g) :=
  (h.modWindow.logOrLose (List.nodup_singleton g)).raise.cursorPast

theorem patrolRepair {w : Fin 16} {g k o n : Nat} {failed : Side} : Keeps c r (p.patrolRepair w g k o n failed) := by
  unfold Part.patrolRepair
  split
  · exact (h.tryRepair ‹_›).cursorAdvance
  · exact (h.logOrLose (List.nodup_singleton g)).cursorPast

theorem patrolEnd {x : Chunk} {a b : Bool} : Keeps c r (p.patrolEnd x a b) := by
  refine .ite (fun _ => h.endChunk) fun _ => .ite (fun _ => h.modWindow.endChunk) fun _ =>
    .ite (fun _ => h.cursorPast.endChunk) fun _ => .ite (fun _ => h.chunkAgain) fun _ => ?_
  cases a <;> cases b
  · exact .ite (fun _ => h.cursorAdvance.endChunk) fun _ => h.mismatch.endChunk
  · exact h.patrolRepair.endChunk
  · exact h.patrolRepair.endChunk
  · exact h.modWindow.cursorAdvance.endChunk

theorem chunkReadMedia {x : Chunk} {s : Side} {block : Option Nat} : Keeps c r (p.chunkReadMedia x s block) := by
  unfold Part.chunkReadMedia
  cases x.kind with
  | resync => exact h.resyncUnreadable
  | repair => exact h.dropRepair.modWindow.endChunk
  | rebuild => exact h.modWindow.abandonRebuild
  | patrol => exact h

theorem chunkWriteMedia {x : Chunk} : Keeps c r (p.chunkWriteMedia x) := by
  unfold Part.chunkWriteMedia
  cases x.kind with
  | resync => exact h.markLost
  | repair => exact h.repairFailed
  | rebuild => exact h.abandonRebuild
  | patrol => exact h

theorem chunkWritten {x : Chunk} : Keeps c r (p.chunkWritten x) := by
  refine .ite (fun _ => h.chunkAgain) fun _ => ?_
  cases x.kind with
  | resync => exact h.resyncAdvance
  | repair => exact h.repairAdvance
  | rebuild => exact h.rebuildAdvance
  | patrol => exact h

theorem patrolRead {s : Side} {media : Bool} : Keeps c r (p.patrolRead s media) := by
  unfold Part.patrolRead
  dsimp only
  split
  · exact h.modChunk
  · split
    · exact h.modChunk.patrolEnd
    · exact h.modChunk

theorem chunkResult {s : Side} {kind : ReqKind} {res : Status} {block : Option Nat} :
    Keeps c r (p.chunkResult s kind res block) := by
  unfold Part.chunkResult
  split
  · exact h
  refine .ite (fun _ => h) fun _ => ?_
  split
  · exact .ite (fun _ => h.patrolRead) fun _ => .ite (fun _ => h.chunkWritten) fun _ => h.chunkToWriting
  · exact .ite (fun _ => h.patrolRead) fun _ => .ite (fun _ => h.chunkWriteMedia) fun _ => h.chunkReadMedia
  · exact h.stopChunk

/-! ## Seeking the next job (R105, R118, R119) -/

theorem beginChunk {kind : ChunkKind} {w : Fin 16} {src : Side} {off n : Nat} : Keeps c r (p.beginChunk kind w src off n) := by
  unfold Part.beginChunk
  exact h.same

theorem takeRepair {i : Nat} {e : RepairEntry} : Keeps c r (p.takeRepair i e) :=
  .ite (fun _ => seekNext (h.setRepairs (List.eraseIdx_sublist ..).length_le)) fun _ => beginChunk (h.setRepairs (by simp))

theorem takeResync {e : LogEntry} : Keeps c r (p.takeResync e) := by
  refine beginChunk (h.modEntry ?_)
  exact fun _ => rfl

theorem takeRebuild {w : Fin 16} {lost : Side} {g : Nat} : Keeps c r (p.takeRebuild w lost g) := h.beginChunk

theorem takePatrol {w : Fin 16} : Keeps c r (p.takePatrol w) := by
  unfold Part.takePatrol
  split
  · exact h
  · exact .ite (fun _ => h.modWindow.passEnd.seekNext) fun _ => h.modWindow.modWindow.beginChunk

theorem seekPatrol : Keeps c r p.seekPatrol := by
  unfold Part.seekPatrol
  split
  · exact h.takePatrol
  · exact h

theorem seekAfterResync : Keeps c r p.seekAfterResync := by
  have hq : Keeps c r (if p.engine.above then p.markStarts else p) := .ite (fun _ => h.markStarts) fun _ => h
  unfold Part.seekAfterResync
  dsimp only
  split
  · exact hq.takeRebuild
  · exact hq.seekPatrol

theorem seekJob : Keeps c r p.seekJob := by
  have hq : Keeps c r { p with engine := { p.engine with seek := false } } := h.same
  refine .ite (fun _ => hq) fun _ => .ite (fun _ => hq.seekPatrol) fun _ => ?_
  split
  · exact hq.takeRepair
  · split
    · exact hq.takeResync
    · exact hq.seekAfterResync

end Keeps

end Part

end Sys2Proof.Machine
end

section
/-! PROOFS. What the request router keeps (chapter 2), from a request's acceptance to the drop of a port. -/

set_option Elab.async false

namespace Sys2Proof.Machine

open Sys2Proof

namespace Part

namespace Keeps

variable {c : Claims} {r p : Part} (h : Keeps c r p)
include h

/-! ## Acceptance and completion (R28, R29, R41) -/

theorem setDp {x : DpPort} : Keeps c r { p with dp := x } := h.same

theorem countUp {port : ReqPort} : Keeps c r (p.countUp port) := by
  cases port
  all_goals
    unfold Part.countUp
    exact h.same

theorem countDown {port : ReqPort} : Keeps c r (p.countDown port) := by
  cases port
  all_goals
    unfold Part.countDown
    exact h.same

theorem accept {a : Ask} {w : Fin 16} : Keeps c r (p.accept a w) := by
  unfold Part.accept
  refine modWindow (countUp ?_)
  exact h.same

theorem handCompletion {port : ReqPort} {tag : Tag} {st : Status} {failing : Nat} :
    Keeps c r (p.handCompletion port tag st failing) := by
  cases port
  · exact h.handPp
  · exact h.handDp

theorem takeRequest {a : Ask} : Keeps c r (p.takeRequest a) := by
  unfold Part.takeRequest
  split
  · exact h.accept
  · exact h.handCompletion
  · exact h.handCompletion

theorem removeRequest {x : Request} {keep : List Nat} : Keeps c r (p.removeRequest x keep) := by
  have hq : Keeps c r ((((p.leaveSlotWait (.request x.id)).leaveRooms (.request x.id)).releaseSlots (.request x.id) keep).countDown
      x.port) := h.leaveSlotWait.leaveRooms.releaseSlots.countDown
  unfold Part.removeRequest
  refine modWindow ?_
  exact hq.same

theorem complete {x : Request} {st : Status} : Keeps c r (p.complete x st) := h.removeRequest.handCompletion

/-! ## Routing (R36, R96, R98, R101, R102, R103) -/

theorem recordRoute {id : Nat} {frags : List Fragment} {g : Gather} {notes : List Status} :
    Keeps c r (p.recordRoute id frags g notes) := h.modRequest

theorem routeMirrorRead {x : Request} : Keeps c r (p.routeMirrorRead x) := by
  unfold Part.routeMirrorRead
  split
  · exact h.recordRoute
  · exact h.recordRoute

theorem markAgain {w : Fin 16} {o n : Nat} {both : Bool} : Keeps c r (p.markAgain w o n both) := h.modChunk

theorem redirty {w : Fin 16} {gs : List Nat} : Keeps c r (p.redirty w gs) := by
  have hq : Keeps c r (p.setLog (p.engine.log.map fun e =>
      if e.window = w ∧ e.region ∈ gs then { e with redirtied := e.redirtied || e.copying, unreadable := false } else e)) :=
    h.mapLog fun e => by split <;> rfl
  exact .ite (fun _ => hq.seekNext) fun _ => hq

theorem writeOne {x : Request} {s : Side} {g : Gather} : Keeps c r (p.writeOne x s g) := h.recordRoute

theorem writeBoth {x : Request} {g : Gather} : Keeps c r (p.writeBoth x g) := h.recordRoute.markAgain

theorem routeUsableWrite {x : Request} : Keeps c r (p.routeUsableWrite x) := by
  refine .ite (fun _ => ?_) fun _ => .ite (fun _ => ?_) fun _ => h.writeBoth
  · split
    · split
      · exact (h.tryLog (touched_nodup _ _) ‹_›).redirty.writeOne
      · exact h.redirty.writeBoth
    · exact h.redirty.writeBoth
  · split
    · exact (h.tryLog (touched_nodup _ _) ‹_›).writeOne
    · exact h.writeBoth

theorem routeMirrorWrite {x : Request} : Keeps c r (p.routeMirrorWrite x) := by
  unfold Part.routeMirrorWrite
  dsimp only
  split
  · exact h.writeOne
  · exact .ite (fun _ => h.writeOne.markAgain) fun _ => h.writeBoth
  · split
    · exact h.markLost.writeOne
    · exact h.markLost.writeOne
    · exact h.writeOne
    · exact h.routeUsableWrite

theorem flushCopies {x : Request} : Keeps c r (p.flushCopies x) := by
  unfold Part.flushCopies
  dsimp only
  split
  · exact h.recordRoute
  · split
    · exact h.markLost.recordRoute
    · exact h.markLost.recordRoute
    · exact h.recordRoute
    · exact h.recordRoute

theorem recordEntries {x : Request} : Keeps c r (p.recordEntries x) := by
  have hq : Keeps c r (p.setLog (p.engine.log.map fun e =>
      if e.window = x.window ∧ !e.unreadable then { e with flushes := e.flushes + 1 } else e)) :=
    h.mapLog fun e => by split <;> rfl
  exact .ite (fun _ => hq.modRequest) fun _ => hq.modRequest.seekNext

theorem routeMirrorFlush {x : Request} : Keeps c r (p.routeMirrorFlush x) :=
  .ite (fun _ => .ite (fun _ => h.recordEntries.flushCopies.wakeBay.wakeBay) fun _ => h.recordEntries.flushCopies)
    fun _ => h.flushCopies

theorem route {x : Request} : Keeps c r (p.route x) := by
  unfold Part.route
  dsimp only
  split
  · exact h.routeMirrorRead
  · exact h.routeMirrorWrite
  · exact h.routeMirrorFlush
  · exact h.recordRoute
  · exact h.recordRoute

/-! ## Results (R39, R97, R99 to R101) -/

theorem oneCopyWritten {w : Fin 16} {gs : List Nat} {s : Side} {res : Status} (hgs : gs.Nodup) :
    Keeps c r (p.oneCopyWritten w gs s res) := .ite (fun _ => h.logOrLose hgs) fun _ => h.markLost

theorem pairEnd {x : Request} {a b : Status} : Keeps c r (p.pairEnd x a b).1 := by
  unfold Part.pairEnd
  dsimp only
  split
  · exact h
  · split
    · exact h
    · exact h.oneCopyWritten (touched_nodup _ _)
    · exact h.oneCopyWritten (touched_nodup _ _)
    · exact h

theorem survivorEnd {x : Request} {s : Side} : Keeps c r (p.survivorEnd x s).1 := by
  unfold Part.survivorEnd
  dsimp only
  split
  · exact h
  · split
    · exact h.oneCopyWritten (touched_nodup _ _)
    · exact h

theorem gathered {x : Request} : Keeps c r (p.gathered x).1 := by
  unfold Part.gathered
  split
  · exact h
  · exact h.survivorEnd
  · exact h.pairEnd

theorem setResult {id k : Nat} {st : Status} : Keeps c r (p.setResult id k st) := h.modFrag

theorem noteFailing {x : Request} {f : Fragment} {block : Option Nat} : Keeps c r (p.noteFailing x f block) := by
  cases block
  · exact h
  · exact h.modRequest

theorem mirrorReadResult {x : Request} {k : Nat} {f : Fragment} {res : Status} :
    Keeps c r (p.mirrorReadResult x k f res) :=
  .ite (fun _ => .ite (fun _ => h.setResult.repairOrLog) fun _ => h.setResult)
    fun _ => .ite (fun _ => h.modFrag) fun _ => h.setResult

theorem targetResult {x : Request} {f : Fragment} {res : Status} : Keeps c r (p.targetResult x f res) :=
  .ite (fun _ => h.abandonRebuild) fun _ => h

theorem liveResult {x : Request} {k : Nat} {f : Fragment} {res : Status} {block : Option Nat} :
    Keeps c r (p.liveResult x k f res block) := by
  have hq : Keeps c r (if res = .media then p.noteFailing x f block else p) := .ite (fun _ => h.noteFailing) fun _ => h
  exact targetResult (.ite (fun _ => hq.mirrorReadResult) fun _ => hq.setResult)

theorem droppedResult {x : Request} {k : Nat} {f : Fragment} {res : Status} : Keeps c r (p.droppedResult x k f res) := by
  have hq : Keeps c r (p.setResult x.id k res) := h.setResult
  refine .ite (fun _ => hq) fun _ => .ite (fun _ => .ite (fun _ => ?_) fun _ => .ite (fun _ => hq.repairOrLog)
    fun _ => hq.targetResult) fun _ => hq.targetResult
  cases hr : (p.setResult x.id k res).tryRepair x.window (sideOf f.member) f.first f.count with
  | none => exact hq
  | some q => exact hq.tryRepair hr

theorem fragResult {id k : Nat} {res : Status} {block : Option Nat} : Keeps c r (p.fragResult id k res block) := by
  unfold Part.fragResult
  split
  · split
    · exact h.liveResult.markEnded
    · exact h
  · split
    · split
      · exact h.droppedResult
      · exact h
    · exact h

/-! ## Placing and leaving AT_BAYS (R36 to R41, R103) -/

theorem placed {id : Nat} : Keeps c r (p.placed id) := h.leaveRooms.modRequest

omit h in
theorem placeAll (id : Nat) : ∀ (fuel : Nat) {p : Part}, Keeps c r p → Keeps c r (Part.placeAll fuel id p)
  | 0, _, h => h
  | fuel + 1, p, h => by
    unfold Part.placeAll
    split
    · exact h
    · split
      · exact h.placed
      · split
        · exact h.placed
        · split
          · exact placeAll id fuel h.fragResult
          · refine .ite (fun hroom => placeAll id fuel (h.modFrag.appendOp ?_)) fun _ => h.joinRoom.modRequest
            simpa using length_of_hasRoom hroom

theorem placeRequest {x : Request} : Keeps c r (p.placeRequest x) := placeAll _ _ h.modRequest

theorem leaveBays {x : Request} : Keeps c r (p.leaveBays x) := by
  have hq : Keeps c r (p.gathered x).1 := h.gathered
  refine .ite (fun _ => ?_) fun _ => hq.complete
  split
  · exact hq.modRequest
  · exact setDp hq.modRequest

theorem secondFlush {x : Request} : Keeps c r (p.secondFlush x) := h.modRequest

theorem settleDropped {x : Request} : Keeps c r (p.settleDropped x) :=
  setDropped (.ite (fun _ => h) fun _ => h.gathered)

/-! ## The drop of a port's requests (R43, R44, R181) -/

theorem unwait {x : Request} : Keeps c r (p.unwait x) := h.mapLog fun e => by split <;> rfl

theorem dropTarget {x : Request} {frags : List Fragment} : Keeps c r (p.dropTarget x frags) := by
  unfold Part.dropTarget
  dsimp only
  split
  · exact h
  · exact .ite (fun _ => h.abandonRebuild) fun _ => h

theorem dropRequest {x : Request} : Keeps c r (p.dropRequest x) := by
  have hq : Keeps c r (p.modBays fun y => { y with queue := y.queue.filter fun o => !o.ofRequest x.id }) :=
    h.modBays fun _ => .of_queue (List.length_filter_le _ _)
  exact .ite (fun _ => dropTarget (setDropped hq.unwait.removeRequest)) fun _ => hq.unwait.removeRequest

theorem dropPort {port : ReqPort} : Keeps c r (p.dropPort port) := h.foldl (fun _ _ hq => hq.dropRequest) _

theorem closeBatch : Keeps c r p.closeBatch := by
  have hq : Keeps c r { p with pp := { p.pp with batch := false } } := h.same
  exact .ite (fun _ => hq.emit rfl) fun _ => hq

theorem ppReset : Keeps c r p.ppReset := by
  rw [ppReset_eq, portReset, ← closeBatch_eq_batchEnded]
  have hq : Keeps c r (p.closeBatch.dropPort .pp) := h.closeBatch.dropPort
  exact hq.same (hbays := fun b => by simpa [bay] using .of_eq rfl rfl rfl rfl)

theorem freeDropped {id : Nat} : Keeps c r (p.freeDropped id) := .ite (fun _ => h) fun _ => h.releaseSlots

theorem reportResult {res : Status} {block : Option Nat} {o : BayOp} : Keeps c r (p.reportResult res block o) := by
  unfold Part.reportResult
  split
  · exact h.fragResult.freeDropped
  · exact h.chunkResult

theorem clearFlight {b : Fin 4} : Keeps c r (p.clearFlight b) := h.modBay ⟨le_rfl, rfl, rfl, by simp [writeInFlight]⟩

theorem endAnswered {b : Fin 4} {o : BayOp} {res : Status} {block : Option Nat} :
    Keeps c r (p.endAnswered b o res block) := h.clearFlight.reportClass.reportResult

theorem endUnanswered {b : Fin 4} {o : BayOp} {res : Status} : Keeps c r (p.endUnanswered b o res) :=
  h.clearFlight.reportResult

theorem reportAll {res : Status} {l : List BayOp} : Keeps c r (l.foldl (fun q o => q.reportResult res none o) p) :=
  h.foldl (fun _ _ hq => hq.reportResult) l

theorem answerStops {b : Fin 4} {st : Status} : Keeps c r (p.answerStops b st) :=
  foldl (fun _ _ hq => hq.reply) (h.modBay (.of_eq rfl rfl rfl rfl)) _

theorem answerQuery {b : Fin 4} {st : Status} {ans : Answer} : Keeps c r (p.answerQuery b st ans) :=
  .ite (fun _ => answer (h.modBay (.of_eq rfl rfl rfl rfl))) fun _ => h

theorem removeForeign {b : Fin 4} : Keeps c r (p.removeForeign b) :=
  reportAll (h.modBay (.of_queue (List.length_filter_le _ _)))

end Keeps

end Part

end Sys2Proof.Machine
end

section
/-! PROOFS. What the bay controllers keep (chapter 3), the admission of starts (section 4.4) and the orders of DORMANT. -/

set_option Elab.async false

namespace Sys2Proof.Machine

open Sys2Proof

/-- A bay that a drive serves: STARTING, READY or STOPPING. -/
def Bay.up (x : Bay) : Prop := x.power = .starting ∨ x.power = .ready ∨ x.power = .stopping

/-- Neither WAITING nor ABSENT: the start queue holds no entry of the bay, and its drive is present. -/
def Power.plain : Power → Prop
  | .absent | .waiting => False
  | _ => True

theorem Bay.up.plain {x : Bay} (h : x.up) : x.power.plain := by
  rcases h with h | h | h <;> simp [h, Power.plain]

namespace Part

theorem Steady.up {r p : Part} (h : Steady r p) {b : Fin 4} (hr : (r.bay b).up) : (p.bay b).up := by
  have hp : (p.bay b).power = (r.bay b).power := h.power b (by rcases hr with e | e | e <;> simp [e])
    (by rcases hr with e | e | e <;> simp [e])
  simpa [Bay.up, hp] using hr

namespace Keeps

variable {m s a : Prop} {r p : Part} (h : Keeps ⟨m, s, a, False⟩ r p)
include h

/-- A bay passes from one power state to another, WAITING and ABSENT not among them. -/
theorem setPower {b : Fin 4} {f : Bay → Bay} (hold : (p.bay b).power.plain) (hnew : (f (p.bay b)).power.plain)
    (hq : (f (p.bay b)).queue.length ≤ (p.bay b).queue.length := by simp)
    (hp : (f (p.bay b)).present = (p.bay b).present := by simp)
    (hf : writeInFlight (f (p.bay b)) = true → writeInFlight (p.bay b) = true := by simp [writeInFlight]) :
    Keeps ⟨m, s, a, False⟩ r (p.modBay b f) := by
  have hne : ∀ i, b ≠ i → (p.modBay b f).bay i = p.bay i := fun i hi => bay_modBay_of_ne p hi f
  refine { pool := fun i => (h.pool i).of_eq, log := fun i => (h.log i).of_keys
           queue := fun i => (h.queue i).of_le fun j => ?_, readOnly := fun i => (h.readOnly i).of_le (hflight := fun j => ?_)
           bays := fun i => (h.bays i).of_bay b hne id (fun _ _ => .rfl) ?_ ?_, sp := fun hc j i => (h.sp hc j i).of_eq
           alarm := fun hc i => (h.alarm hc i).of_eq, steady := False.elim }
  · by_cases hj : b = j
    · subst hj; simpa using hq
    · rw [hne j hj]
  · by_cases hj : b = j
    · subst hj; simpa using hf
    · rw [hne j hj]; exact id
  · obtain ⟨-, hbay, -⟩ := h.bays i
    have hin : StartEntry.bay b ∉ p.power.startQueue := fun hm => by rw [(hbay b).1 hm] at hold; exact hold
    have hnw : (f (p.bay b)).power ≠ .waiting := fun e => by rw [e] at hnew; exact hnew
    simp [hin, hnw]
  · obtain ⟨-, -, hpres⟩ := h.bays i
    have hpr : (p.bay b).present ≠ false := fun e => by rw [(hpres b).1 e] at hold; exact hold
    have hna : (f (p.bay b)).power ≠ .absent := fun e => by rw [e] at hnew; exact hnew
    simpa [hp, hna] using hpr

/-- A command that writes no block goes in flight and is put out. -/
theorem issueCmd {b : Fin 4} {x : InFlight} {d : DriveCmd} (hx : ∀ o, x ≠ .op o)
    (hd : writesDrive (.drive b d) = false) :
    Keeps ⟨m, s, a, False⟩ r ((p.modBay b fun y => { y with inFlight := x }).emit (.drive b d)) :=
  emit (h.modBay ⟨le_rfl, rfl, rfl, by simp [writeInFlight_of_not_op (x := { p.bay b with inFlight := x }) hx]⟩) hd

theorem issueSpinUp {b : Fin 4} : Keeps ⟨m, s, a, False⟩ r (p.issueSpinUp b) := h.issueCmd (by simp) rfl

theorem issueIdentify {b : Fin 4} : Keeps ⟨m, s, a, False⟩ r (p.issueIdentify b) := h.issueCmd (by simp) rfl

theorem issueStandby {b : Fin 4} : Keeps ⟨m, s, a, False⟩ r (p.issueStandby b) := h.issueCmd (by simp) rfl

/-! ## Faults and presence (R48, R49, R65) -/

omit h in
/-- What FAULT and ABSENT do once the bay's record is written. -/
theorem bayDown {b : Fin 4} {f : Bay → Bay} {res : Status}
    (h : Keeps ⟨m, s, a, False⟩ r (p.modBay b fun x => f { x with
      waitingFrom := none, startedFrom := none, startLeft := none, startAfterStop := false, link := .down, retrain := 0
      timeoutRun := false, queue := [], inFlight := .nothing, healthPending := false })) :
    Keeps ⟨m, s, a, False⟩ r (p.bayDown b f res) :=
  targetGone (reportAll (.ite (fun _ => h.bayLeavesReady) fun _ => h))

theorem enterFault {b : Fin 4} (hold : (p.bay b).power.plain) : Keeps ⟨m, s, a, False⟩ r (p.enterFault b) := by
  have hq : Keeps ⟨m, s, a, False⟩ r (p.bayDown b (fun x => { x with power := .fault }) .bayFault) := by
    refine bayDown (h.setPower hold ?_)
    exact trivial
  unfold Part.enterFault
  exact hq.answerQuery.answerStops.raise

theorem presenceLost {b : Fin 4} : Keeps ⟨m, s, a, False⟩ r (p.presenceLost b) := by
  unfold Part.presenceLost
  suffices hq : Keeps ⟨m, s, a, False⟩ r (Part.bayDown b (fun x => { x with
      present := false, power := .absent, identity := none, health := none }) .bayAbsent
      (p.withStartQueue (p.power.startQueue.filter fun e => e != .bay b))) from hq.answerQuery.answerStops.raise
  refine bayDown ?_
  have hne : ∀ (q : Part) (f : Bay → Bay) i, b ≠ i → (q.modBay b f).bay i = q.bay i := fun q f i hi => bay_modBay_of_ne q hi f
  refine { pool := fun i => (h.pool i).of_eq rfl rfl, log := fun i => (h.log i).of_keys rfl (fun _ => rfl) le_rfl
           queue := fun i => (h.queue i).of_le fun j => ?_
           readOnly := fun i => (h.readOnly i).of_le rfl (fun j => ?_) fun _ ho _ => ho
           bays := fun i => (h.bays i).of_bay b (hne _ _) (fun hn => hn.filter _) (fun j hj => by simp [Ne.symm hj])
             (by simp) (by simp)
           sp := fun hc j i => (h.sp hc j i).of_eq (by simp) rfl rfl, alarm := fun hc i => (h.alarm hc i).of_eq rfl rfl
           steady := False.elim }
  · by_cases hj : b = j
    · subst hj; simp
    · rw [hne _ _ j hj]; exact le_rfl
  · by_cases hj : b = j
    · subst hj; simp [writeInFlight]
    · rw [hne _ _ j hj]; exact id

/-- A bay whose presence is ABSENT becomes OFF. -/
theorem presenceTaken {b : Fin 4} (hb : (p.bay b).present = false) : Keeps ⟨m, s, a, False⟩ r (p.presenceTaken b) := by
  refine raise ?_
  have hne : ∀ (f : Bay → Bay) i, b ≠ i → (p.modBay b f).bay i = p.bay i := fun f i hi => bay_modBay_of_ne p hi f
  refine { pool := fun i => (h.pool i).of_eq, log := fun i => (h.log i).of_keys
           queue := fun i => (h.queue i).of_le fun j => ?_, readOnly := fun i => (h.readOnly i).of_le (hflight := fun j => ?_)
           bays := fun i => (h.bays i).of_bay b (hne _) id (fun _ _ => .rfl) ?_ (by simp)
           sp := fun hc j i => (h.sp hc j i).of_eq, alarm := fun hc i => (h.alarm hc i).of_eq, steady := False.elim }
  · by_cases hj : b = j
    · subst hj; simp
    · rw [hne _ j hj]
  · by_cases hj : b = j
    · subst hj; simp [writeInFlight]
    · rw [hne _ j hj]; exact id
  · obtain ⟨-, hbay, hpres⟩ := h.bays i
    simp [hbay b, (hpres b).1 hb]

/-! ## READY, stops and power-off (R53, R54, R56 to R58) -/

theorem enterReady {b : Fin 4} (hup : (p.bay b).up) : Keeps ⟨m, s, a, False⟩ r (p.enterReady b) := by
  refine bayEntersReady (h.setPower hup.plain ?_)
  exact trivial

theorem stopBy {b : Fin 4} {leave : Part → Part}
    (hleave : ∀ {q}, Keeps ⟨m, s, a, False⟩ r q → Keeps ⟨m, s, a, False⟩ r (leave q)) :
    Keeps ⟨m, s, a, False⟩ r (p.stopBy leave b) := by
  refine .ite (fun hquiet => ?_) fun _ => h
  have hready : (p.bay b).power = .ready := by
    simp only [Bay.quiet, Bool.and_eq_true, beq_iff_eq] at hquiet
    exact hquiet.1.1.1
  have hq := hleave (h.setPower (b := b) (f := fun x => { x with power := .stopping }) (by simp [hready, Power.plain]) trivial)
  exact .ite (fun _ => hq.issueStandby) fun _ => hq

theorem stopOrder {b : Fin 4} : Keeps ⟨m, s, a, False⟩ r (p.stopOrder b) := h.stopBy fun hq => hq.bayLeavesReady

theorem powerOffOrder {b : Fin 4} : Keeps ⟨m, s, a, False⟩ r (p.powerOffOrder b) :=
  .ite (fun hs => h.setPower (by simp [hs, Power.plain]) trivial) fun _ => h

theorem orderBay {b : Fin 4} : Keeps ⟨m, s, a, False⟩ r (p.orderBay b) :=
  .ite (fun _ => h.powerOffOrder) fun _ => h.stopBy fun hq => hq.bayLeavesForDormant

theorem standbyReached {b : Fin 4} (hup : (p.bay b).up) : Keeps ⟨m, s, a, False⟩ r (p.standbyReached b) := by
  have hq : Keeps ⟨m, s, a, False⟩ r ((p.modBay b fun x => { x with
      power := .standby, inFlight := .nothing, startAfterStop := false, timeoutRun := false, idle := 0 }).answerStops b .ok) := by
    refine answerStops (h.setPower hup.plain ?_)
    exact trivial
  exact .ite (fun _ => hq.requestStart) fun _ => hq

theorem standbyRefused {b : Fin 4} (hup : (p.bay b).up) : Keeps ⟨m, s, a, False⟩ r (p.standbyRefused b) :=
  answerStops (enterReady (h.modBay ⟨le_rfl, rfl, rfl, by simp [writeInFlight]⟩) (by simpa [Bay.up] using hup))

/-! ## Starts (R52 to R55, R83) -/

theorem identified {b : Fin 4} {i : Identity} (hup : (p.bay b).up) : Keeps ⟨m, s, a, False⟩ r (p.identified b i) := by
  have hq : Keeps ⟨m, s, a, False⟩ r (p.modBay b fun x => { x with
      identity := some i, inFlight := .nothing, timeoutRun := false }) :=
    h.modBay ⟨le_rfl, rfl, rfl, by simp [writeInFlight]⟩
  refine hq.foreignCheck.removeForeign.enterReady ?_
  exact (((Keeps.refl ⟨m, s, a, True⟩ _).foreignCheck.removeForeign).steady trivial).up (by simpa [Bay.up] using hup)

/-- The SP's entry leaves the head of the queue as its rail goes on. -/
theorem admitSp {rest : List StartEntry} (hqueue : p.power.startQueue = .sp :: rest) :
    Keeps ⟨m, s, a, False⟩ r (p.withStartQueue rest).admitSp where
  pool i := (h.pool i).of_eq rfl rfl
  log i := (h.log i).of_keys rfl (fun _ => rfl) le_rfl
  queue i := (h.queue i).of_le fun _ => le_rfl
  readOnly i := (h.readOnly i).of_le rfl (fun _ => id) fun _ ho _ => ho
  bays i := by
    obtain ⟨hn, hbay, hpres⟩ := h.bays i
    rw [hqueue] at hn
    exact ⟨hn.of_cons, fun b => Iff.trans (by simp [hqueue, Part.admitSp]) (hbay b), hpres⟩
  sp hc hb i := by
    obtain ⟨hn, -, -⟩ := h.bays hb
    obtain ⟨hsp, -⟩ := h.sp hc hb i
    obtain ⟨hst, -⟩ := hsp.1 (by simp [hqueue])
    rw [hqueue] at hn
    refine ⟨iff_of_false (List.nodup_cons.1 hn).1 (by simp [Part.admitSp]), fun _ => .inr (.inr hst)⟩
  alarm hc i := (h.alarm hc i).of_eq rfl rfl
  steady := False.elim

/-- A bay's entry leaves the head of the queue as the bay becomes STARTING. -/
theorem admitBay {b : Fin 4} {rest : List StartEntry} (hqueue : p.power.startQueue = .bay b :: rest) :
    Keeps ⟨m, s, a, False⟩ r ((p.withStartQueue rest).admitBay b) := by
  have hcore : ∀ f : Bay → Bay, ((p.bay b).power = .waiting → (f (p.bay b)).power.plain) → (f (p.bay b)).queue = (p.bay b).queue →
      (f (p.bay b)).present = (p.bay b).present → (f (p.bay b)).inFlight = (p.bay b).inFlight →
      Keeps ⟨m, s, a, False⟩ r ((p.withStartQueue rest).modBay b f) := by
    intro f hnew hq hp hf
    have hne : ∀ i, b ≠ i → ((p.withStartQueue rest).modBay b f).bay i = p.bay i := fun i hi => bay_modBay_of_ne _ hi f
    have heq : ((p.withStartQueue rest).modBay b f).bay b = f (p.bay b) := bay_modBay _ b f
    have hlike : ∀ {α : Type} (g : Bay → α), g (f (p.bay b)) = g (p.bay b) →
        ∀ i, g (((p.withStartQueue rest).modBay b f).bay i) = g (p.bay i) := by
      intro α g hg i
      by_cases hi : b = i
      · subst hi; rw [heq, hg]
      · rw [hne i hi]
    refine { pool := fun i => (h.pool i).of_eq rfl rfl, log := fun i => (h.log i).of_keys rfl (fun _ => rfl) le_rfl
             queue := fun i => (h.queue i).of_le fun j => le_of_eq (hlike (fun x => x.queue.length) (by simp [hq]) j)
             readOnly := fun i => (h.readOnly i).of_le rfl (fun j => by rw [hlike writeInFlight (by simp [writeInFlight, hf])]; exact id)
               fun _ ho _ => ho
             bays := fun i => ?_, sp := fun hc hb i => (h.sp hc hb i).of_eq (by simp [hqueue]) rfl rfl
             alarm := fun hc i => (h.alarm hc i).of_eq rfl rfl, steady := False.elim }
    obtain ⟨hn, hbay, hpres⟩ := h.bays i
    have hw : (p.bay b).power = .waiting := (hbay b).1 (by simp [hqueue])
    have hn' : (StartEntry.bay b :: rest).Nodup := hqueue ▸ hn
    refine (h.bays i).of_bay b hne (fun _ => hn'.of_cons) (fun j hj => by simp [hqueue, Ne.symm hj]) ?_ ?_
    · rw [heq]
      exact iff_of_false (List.nodup_cons.1 hn').1 fun e => by rw [e] at hnew; exact hnew hw
    · rw [heq, hp]
      refine iff_of_false (fun e => ?_) fun e => by rw [e] at hnew; exact hnew hw
      simpa [hw] using (hpres b).1 e
  unfold Part.admitBay
  refine .ite (fun hnw => ?_) fun _ => ?_
  · have hq := hcore id (fun hw => absurd hw hnw) rfl rfl rfl
    simpa [Part.modBay, bay] using hq
  · have hq := hcore (fun x => { x with
      power := .starting, startedFrom := x.waitingFrom, waitingFrom := none
      startLeft := some x.profile.tStart, inUse := some x.profile }) (fun _ => trivial) rfl rfl rfl
    exact .ite (fun _ => hq.issueSpinUp) fun _ => hq

theorem admitHead : Keeps ⟨m, s, a, False⟩ r p.admitHead := by
  cases hqueue : p.power.startQueue with
  | nil => simpa [Part.admitHead, hqueue] using h
  | cons e rest =>
    cases e with
    | sp =>
      rw [admitHead_sp hqueue]
      exact h.admitSp hqueue
    | bay b =>
      rw [admitHead_bay hqueue]
      exact h.admitBay hqueue

end Keeps

end Part

end Sys2Proof.Machine
end

section
/-! PROOFS. What the serving of a bay's queue, the command limits and the link events keep (sections 3.3 and 3.4). -/

set_option Elab.async false

namespace Sys2Proof.Machine

open Sys2Proof

namespace Part

namespace Keeps

variable {m s a : Prop} {r p : Part} (h : Keeps ⟨m, s, a, False⟩ r p)
include h

/-- The operation at the head of the queue goes in flight; in READ_ONLY boot mode no WRITE does. -/
theorem takeHead {b : Fin 4} {o : BayOp} {rest : List BayOp} (hqueue : (p.bay b).queue = o :: rest)
    (hwrite : ¬(p.readOnly = true ∧ o.kind = .write)) :
    Keeps ⟨m, s, a, False⟩ r
      (((p.modBay b fun x => { x with queue := rest }).modBay b fun x => { x with inFlight := .op o }).issueOp b o) := by
  have hlike : ∀ {α : Type} (g : Bay → α), (∀ x l k, g { x with queue := l, inFlight := k } = g x) → ∀ i,
      g (((p.modBay b fun x => { x with queue := rest }).modBay b fun x => { x with inFlight := .op o }).bay i)
        = g (p.bay i) := by
    intro α g hg i
    by_cases hi : b = i
    · subst hi; simp [hg]
    · simp [hi]
  refine issueOp ?_ fun hk hro _ => hwrite ⟨hro, hk⟩
  refine { pool := fun i => (h.pool i).of_eq, log := fun i => (h.log i).of_keys
           queue := fun i j => ?_, readOnly := fun i hro => ⟨fun j => ?_, (h.readOnly i hro).2⟩
           bays := fun i => (h.bays i).of_eq (hpower := hlike Bay.power fun _ _ _ => rfl)
             (hpresent := hlike Bay.present fun _ _ _ => rfl)
           sp := fun hc j i => (h.sp hc j i).of_eq
           alarm := fun hc i => (h.alarm hc i).of_eq, steady := False.elim }
  · by_cases hj : b = j
    · subst hj
      have := h.queue i b
      rw [hqueue, List.length_cons] at this
      simp
      omega
    · simpa [hj] using h.queue i j
  · by_cases hj : b = j
    · subst hj
      have hk : o.kind ≠ .write := fun hk => hwrite ⟨hro, hk⟩
      simpa [writeInFlight] using hk
    · simpa [hj] using (h.readOnly i hro).1 j

theorem issueNext {b : Fin 4} : Keeps ⟨m, s, a, False⟩ r (p.issueNext b) := by
  refine .ite (fun _ => ?_) fun _ => ?_
  · exact emit (h.modBay ⟨le_rfl, rfl, rfl, by simp [writeInFlight]⟩) rfl
  · split
    · exact h
    next o rest hqueue =>
      refine .ite (fun _ => reportResult (h.modBay (.of_queue (by simp [hqueue])))) fun hw => ?_
      exact h.takeHead hqueue hw

/-- A command that is in flight is issued again. -/
theorem reissue {b : Fin 4} {o : BayOp} (ho : (p.bay b).inFlight = .op o) : Keeps ⟨m, s, a, False⟩ r (p.reissue b o) := by
  refine issueOp (h.modBay ⟨le_rfl, rfl, rfl, by simp [writeInFlight, ho]⟩) fun hk hro i => ?_
  have hb := (h.readOnly i hro).1 b
  simp [writeInFlight, ho, hk] at hb

theorem clearRun {b : Fin 4} : Keeps ⟨m, s, a, False⟩ r (p.clearRun b) := h.modBay (.of_eq rfl rfl rfl rfl)

theorem answerDone {b : Fin 4} {o : BayOp} {data : List Byte} : Keeps ⟨m, s, a, False⟩ r (p.answerDone b o data) :=
  endAnswered (clearRun (.ite (fun _ => h.setData fun hm => writeStream_wf _ hm _ _) fun _ => h))

theorem answerMedia {b : Fin 4} {o : BayOp} {sector : Nat} : Keeps ⟨m, s, a, False⟩ r (p.answerMedia b o sector) :=
  h.clearRun.recordError.endAnswered

theorem answerAbort {b : Fin 4} {o : BayOp} (ho : (p.bay b).inFlight = .op o) :
    Keeps ⟨m, s, a, False⟩ r (p.answerAbort b o) :=
  .ite (fun _ => h.clearRun.recordError.endAnswered) fun _ => h.clearRun.reissue (by simpa [Part.clearRun] using ho)

omit h in
theorem abandonHealth {c : Claims} {b : Fin 4} (h : Keeps c r p) : Keeps c r (p.abandonHealth b) :=
  .ite (fun _ => h.clearFlight.answerQuery) fun _ => h

theorem beginRetrain {b : Fin 4} : Keeps ⟨m, s, a, False⟩ r (p.beginRetrain b) := h.modBay (.of_eq rfl rfl rfl rfl)

theorem limitExpired {b : Fin 4} (hup : (p.bay b).up) : Keeps ⟨m, s, a, False⟩ r (p.limitExpired b) := by
  refine .ite (fun _ => ?_) fun _ => beginRetrain (modBay (recordError ?_) (.of_eq rfl rfl rfl rfl))
  · refine h.abandonHealth.recordError.enterFault (Bay.up.plain ?_)
    exact ((Keeps.refl ⟨m, s, a, True⟩ p).abandonHealth.recordError.steady trivial).up hup
  · split
    · exact h.endUnanswered
    · exact h.abandonHealth

theorem standbyLinkLost {b : Fin 4} (hb : (p.bay b).power = .standby) : Keeps ⟨m, s, a, False⟩ r (p.standbyLinkLost b) := by
  have hq : Keeps ⟨m, s, a, False⟩ r (p.modBay b fun x => { x with power := .off, link := .down, startAfterStop := false }) :=
    h.setPower (by simp [hb, Power.plain]) trivial
  exact .ite (fun _ => hq.requestStart) fun _ => hq

theorem linkLost {b : Fin 4} : Keeps ⟨m, s, a, False⟩ r (p.linkLost b) := by
  unfold Part.linkLost
  split
  · exact h.beginRetrain
  · exact h.beginRetrain
  · exact h.standbyLinkLost ‹_›
  · exact h.modBay (.of_eq rfl rfl rfl rfl)
  · exact h.modBay ⟨le_rfl, rfl, rfl, by simp [writeInFlight]⟩
  · exact h
  · exact h
  · exact h

theorem relocked {b : Fin 4} : Keeps ⟨m, s, a, False⟩ r (p.relocked b) := by
  have hq : Keeps ⟨m, s, a, False⟩ r (p.modBay b fun x => { x with link := .locked, retrain := 0 }) :=
    h.modBay (.of_eq rfl rfl rfl rfl)
  unfold Part.relocked
  dsimp only
  split
  · exact .ite (fun _ => hq.endUnanswered) fun _ => hq.reissue (by simpa)
  · exact hq.emit rfl
  · exact hq.emit rfl
  · exact .ite (fun _ => hq.issueStandby) fun _ => hq
  · exact hq
  · exact hq

theorem linkGained {b : Fin 4} : Keeps ⟨m, s, a, False⟩ r (p.linkGained b) := by
  have hq : Keeps ⟨m, s, a, False⟩ r (p.modBay b fun x => { x with link := .locked }) := h.modBay (.of_eq rfl rfl rfl rfl)
  unfold Part.linkGained
  split
  · exact h.relocked
  · exact h.relocked
  · exact .ite (fun _ => hq.issueSpinUp) fun _ => hq
  · exact h

theorem startFails {b : Fin 4} : Keeps ⟨m, s, a, False⟩ r (p.startFails b) :=
  .ite (fun hs => h.recordError.enterFault (by simp [Part.recordError, hs, Power.plain])) fun _ => h

theorem tickStart {b : Fin 4} : Keeps ⟨m, s, a, False⟩ r (p.tickStart b) := by
  unfold Part.tickStart
  split
  · exact h
  next n _ =>
    have hq : Keeps ⟨m, s, a, False⟩ r (p.modBay b fun x => { x with startLeft := some (tickDown n) }) :=
      h.modBay (.of_eq rfl rfl rfl rfl)
    exact .ite (fun _ => hq.startFails) fun _ => hq

theorem tickIdle {b : Fin 4} : Keeps ⟨m, s, a, False⟩ r (p.tickIdle b) := by
  have hq : ∀ n, Keeps ⟨m, s, a, False⟩ r (p.modBay b fun x => { x with idle := n }) :=
    fun n => h.modBay (.of_eq rfl rfl rfl rfl)
  exact .ite (fun _ => .ite (fun _ => (hq _).stopOrder) fun _ => hq _)
    fun _ => .ite (fun _ => .ite (fun _ => (hq _).powerOffOrder) fun _ => hq _) fun _ => h

theorem passStarts {w : Fin 16} : Keeps ⟨m, s, a, False⟩ r (p.passStarts w) := by
  unfold Part.passStarts
  dsimp only
  split
  · exact h
  · exact .ite (fun _ => h.wakeBay.wakeBay) fun _ => h

theorem patrolFallsDue {w : Fin 16} : Keeps ⟨m, s, a, False⟩ r (p.patrolFallsDue w) :=
  passStarts (.ite (fun _ => h.modWindow) fun _ => h.modWindow.seekNext)

theorem tickPatrol {w : Fin 16} : Keeps ⟨m, s, a, False⟩ r (p.tickPatrol w) :=
  .ite (fun _ => .ite (fun _ => h.patrolFallsDue) fun _ => h.modWindow) fun _ => h

end Keeps

end Part

end Sys2Proof.Machine
end

section
/-! PROOFS. What the box power states, the box clock and the tick keep (chapters 7 and 9). -/

set_option Elab.async false

namespace Sys2Proof.Machine

open Sys2Proof

namespace Part

/-- The SP rail is off and the start queue holds no entry of the SP. -/
def SpOut (p : Part) : Prop := StartEntry.sp ∉ p.power.startQueue ∧ p.power.spRail = false

theorem SpOut.of_eq {p q : Part} (h : p.SpOut) (hq : q.power = p.power) : q.SpOut := by
  unfold SpOut at h ⊢
  rwa [hq]

/-- With the SP out, every box state but WAKING agrees with it. -/
theorem SpOut.spInv {p : Part} (h : p.SpOut) (hst : p.box.st ≠ some .waking) : p.SpInv :=
  ⟨iff_of_false h.1 fun ⟨hw, _⟩ => hst hw, fun hr => by simp [h.2] at hr⟩

/-- Outside WAKING, a box whose rail is off has the SP out. -/
theorem SpInv.spOut {p : Part} (h : p.SpInv) (hst : p.box.st ≠ some .waking) (hr : p.power.spRail = false) : p.SpOut :=
  ⟨fun hm => hst (h.1.1 hm).1, hr⟩

/-- In SLEEP, in DORMANT and while the box state is absent the SP is out. -/
theorem SpInv.spOut_of_st {p : Part} (h : p.SpInv) (hst : p.box.st = none ∨ p.box.st = some .sleep ∨ p.box.st = some .dormant) :
    p.SpOut := by
  refine h.spOut (by rcases hst with e | e | e <;> simp [e]) ?_
  by_contra hr
  rcases h.2 (by simpa using hr) with e | e | e <;> rcases hst with e' | e' | e' <;> simp [e] at e'

theorem spRailOff_spOut {p : Part} (h : StartEntry.sp ∉ p.power.startQueue) : p.spRailOff.SpOut := by
  unfold spRailOff
  split
  · have hs := ((Keeps.refl ⟨True, True, True, True⟩
      ({ p with power := { p.power with spRail := false, spInUse := none, tSpLeft := none } } : Part)).ppReset).steady trivial
    exact ⟨fun hm => h (hs.sp.1 hm), hs.rail⟩
  · exact ⟨h, by simpa using ‹¬p.power.spRail = true›⟩

theorem spRailOff_st (p : Part) : p.spRailOff.box.st = p.box.st := by
  unfold spRailOff
  split
  · exact (((Keeps.refl ⟨True, True, True, True⟩
      ({ p with power := { p.power with spRail := false, spInUse := none, tSpLeft := none } } : Part)).ppReset).steady trivial).st
  · rfl

/-- With the rail on the start queue holds no entry of the SP. -/
theorem SpInv.not_mem_of_rail {p : Part} (h : p.SpInv) (hr : p.power.spRail = true) : StartEntry.sp ∉ p.power.startQueue :=
  fun hm => by simp [(h.1.1 hm).2] at hr

/-- Once the SP's entry stands in the queue of a WAKING box with the rail off, they agree. -/
theorem insertSp_spInv {p : Part} (hst : p.box.st = some .waking) (hr : p.power.spRail = false) : p.insertSp.SpInv :=
  ⟨by simp [insertSp, hst, hr], fun hr' => by simp [insertSp, hr] at hr'⟩

theorem toState_st (p : Part) (st : BoxState) : (p.toState st).box.st = some st := by
  unfold toState
  extract_lets
  split <;> rfl

@[simp] theorem emptyHeld_power (p : Part) : p.emptyHeld.power = p.power := rfl

@[simp] theorem enterSleep_power (p : Part) : p.enterSleep.power = p.power := toState_power _ _

theorem enterSleep_st (p : Part) : p.enterSleep.box.st = some .sleep := toState_st _ _

namespace Keeps

section

variable {c : Claims} {r p : Part} (h : Keeps c r p)
include h

/-! ## Updates of the box record, the matcher, the ports and the loader -/

/-- A change of the box record that leaves the box state. -/
theorem setBox {x : Box} (hx : x.st = p.box.st := by simp) : Keeps c r { p with box := x } := h.same (hst := fun _ => hx)

theorem setMatcher {x : Matcher} : Keeps c r { p with matcher := x } := h.same

theorem setPp {x : PpPort} : Keeps c r { p with pp := x } := h.same

theorem setMp {x : MpPort} : Keeps c r { p with mp := x } := h.same

/-- A change of the loader's record that leaves the boot mode. -/
theorem setLoader {x : Loader} (hx : x.mode = p.loader.mode := by simp) : Keeps c r { p with loader := x } :=
  h.same (hmode := hx)

/-- A change of the power controller's figures. -/
theorem setPowerCtl {x : PowerCtl} (hq : x.startQueue = p.power.startQueue := by simp)
    (hr : x.spRail = p.power.spRail := by simp) : Keeps c r { p with power := x } :=
  h.same (hqueue := hq) (hrail := fun _ => hr)

theorem addReason {k : ReasonKind} : Keeps c r (p.addReason k) := by
  unfold Part.addReason
  exact h.setBox

theorem emptyHeld : Keeps c r p.emptyHeld := h.setMatcher

theorem hold {e : HeldEvent} : Keeps c r (p.hold e) := h.setBox

end

variable {m s a : Prop} {r p : Part}

/-! ## Entering a box state (R135, R136, R139) -/

/-- A change of the box record alone, the box state with it. -/
theorem setState {x : Box} (h : Keeps ⟨m, s, a, False⟩ r p) : Keeps ⟨m, False, a, False⟩ r { p with box := x } :=
  h.butSp.same (hrail := by simp) (hst := by simp)

theorem toState (h : Keeps ⟨m, s, a, False⟩ r p) {st : BoxState} : Keeps ⟨m, False, a, False⟩ r (p.toState st) :=
  .ite (fun _ => h.setState.seekNext) fun _ => h.setState

/-- The SP's entry joins the queue at its head. -/
theorem insertSp (h : Keeps ⟨m, False, a, False⟩ r p)
    (hsp : s → r.BaysInv → r.SpInv → p.box.st = some .waking ∧ p.power.spRail = false) :
    Keeps ⟨m, s, a, False⟩ r p.insertSp where
  pool i := (h.pool i).of_eq
  log i := (h.log i).of_keys
  queue i := (h.queue i).of_le
  readOnly i := (h.readOnly i).of_le
  bays i := by
    obtain ⟨hn, hbay, hpres⟩ := h.bays i
    refine ⟨List.nodup_cons.2 ⟨by simp, hn.filter _⟩, fun b => Iff.trans ?_ (hbay b), hpres⟩
    simp [Part.insertSp]
  sp hs hb hi := insertSp_spInv (hsp hs hb hi).1 (hsp hs hb hi).2
  alarm hc i := (h.alarm hc i).of_eq
  steady := False.elim

/-- The SP's entry leaves the queue. -/
theorem removeSp (h : Keeps ⟨m, False, a, False⟩ r p) : Keeps ⟨m, False, a, False⟩ r p.removeSp where
  pool i := (h.pool i).of_eq
  log i := (h.log i).of_keys
  queue i := (h.queue i).of_le
  readOnly i := (h.readOnly i).of_le
  bays i := by
    obtain ⟨hn, hbay, hpres⟩ := h.bays i
    refine ⟨hn.filter _, fun b => Iff.trans ?_ (hbay b), hpres⟩
    simp [Part.removeSp]
  sp := False.elim
  alarm hc i := (h.alarm hc i).of_eq
  steady := False.elim

theorem enterSleep (h : Keeps ⟨m, False, a, False⟩ r p) (hsp : s → r.BaysInv → r.SpInv → p.SpOut) :
    Keeps ⟨m, s, a, False⟩ r p.enterSleep := by
  refine andSp (setBox h.emptyHeld.toState) fun hs hb hi => ?_
  exact ((hsp hs hb hi).of_eq p.enterSleep_power).spInv (by simp [enterSleep_st])

theorem enterDormant (h : Keeps ⟨m, False, a, False⟩ r p) (hsp : s → r.BaysInv → r.SpInv → p.SpOut) :
    Keeps ⟨m, s, a, False⟩ r p.enterDormant := by
  have hq : Keeps ⟨m, False, a, False⟩ r (p.emptyHeld.toState .dormant) := h.emptyHeld.toState
  refine foldl (fun _ _ hq => hq.orderBay) (andSp hq.setBox fun hs hb hi => ?_) _
  refine ((hsp hs hb hi).of_eq (toState_power p.emptyHeld .dormant)).spInv fun e => ?_
  simpa using (toState_st p.emptyHeld .dormant).symm.trans e

theorem enterWaking (h : Keeps ⟨m, False, a, False⟩ r p) (hsp : s → r.BaysInv → r.SpInv → p.SpOut) :
    Keeps ⟨m, s, a, False⟩ r p.enterWaking := by
  refine insertSp (setBox h.toState) fun hs hb hi => ⟨toState_st p .waking, ?_⟩
  exact (congrArg PowerCtl.spRail (toState_power p .waking)).trans (hsp hs hb hi).2

/-! ## Wake events (R133, R134, R137) -/

theorem woken (h : Keeps ⟨m, s, a, False⟩ r p) (hst : p.box.st = some .draining) : Keeps ⟨m, s, a, False⟩ r p.woken := by
  have hq : Keeps ⟨m, s, a, False⟩ r { p with box := { p.box with
      st := some .run, phase := none, target := none, pendingSleep := none } } := by
    refine andSp (setState h) fun hs hb hi => ?_
    obtain ⟨hsp, hrail⟩ := h.sp hs hb hi
    rw [hst] at hsp
    exact ⟨iff_of_false (fun hm => by simpa using hsp.1 hm) (by simp), fun _ => .inl rfl⟩
  unfold Part.woken
  dsimp only
  split
  · exact hq
  · exact hq.handPp

theorem wakeEvent (h : Keeps ⟨m, s, a, False⟩ r p) {k : ReasonKind} : Keeps ⟨m, s, a, False⟩ r (p.wakeEvent k) := by
  have hout : p.box.st = some .sleep ∨ p.box.st = some .dormant → s → r.BaysInv → r.SpInv → (p.addReason k).SpOut :=
    fun hst hs hb hi => ((h.sp hs hb hi).spOut_of_st (.inr hst)).of_eq (addReason_power p k)
  unfold Part.wakeEvent
  split
  · exact h
  · exact h
  · exact .ite (fun _ => h.addReason.woken ‹_›) fun _ => h.addReason
  · exact h.addReason.butSp.enterWaking (hout (.inl ‹_›))
  · exact h.addReason.butSp.enterWaking (hout (.inr ‹_›))
  · exact h.addReason

theorem takeAlarm (h : Keeps ⟨m, s, a, False⟩ r p) {id : Fin 8} {l : List (Fin 4)} :
    Keeps ⟨m, s, a, False⟩ r (p.takeAlarm id l) :=
  requestStarts (.ite (fun _ => h.raise) fun _ => h.wakeEvent)

theorem shortPress (h : Keeps ⟨m, s, a, False⟩ r p) : Keeps ⟨m, s, a, False⟩ r p.shortPress :=
  .ite (fun _ => h.raise) fun _ => h.wakeEvent

theorem takeAttach (h : Keeps ⟨m, s, a, False⟩ r p) : Keeps ⟨m, s, a, False⟩ r p.takeAttach := by
  have hq : Keeps ⟨m, s, a, False⟩ r (if p.box.st = some .dormant then p.enterSleep else p) :=
    .ite (fun hst => h.butSp.enterSleep fun hs hb hi => (h.sp hs hb hi).spOut_of_st (.inr (.inr hst))) fun _ => h
  exact .ite (fun _ => hq.wakeEvent) fun _ => hq

/-! ## Going to sleep and forced stops (R132, R134, R141, R142) -/

theorem drainEnds (h : Keeps ⟨m, s, a, False⟩ r p) : Keeps ⟨m, s, a, False⟩ r p.drainEnds := by
  unfold Part.drainEnds
  dsimp only
  split
  · exact h.setBox
  · exact h.setBox.handPp

theorem beginGrace (h : Keeps ⟨m, s, a, False⟩ r p) : Keeps ⟨m, s, a, False⟩ r p.beginGrace := h.setBox

theorem spRailOff (h : Keeps ⟨m, False, a, False⟩ r p) : Keeps ⟨m, False, a, False⟩ r p.spRailOff := by
  refine .ite (fun _ => ppReset ?_) fun _ => h
  exact h.same (hrail := by simp)

theorem graceEnds (h : Keeps ⟨m, s, a, False⟩ r p) (hst : p.inGrace = true) : Keeps ⟨m, s, a, False⟩ r p.graceEnds := by
  have hst' : p.box.st = some .draining := by
    simp only [inGrace, Bool.and_eq_true, beq_iff_eq] at hst
    exact hst.1
  have hout : s → r.BaysInv → r.SpInv → p.spRailOff.SpOut := fun hs hb hi =>
    spRailOff_spOut fun hm => by simpa [hst'] using (h.sp hs hb hi).1.1 hm
  have hq := h.butSp.spRailOff
  refine .ite (fun _ => ?_) fun _ => .ite (fun _ => ?_) fun _ => ?_
  · exact enterWaking hq.setBox.emptyHeld hout
  · exact enterSleep hq.setBox.emptyHeld hout
  · exact enterDormant hq.setBox.emptyHeld hout

theorem resumeExpires (h : Keeps ⟨m, s, a, False⟩ r p) (hst : p.box.st = some .waking) (hr : p.power.spRail = true) :
    Keeps ⟨m, s, a, False⟩ r p.resumeExpires := by
  have hout : s → r.BaysInv → r.SpInv → p.spRailOff.SpOut := fun hs hb hi =>
    spRailOff_spOut ((h.sp hs hb hi).not_mem_of_rail hr)
  have hq := h.butSp.spRailOff
  refine .ite (fun _ => ?_) fun _ => ?_
  · exact enterSleep hq.setBox.raise fun hs hb hi => (hout hs hb hi).of_eq (by simp)
  · exact insertSp hq.setBox fun hs hb hi => ⟨(spRailOff_st p).trans hst, (hout hs hb hi).2⟩

theorem forcedStop (h : Keeps ⟨m, s, a, False⟩ r p) : Keeps ⟨m, s, a, False⟩ r p.forcedStop := by
  have hout : p.removeSp.spRailOff.SpOut := spRailOff_spOut (by simp [Part.removeSp])
  have hq := h.butSp.removeSp.spRailOff
  refine .ite (fun _ => h) fun _ => .ite (fun _ => ?_) fun _ => ?_
  · exact enterSleep hq.setBox fun _ _ _ => hout
  · exact enterDormant hq.setBox fun _ _ _ => hout

theorem linkResetBox (h : Keeps ⟨m, s, a, False⟩ r p) : Keeps ⟨m, s, a, False⟩ r p.linkResetBox := by
  refine .ite (fun hst => ?_) fun _ => h
  split
  · refine andSp (setState h) fun hs hb hi => ?_
    obtain ⟨hsp, -⟩ := h.sp hs hb hi
    rw [hst] at hsp
    exact ⟨iff_of_false (fun hm => by simpa using hsp.1 hm) (by simp), fun _ => .inl rfl⟩
  · exact h.beginGrace
  · exact h

/-! ## Events held during start-up (R144) -/

theorem takeHeld (h : Keeps ⟨m, s, a, False⟩ r p) {e : HeldEvent} : Keeps ⟨m, s, a, False⟩ r (p.takeHeld e) := by
  cases e with
  | alarm id l => exact h.takeAlarm
  | shortPress => exact h.shortPress
  | longPress => exact h.forcedStop
  | attach => exact h.takeAttach
  | boxWake => exact h.wakeEvent
  | forceDormant => exact .ite (fun _ => h) fun _ => h.forcedStop

theorem firstState (h : Keeps ⟨m, s, a, False⟩ r p) (hst : p.box.st = none) : Keeps ⟨m, s, a, False⟩ r p.firstState := by
  have hout : s → r.BaysInv → r.SpInv → p.SpOut := fun hs hb hi => (h.sp hs hb hi).spOut_of_st (.inl hst)
  have hq : Keeps ⟨m, False, a, False⟩ r { p with box := { p.box with heldEvents := [] } } := h.setBox.butSp
  exact foldl (fun _ _ hq => hq.takeHeld) (.ite (fun _ => hq.enterWaking hout)
    fun _ => .ite (fun _ => hq.enterSleep hout) fun _ => hq.enterDormant hout) _

/-! ## Alarms and ticks (chapters 7 and 9) -/

theorem setClock (h : Keeps ⟨m, s, a, False⟩ r p) {x : Clock} : Keeps ⟨m, s, False, False⟩ r { p with clock := x } where
  pool i := (h.pool i).of_eq
  log i := (h.log i).of_keys
  queue i := (h.queue i).of_le fun _ => le_rfl
  readOnly i := (h.readOnly i).of_le rfl (fun _ => id) fun _ ho _ => ho
  bays i := (h.bays i).of_eq rfl (fun _ => rfl) fun _ => rfl
  sp hc j i := (h.sp hc j i).of_eq
  alarm := False.elim
  steady := False.elim

theorem handAlarm (h : Keeps ⟨m, s, False, False⟩ r p) {x : Alarm} : Keeps ⟨m, s, False, False⟩ r (p.handAlarm x) :=
  .ite (fun _ => .ite (fun _ => h) fun _ => h.setClock) fun _ => .ite (fun _ => h.hold) fun _ => h.takeAlarm

theorem expireHead (h : Keeps ⟨m, s, False, False⟩ r p) : Keeps ⟨m, s, False, False⟩ r p.expireHead := by
  unfold Part.expireHead
  split
  · exact h
  · dsimp only
    split
    · exact h.setClock.handAlarm
    · exact h.setClock.handAlarm.setClock

theorem expiryPass (h : Keeps ⟨m, s, False, False⟩ r p) : Keeps ⟨m, s, False, False⟩ r p.expiryPass :=
  h.foldl (fun _ _ hq => .ite (fun _ => hq.expireHead) fun _ => hq) _

theorem spSettled (h : Keeps ⟨m, s, a, False⟩ r p) : Keeps ⟨m, s, a, False⟩ r p.spSettled := h.setPowerCtl

theorem tickSp (h : Keeps ⟨m, s, a, False⟩ r p) : Keeps ⟨m, s, a, False⟩ r p.tickSp := by
  unfold Part.tickSp
  split
  · exact h
  · exact .ite (fun _ => h.spSettled) fun _ => h.setPowerCtl

theorem tickGrace (h : Keeps ⟨m, s, a, False⟩ r p) : Keeps ⟨m, s, a, False⟩ r p.tickGrace := by
  unfold Part.tickGrace
  split
  · exact h
  · exact .ite (fun _ => h) fun hg => .ite (fun _ => h.graceEnds (by simpa using hg)) fun _ => h.setBox

theorem tickResume (h : Keeps ⟨m, s, a, False⟩ r p) : Keeps ⟨m, s, a, False⟩ r p.tickResume := by
  unfold Part.tickResume
  split
  · exact h
  · refine .ite (fun _ => h) fun hg => .ite (fun _ => ?_) fun _ => h.setBox
    simp only [not_or, not_not, Bool.not_eq_true', Bool.not_eq_false] at hg
    exact h.resumeExpires hg.1 hg.2

theorem tickMain (h : Keeps ⟨m, s, a, False⟩ r p) : Keeps ⟨m, s, a, False⟩ r p.tickMain := by
  have h1 : Keeps ⟨m, s, a, False⟩ r (allBays.foldl Part.tickStart p) := h.foldl (fun _ _ hq => hq.tickStart) _
  have h2 : Keeps ⟨m, s, a, False⟩ r (allBays.foldl Part.tickIdle ((((allBays.foldl Part.tickStart p).tickSp).tickGrace).tickResume)) :=
    h1.tickSp.tickGrace.tickResume.foldl (fun _ _ hq => hq.tickIdle) _
  exact h2.foldl (fun _ _ hq => hq.tickPatrol) _

end Keeps

end Part

end Sys2Proof.Machine
end

section
/-! PROOFS. What the ports, the commands of every owner and the configuration loader keep (chapters 1, 3, 4, 6 to 11). -/

set_option Elab.async false

namespace Sys2Proof.Machine

open Sys2Proof

namespace Part

namespace Keeps

section

variable {c : Claims} {r p : Part} (h : Keeps c r p)
include h

/-! ## The processor port (sections 10.1 to 10.6) -/

theorem readRecord : Keeps c r p.readRecord := h.emit rfl

theorem fetched : Keeps c r p.fetched := h.readRecord.setPp

theorem readOperands {bytes : List Byte} : Keeps c r (p.readOperands bytes) := by
  unfold Part.readOperands
  split
  · exact h
  · exact h.emit rfl

theorem noticeError : Keeps c r p.noticeError := h.setPp

theorem setupWord {w : SetupWord} {v : Nat} : Keeps c r (p.setupWord w v) := by
  refine .ite (fun _ => h) fun _ => ?_
  cases w <;> exact h.setPp

theorem ringStart {v : Nat} : Keeps c r (p.ringStart v) :=
  .ite (fun _ => h) fun _ => .ite (fun _ => .ite (fun _ => h.setPp.emit rfl) fun _ => h.setPp) fun _ => h.noticeError

theorem tailNotice {v : Nat} : Keeps c r (p.tailNotice v) :=
  .ite (fun _ => h) fun _ => .ite (fun _ => h.setPp) fun _ => h.noticeError

theorem headNotice {v : Nat} : Keeps c r (p.headNotice v) :=
  .ite (fun _ => h) fun _ => .ite (fun _ => h.setPp) fun _ => h.noticeError

theorem maskWrite {w : Word16} : Keeps c r (p.maskWrite w) := .ite (fun _ => h.setPp.emit rfl) fun _ => h.setPp

theorem fetchError : Keeps c r p.fetchError := h.readRecord.setPp

theorem postOne : Keeps c r p.postOne := by
  unfold Part.postOne
  split
  · exact h
  next x rest _ =>
    have hq : Keeps c r (p.emit (.completion (p.pp.compBase + 16 * p.pp.compPos) (completionBytes x p.pp.phase false))) :=
      h.emit rfl
    exact .ite (fun _ => hq.setPp.setBox) fun _ => hq.setPp

/-- Reads and writes of SP memory are put out. -/
theorem addOutputs {l : List Output} (hl : ∀ o ∈ l, writesDrive o = false) : Keeps c r { p with out := p.out ++ l } := by
  refine h.same (hout := fun o ho hw => ?_)
  rcases List.mem_append.1 ho with ho | ho
  · exact ho
  · simp [hl o ho] at hw

theorem deliverBlocks {x : Request} {list : List Byte} : Keeps c r (p.deliverBlocks x list) := by
  refine h.addOutputs fun o ho => ?_
  rcases List.mem_cons.1 ho with rfl | ho
  · rfl
  · obtain ⟨y, -, rfl⟩ := List.mem_map.1 ho
    rfl

theorem takeBlocks {x : Request} {list : List Byte} {k : Nat} {data : List Byte} :
    Keeps c r (p.takeBlocks x list k data) := by
  have hq : Keeps c r { p with out := p.out ++ listRead x ::
      ((bufferAddresses x.count list).take k).map fun a => .spRead a Config.blockBytes } := by
    refine h.addOutputs fun o ho => ?_
    rcases List.mem_cons.1 ho with rfl | ho
    · rfl
    · obtain ⟨y, -, rfl⟩ := List.mem_map.1 ho
      rfl
  exact hq.setData fun hm => writeStream_wf _ hm _ _

theorem writeTaken {tag : Tag} {list data : List Byte} : Keeps c r (p.writeTaken tag list data) := by
  unfold Part.writeTaken
  split
  · exact h
  · exact h.takeBlocks.modRequest

theorem readDelivered {tag : Tag} {list : List Byte} : Keeps c r (p.readDelivered tag list) := by
  unfold Part.readDelivered
  split
  · exact h
  · exact h.deliverBlocks.complete

theorem listError {tag : Tag} {came : List Byte} : Keeps c r (p.listError tag came) := by
  unfold Part.listError
  split
  · exact h.takeBlocks.complete
  · split
    · exact h.deliverBlocks.complete
    · exact h

theorem blockError {tag : Tag} {list : List Byte} {i : Nat} {data : List Byte} :
    Keeps c r (p.blockError tag list i data) := by
  unfold Part.blockError
  split
  · exact h
  · exact .ite (fun _ => h.takeBlocks.complete) fun _ => h

/-! ## The direct port (section 10.7) and the management port (section 11.1) -/

theorem taken : Keeps c r p.taken := h.setDp

theorem framingError : Keeps c r p.framingError := h.setDp

theorem dpWrite {x : Ask} : Keeps c r (p.dpWrite x) :=
  .ite (fun _ => h.takeRequest.setDp) fun _ => .ite (fun _ => h.takeRequest.setDp) fun _ => h.takeRequest

theorem dpData {bytes : List Byte} : Keeps c r (p.dpData bytes) := by
  refine .ite (fun _ => h) fun _ => ?_
  split
  · exact h
  next x _ =>
    have hq (l : List Nat) (at_ n : Nat) : Keeps c r { p with
        router := { p.router with data := writeStream l p.router.data at_ (bytes.take n) }
        dp := { p.dp with remaining := p.dp.remaining - n } } := (h.setData fun hm => writeStream_wf _ hm _ _).setDp
    exact .ite (fun _ => .ite (fun _ => ((hq _ _ _).setDp.modRequest).framingError) fun _ => (hq _ _ _).setDp.modRequest)
      fun _ => hq _ _ _

theorem dpDiscard {n : Nat} : Keeps c r (p.dpDiscard n) :=
  .ite (fun _ => h) fun _ => .ite (fun _ => h.setDp) fun _ => h.setDp

theorem dpReadSent : Keeps c r p.dpReadSent := by
  unfold Part.dpReadSent
  split
  · split
    · exact h.setDp
    · exact setDp (removeRequest (h.emit rfl))
  · exact h

theorem dpCompletionSent : Keeps c r p.dpCompletionSent := by
  unfold Part.dpCompletionSent
  split
  next ans x rest _ =>
    refine setDp (emit ?_ rfl)
    cases ans
    · exact h
    · exact h.emit rfl
  · exact h

theorem detach : Keeps c r p.detach := by
  refine .ite (fun _ => ?_) fun _ => h
  have hq : Keeps c r { p.dropPort .dp with dp := { framing := (p.dropPort .dp).dp.framing } } := h.dropPort.setDp
  exact raise (hq.setBox (x := { (p.dropPort .dp).box with
    heldEvents := (p.dropPort .dp).box.heldEvents.filter fun e => e != .attach }) rfl)

theorem overrun : Keeps c r p.overrun := h.setMp

theorem frameTaken {seq : Byte} {kind : Option Kind} : Keeps c r (p.frameTaken seq kind) := h.setMp

theorem sendPending {n : Nat} : Keeps c r (p.sendPending n) := h.setMp.emit rfl

theorem mpRead {n : Nat} : Keeps c r (p.mpRead n) := by
  unfold Part.mpRead
  split
  · exact h.emit rfl
  · split
    · exact h.sendPending
    · exact .ite (fun _ => h) fun _ => h.setMp
  · exact h.sendReply

theorem holdTimeout : Keeps c r p.holdTimeout := by
  unfold Part.holdTimeout
  split
  · exact h.sendPending
  · exact h

/-! ## Commands that start nothing -/

/-- A command whose checks are made first: refused, it is answered; taken, it does `f`. -/
theorem checked {who : Answerer} {l : List (Bool × Status)} {f : Part → Part} (hf : Keeps c r (f p)) :
    Keeps c r (p.checked who l f) := by
  unfold Part.checked
  split
  · exact h.reply
  · exact hf

theorem onWindow {who : Answerer} {n : Nat} {f : Fin 16 → Part → Part} (hf : ∀ w, Keeps c r (f w p)) :
    Keeps c r (p.onWindow who n f) := by
  unfold Part.onWindow
  split
  · exact hf _
  · exact h.reply

theorem onBay {who : Answerer} {n : Nat} {f : Fin 4 → Part → Part} (hf : ∀ b, Keeps c r (f b p)) :
    Keeps c r (p.onBay who n f) := by
  unfold Part.onBay
  split
  · exact hf _
  · exact h.reply

theorem recordWindow {w : Fin 16} {d : WindowDef} : Keeps c r (p.recordWindow w d) := by
  unfold Part.recordWindow
  exact h.modWindow

theorem windowDefine {d : WindowDef} {who : Answerer} : Keeps c r (p.windowDefine d who) :=
  h.onWindow fun _ => h.checked h.recordWindow.reply

theorem windowDelete {i : Nat} {who : Answerer} : Keeps c r (p.windowDelete i who) :=
  h.onWindow fun _ => h.checked h.modWindow

theorem replaceMember {i : Nat} {which : Option Side} {b base : Nat} {who : Answerer} :
    Keeps c r (p.replaceMember i which b base who) := by
  unfold Part.replaceMember
  split
  · exact .ite (fun _ => h.checked h.modWindow.startRebuild.reply) fun _ => h.reply
  · exact h.reply

theorem windowInfo {i : Option Nat} {who : Answerer} : Keeps c r (p.windowInfo i who) := by
  unfold Part.windowInfo
  split
  · exact h.answer
  · exact h.answer
  · exact h.onWindow fun _ => h.answer

theorem bayInfo {n : Nat} {who : Answerer} : Keeps c r (p.bayInfo n who) := h.onBay fun _ => h.answer

/-- The service hold is released and the bay asked to start. -/
theorem holdReleased {b : Fin 4} : Keeps c r ((p.modBay b fun x => { x with serviceHold := false }).requestStart b) := by
  refine requestStart (h.modBay ?_)
  exact .of_eq rfl rfl rfl rfl

theorem baySpin {n : Nat} {who : Answerer} : Keeps c r (p.baySpin n who) := by
  have hgo (b : Fin 4) : Keeps c r (if (p.bay b).serviceHold then
      if who = .mp then ((p.modBay b fun x => { x with serviceHold := false }).requestStart b).reply who .ok
      else p.reply who .wrongState else (p.requestStart b).reply who .ok) :=
    .ite (fun _ => .ite (fun _ => h.holdReleased.reply) fun _ => h.reply) fun _ => h.requestStart.reply
  refine h.onBay fun b => ?_
  dsimp only
  split
  · exact h.reply
  · exact h.reply
  all_goals exact hgo b

theorem bayQuery {n : Nat} {noWake : Bool} {who : Answerer} : Keeps c r (p.bayQuery n noWake who) := by
  refine h.onBay fun b => ?_
  have hq : Keeps c r (p.modBay b fun x => { x with healthPending := true, queryHeld := true }) := by
    refine h.modBay ?_
    exact .of_eq rfl rfl rfl rfl
  have hgo : Keeps c r (if noWake ∨ (p.bay b).serviceHold then p.answer who .ok (.health (p.bay b).health)
      else (p.modBay b fun x => { x with healthPending := true, queryHeld := true }).requestStart b) :=
    .ite (fun _ => h.answer) fun _ => hq.requestStart
  dsimp only
  split
  · exact hq
  · exact hgo
  · exact hgo
  · exact hgo
  · exact hgo
  · exact hgo
  · exact h.reply
  · exact h.answer

theorem budgetSet {b l : Nat} {who : Answerer} : Keeps c r (p.budgetSet b l who) :=
  .ite (fun _ => h.setPowerCtl.reply) fun _ => h.reply

theorem profileSet {x : ProfileArgs} {who : Answerer} : Keeps c r (p.profileSet x who) := by
  cases x with
  | bay n y =>
    unfold Part.profileSet
    refine h.onBay fun b => ?_
    refine .ite (fun _ => ?_) fun _ => h.reply
    refine reply (h.modBay ?_)
    exact .of_eq rfl rfl rfl rfl
  | sp y => exact .ite (fun _ => h.setPowerCtl.reply) fun _ => h.reply

theorem abandonPatrol {w : Fin 16} : Keeps c r (p.abandonPatrol w) := by
  unfold Part.abandonPatrol
  split
  · exact .ite (fun _ => h.abandonChunk) fun _ => h
  · exact h

theorem patrolSet {x : PatrolArgs} {who : Answerer} : Keeps c r (p.patrolSet x who) :=
  h.onWindow fun _ => h.checked (reply (.ite (fun _ => h.modWindow.abandonPatrol) fun _ => h.modWindow))

theorem setWake {i : Nat} {e : Option WakeEntry} : Keeps c r (p.setWake i e) := h.setMatcher

theorem wakeEntrySet {x : WakeArgs} {who : Answerer} : Keeps c r (p.wakeEntrySet x who) := by
  unfold Part.wakeEntrySet
  split
  · exact .ite (fun _ => h.setWake.reply) fun _ => h.reply
  · exact .ite (fun _ => h.setWake.reply) fun _ => h.reply
  · exact h.reply

theorem stationSet {x : StationArgs} {who : Answerer} : Keeps c r (p.stationSet x who) :=
  .ite (fun _ => h.setMatcher.reply) fun _ => h.reply

theorem modMatcher {f : Matcher → Matcher} : Keeps c r (p.modMatcher f) := h.setMatcher

theorem holdFrame {source : Option (Fin 24)} {f : List Byte} : Keeps c r (p.holdFrame source f) := h.modMatcher

theorem frameFetch {who : Answerer} : Keeps c r (p.frameFetch who) := by
  unfold Part.frameFetch
  split
  · refine .ite (fun _ => h.reply) fun _ => .ite (fun _ => h.reply) fun _ => ?_
    split
    · exact h.reply
    · exact .ite (fun _ => h.answer) fun _ => h.modMatcher
  · exact h

theorem transferDone : Keeps c r p.transferDone := by
  unfold Part.transferDone
  split
  · exact answer (modMatcher (h.emit rfl))
  · exact h

theorem noticeClear {w : Word16} {who : Answerer} : Keeps c r (p.noticeClear w who) := by
  refine reply ?_
  split
  · exact h.setMp
  · exact h.setPp

theorem mpMode {x : Option MpMode} {who : Answerer} : Keeps c r (p.mpMode x who) := by
  cases x
  · exact h.reply
  · exact h.setMp.reply

theorem statusCmd {first : Nat} {who : Answerer} : Keeps c r (p.statusCmd first who) := h.answerFrom

/-! ## The configuration loader (section 11.3) -/

theorem takeWindow {x : Settings} {w : ImageWindow} : Keeps c r (p.takeWindow x w) := by
  unfold Part.takeWindow
  split
  · exact h
  · exact h.modWindow

theorem takeProfiles {l : List BayProfile} : Keeps c r (p.takeProfiles l) := by
  refine h.foldl (fun q b hq => hq.modBay ?_) _
  exact .of_eq rfl rfl rfl rfl

theorem takeBox {x : Settings} : Keeps c r (p.takeBox x) := h.setBox

theorem judgeKnown : Keeps c r p.judgeKnown := by
  refine h.foldl (fun q b hq => ?_) _
  split
  · exact hq
  · exact hq.foreignCheck

theorem setWindows {v : Vector Window 16} : Keeps c r { p with windows := v } := h.same

theorem putInForce {x : Settings} : Keeps c r (p.putInForce x) := by
  unfold Part.putInForce
  refine judgeKnown (takeBox (foldl (fun _ _ hq => hq.takeWindow) (takeProfiles ?_) _))
  have h1 : Keeps c r { p with power := { p.power with budget := x.budget, bLow := x.bLow, spProfile := x.sp } } :=
    h.setPowerCtl
  exact h1.setWindows.setMatcher

theorem loadEnds {v : Except FailReason Settings} : Keeps c r (p.loadEnds v) := by
  cases v
  · exact h.putInForce.setLoader.raise
  · exact h.putInForce.setLoader

theorem configLoad {who : Answerer} : Keeps c r (p.configLoad who) := h.checked h.setLoader

theorem configSave {who : Answerer} : Keeps c r (p.configSave who) := h.checked ((h.setLoader.emit rfl).emit rfl)

theorem readBack {img : List Byte} : Keeps c r (p.readBack img) := by
  have hq : Keeps c r (p.emit (.eeprom 0 (p.loader.image.take Config.imageHeader))) := h.emit rfl
  exact .ite (fun _ => h) fun _ => .ite (fun _ => hq.setLoader.answer) fun _ => hq.setLoader.raise.answer

end

end Keeps

end Part

end Sys2Proof.Machine
end

section
/-! PROOFS. The alarm list (chapter 9): the expiry pass leaves no alarm at or before the counter, and with it every command that
writes the clock keeps the list's invariant (O3). -/

set_option Elab.async false

namespace Sys2Proof.Machine

open Sys2Proof

namespace Part

/-- The alarm list's invariant without its last clause, that every alarm lies after the counter: what holds between a change of the
clock and the end of the expiry pass. -/
def ListInv (p : Part) : Prop :=
  p.clock.counter ≤ Config.maxSeconds
    ∧ p.clock.alarms.length ≤ Config.alarmLimit
    ∧ (p.clock.alarms.map fun a => a.id).Nodup
    ∧ p.clock.alarms.Pairwise (fun a b => a.time ≤ b.time)
    ∧ ∀ a ∈ p.clock.alarms, a.time ≤ Config.maxSeconds

theorem alarmInv_iff {p : Part} : p.AlarmInv ↔ p.ListInv ∧ ∀ a ∈ p.clock.alarms, p.clock.counter < a.time := by
  unfold AlarmInv ListInv
  constructor
  · rintro ⟨hc, hn, hid, hs, ht⟩
    exact ⟨⟨hc, hn, hid, hs, fun a ha => (ht a ha).2⟩, fun a ha => (ht a ha).1⟩
  · rintro ⟨⟨hc, hn, hid, hs, ht⟩, hd⟩
    exact ⟨hc, hn, hid, hs, fun a ha => ⟨hd a ha, ht a ha⟩⟩

theorem rearm_some {a b : Alarm} {v : Nat} (h : rearm a v = some b) :
    b.id = a.id ∧ v < b.time ∧ b.time ≤ Config.maxSeconds := by
  rcases Nat.eq_zero_or_pos a.interval with hi | hi
  · simp [rearm, hi] at h
  · rw [rearm_of_repeating v hi] at h
    split at h
    next hfits =>
      cases h
      exact ⟨rfl, lt_add_stepsPast_mul hi, hfits⟩
    · cases h

/-- What is left of the list once its head has expired. -/
theorem expireHead_alarms {p : Part} {a : Alarm} {l : List Alarm} (h : p.clock.alarms = a :: l) :
    p.expireHead.clock.alarms = (match rearm a p.clock.counter with
      | none => l
      | some b => insertAlarm b l) := by
  cases hb : rearm a p.clock.counter with
  | none => rw [expireHead_of_rearm_none h hb]; exact handAlarm_alarms _ _
  | some b => rw [expireHead_of_rearm_some h hb]; rfl

@[simp] theorem expireHead_counter (p : Part) : p.expireHead.clock.counter = p.clock.counter := by
  cases h : p.clock.alarms with
  | nil => simp [expireHead, h]
  | cons a l =>
    cases hb : rearm a p.clock.counter with
    | none => rw [expireHead_of_rearm_none h hb]; exact handAlarm_counter _ _
    | some b => rw [expireHead_of_rearm_some h hb]; exact handAlarm_counter _ _

theorem alarmDue_iff {p : Part} : p.alarmDue = true ↔ ∃ a l, p.clock.alarms = a :: l ∧ a.time ≤ p.clock.counter := by
  unfold alarmDue
  cases p.clock.alarms <;> simp

theorem insertAlarm_perm (a : Alarm) (l : List Alarm) : (insertAlarm a l).Perm (a :: l) := by
  induction l with
  | nil => exact .refl _
  | cons x l ih =>
    unfold insertAlarm
    split
    · exact (ih.cons x).trans (.swap a x l)
    · exact .refl _

/-- The alarms of the list at or before the counter. -/
def dueCount (p : Part) : Nat := p.clock.alarms.countP fun a => decide (a.time ≤ p.clock.counter)

theorem expireHead_dueCount {p : Part} (h : p.alarmDue = true) : p.expireHead.dueCount + 1 = p.dueCount := by
  obtain ⟨a, l, hl, ha⟩ := alarmDue_iff.1 h
  unfold dueCount
  rw [expireHead_counter, expireHead_alarms hl, hl, List.countP_cons_of_pos (by simpa using ha)]
  cases hb : rearm a p.clock.counter with
  | none => rfl
  | some b =>
    obtain ⟨-, hlt, -⟩ := rearm_some hb
    simp only
    rw [(insertAlarm_perm b l).countP_eq, List.countP_cons_of_neg (by simpa using hlt)]

/-- Of a list in ascending time whose head is not due, no alarm is due. -/
theorem dueCount_eq_zero {p : Part} (hs : p.clock.alarms.Pairwise fun a b => a.time ≤ b.time) (h : p.alarmDue ≠ true) :
    p.dueCount = 0 := by
  unfold dueCount
  cases hl : p.clock.alarms with
  | nil => rfl
  | cons a l =>
    rw [hl, List.pairwise_cons] at hs
    have ha : p.clock.counter < a.time := by
      by_contra hc
      exact h (alarmDue_iff.2 ⟨a, l, hl, by omega⟩)
    refine List.countP_eq_zero.2 fun x hx => ?_
    rcases List.mem_cons.1 hx with rfl | hx
    · simpa using ha
    · simpa using ha.trans_le (hs.1 x hx)

theorem expireHead_sorted {p : Part} (hs : p.clock.alarms.Pairwise fun a b => a.time ≤ b.time) :
    p.expireHead.clock.alarms.Pairwise fun a b => a.time ≤ b.time := by
  cases hl : p.clock.alarms with
  | nil => simp [expireHead, hl]
  | cons a l =>
    rw [hl] at hs
    rw [expireHead_alarms hl]
    split
    · exact hs.of_cons
    · exact insertAlarm_sorted _ _ hs.of_cons

theorem expireHead_listInv {p : Part} (h : p.ListInv) : p.expireHead.ListInv := by
  obtain ⟨hc, hn, hid, hs, ht⟩ := h
  cases hl : p.clock.alarms with
  | nil =>
    have he : p.expireHead = p := by simp [expireHead, hl]
    rw [he]
    exact ⟨hc, hn, hid, hs, ht⟩
  | cons a l =>
    refine ⟨by rwa [expireHead_counter], ?_, ?_, expireHead_sorted hs, ?_⟩
    all_goals
      rw [hl] at hn hid ht
      rw [expireHead_alarms hl]
      cases hb : rearm a p.clock.counter with
      | none => ?_
      | some b => ?_
    case refine_1.none => simp only [List.length_cons] at hn ⊢; omega
    case refine_1.some => simpa [insertAlarm_length] using hn
    case refine_2.none => exact (List.nodup_cons.1 hid).2
    case refine_2.some =>
      refine (((insertAlarm_perm b l).map _).nodup_iff).2 ?_
      simpa [(rearm_some hb).1] using hid
    case refine_3.none => exact fun x hx => ht x (List.mem_cons_of_mem _ hx)
    case refine_3.some =>
      intro x hx
      rcases (mem_insertAlarm b x l).1 hx with rfl | hx
      · exact (rearm_some hb).2.2
      · exact ht x (List.mem_cons_of_mem _ hx)

/-- One step of the expiry pass. -/
def passStep (p : Part) (_ : Nat) : Part := if p.alarmDue then p.expireHead else p

theorem expiryPass_eq (p : Part) : p.expiryPass = (List.range p.clock.alarms.length).foldl passStep p := rfl

theorem passStep_sorted {p : Part} {i : Nat} (hs : p.clock.alarms.Pairwise fun a b => a.time ≤ b.time) :
    (p.passStep i).clock.alarms.Pairwise fun a b => a.time ≤ b.time := by
  unfold passStep
  split
  · exact expireHead_sorted hs
  · exact hs

theorem passStep_listInv {p : Part} {i : Nat} (h : p.ListInv) : (p.passStep i).ListInv := by
  unfold passStep
  split
  · exact expireHead_listInv h
  · exact h

@[simp] theorem passStep_counter (p : Part) (i : Nat) : (p.passStep i).clock.counter = p.clock.counter := by
  unfold passStep
  split <;> simp

theorem passStep_dueCount {p : Part} {i : Nat} (hs : p.clock.alarms.Pairwise fun a b => a.time ≤ b.time) :
    (p.passStep i).dueCount = p.dueCount - 1 := by
  unfold passStep
  split
  next h => rw [← expireHead_dueCount h]; rfl
  next h => rw [dueCount_eq_zero hs h]

theorem foldl_passStep_dueCount (l : List Nat) : ∀ {p : Part}, p.clock.alarms.Pairwise (fun a b => a.time ≤ b.time) →
    (l.foldl passStep p).dueCount = p.dueCount - l.length := by
  induction l with
  | nil => exact fun _ => rfl
  | cons i l ih =>
    intro p hs
    rw [List.foldl_cons, ih (passStep_sorted hs), passStep_dueCount hs, List.length_cons]
    omega

@[simp] theorem expiryPass_counter (p : Part) : p.expiryPass.clock.counter = p.clock.counter :=
  List.foldlRecOn (motive := fun q : Part => q.clock.counter = p.clock.counter) _ passStep rfl
    fun q hq i _ => (passStep_counter q i).trans hq

/-- The pass leaves no alarm at or before the counter: each step takes one, and there are no more of them than alarms. -/
theorem expiryPass_after {p : Part} (hs : p.clock.alarms.Pairwise fun a b => a.time ≤ b.time) :
    ∀ a ∈ p.expiryPass.clock.alarms, p.clock.counter < a.time := by
  have h0 : p.expiryPass.dueCount = 0 := by
    rw [expiryPass_eq, foldl_passStep_dueCount _ hs, List.length_range]
    exact Nat.sub_eq_zero_of_le List.countP_le_length
  intro a ha
  have := List.countP_eq_zero.1 h0 a ha
  simpa using this

theorem expiryPass_alarmInv {p : Part} (h : p.ListInv) : p.expiryPass.AlarmInv := by
  refine alarmInv_iff.2 ⟨List.foldlRecOn _ passStep h fun q hq i _ => passStep_listInv hq, ?_⟩
  rw [expiryPass_counter]
  exact expiryPass_after h.2.2.2.1

/-- Setting an alarm in place of any of its id: of eight ids no list without repetition has more than eight. -/
theorem insertAlarm_listInv {p : Part} {a : Alarm} (h : p.ListInv) (ht : a.time ≤ Config.maxSeconds) :
    (p.setAlarms (insertAlarm a (p.clock.alarms.filter fun x => x.id != a.id))).ListInv := by
  obtain ⟨hc, -, hid, hs, htimes⟩ := h
  have hids : ((insertAlarm a (p.clock.alarms.filter fun x => x.id != a.id)).map fun x => x.id).Nodup := by
    refine (((insertAlarm_perm _ _).map _).nodup_iff).2 ?_
    rw [List.map_cons, List.nodup_cons]
    exact ⟨by simp, hid.sublist (List.filter_sublist.map _)⟩
  refine ⟨hc, by simpa [setAlarms, Config.alarmLimit] using hids.length_le_card, hids, insertAlarm_sorted _ _ (hs.filter _), fun x hx => ?_⟩
  rcases (mem_insertAlarm _ _ _).1 hx with rfl | hx
  · exact ht
  · exact htimes x (List.mem_filter.1 hx).1

end Part

end Sys2Proof.Machine
end

section
/-! PROOFS. What the commands of the bays, the box, the box clock and the frames keep (chapters 3, 7, 8 and 9), and the direct port's
attach. -/

set_option Elab.async false

namespace Sys2Proof.Machine

open Sys2Proof

namespace Part

@[simp] theorem tickClock_counter (p : Part) : p.tickClock.clock.counter = bump Config.maxSeconds p.clock.counter := by
  unfold tickClock
  simp

namespace Keeps

variable {m s a : Prop} {r p : Part} (h : Keeps ⟨m, s, a, False⟩ r p)
include h

/-! ## The direct port's attach (R182) -/

theorem attach : Keeps ⟨m, s, a, False⟩ r p.attach := by
  have hq : Keeps ⟨m, s, a, False⟩ r
      (({ p with dp := { p.dp with attached := true, attachPending := true } } : Part).raise .dpAttach) := raise h.setDp
  exact .ite (fun _ => h) fun _ => .ite (fun _ => hq.hold) fun _ => hq.takeAttach

/-! ## Commands of the bays (R66, R69) -/

theorem bayStop {n : Nat} {who : Answerer} : Keeps ⟨m, s, a, False⟩ r (p.bayStop n who) := by
  unfold Part.bayStop
  refine h.onBay fun b => ?_
  dsimp only
  split
  · exact h.reply
  · exact h.reply
  · refine .ite (fun _ => stopOrder (h.modBay ?_)) fun _ => h.reply
    exact .of_eq rfl rfl rfl rfl
  · refine h.modBay ?_
    exact .of_eq rfl rfl rfl rfl
  · exact h.reply
  · exact h.reply
  · exact h.reply
  · exact h.reply

theorem bayClear {n : Nat} {who : Answerer} : Keeps ⟨m, s, a, False⟩ r (p.bayClear n who) := by
  unfold Part.bayClear
  refine h.onBay fun b => reply ?_
  by_cases hf : (p.bay b).power = .fault
  · refine h.setPower (by simp [hf, Power.plain]) ?_ ?_ ?_ ?_
    all_goals simp [hf, Power.plain, writeInFlight]
  · refine h.modBay ?_
    simp only [hf, if_false]
    exact .of_eq rfl rfl rfl rfl

/-! ## Commands of the box (R131, R140, R143) -/

theorem sleepCmd {target : Option SleepTarget} {who : Answerer} : Keeps ⟨m, s, a, False⟩ r (p.sleepCmd target who) := by
  unfold Part.sleepCmd Part.checked
  split
  · exact h.reply
  next hchecks =>
    have hrun : p.box.st = some .run := by
      by_contra hc
      simp [firstRefusal, sleepChecks, hc] at hchecks
      split at hchecks <;> simp at hchecks
    refine andSp (setState h) fun hs hb hi => ?_
    obtain ⟨hsp, -⟩ := h.sp hs hb hi
    rw [hrun] at hsp
    exact ⟨iff_of_false (fun hm => by simpa using hsp.1 hm) (by simp), fun _ => .inr (.inl rfl)⟩

theorem resumeCmd {who : Answerer} : Keeps ⟨m, s, a, False⟩ r (p.resumeCmd who) := by
  refine .ite (fun hw => ?_) fun _ => h.reply
  have hq : Keeps ⟨m, s, a, False⟩ r (p.answer who .ok (.resume p.box.resume)) := h.answer
  refine andSp (setState hq) fun hs hb hi => ?_
  obtain ⟨hsp, -⟩ := h.sp hs hb hi
  refine ⟨iff_of_false (fun hm => ?_) (by simp), fun _ => .inl rfl⟩
  simp only [answer_power] at hm
  simpa [hw.2] using (hsp.1 hm).2

theorem boxWake {who : Answerer} : Keeps ⟨m, s, a, False⟩ r (p.boxWake who) :=
  reply (.ite (fun _ => h.hold) fun _ => h.wakeEvent)

theorem forceDormant {who : Answerer} : Keeps ⟨m, s, a, False⟩ r (p.forceDormant who) :=
  .ite (fun _ => h.hold.reply) fun _ => .ite (fun _ => h.reply) fun _ => h.forcedStop.reply

/-! ## Commands of the box clock (R165, R167, R168) -/

/-- The alarm list is replaced by part of itself. -/
theorem dropAlarms {l : List Alarm} (hl : l.Sublist p.clock.alarms) : Keeps ⟨m, s, a, False⟩ r (p.setAlarms l) := by
  refine h.setClock.andAlarm fun hc hi => ?_
  obtain ⟨hcount, hn, hid, hs, ht⟩ := h.alarm hc hi
  exact ⟨hcount, hl.length_le.trans hn, hid.sublist (hl.map _), hs.sublist hl, fun x hx => ht x (hl.subset hx)⟩

theorem alarmClear {id : Nat} {all : Bool} {who : Answerer} : Keeps ⟨m, s, a, False⟩ r (p.alarmClear id all who) :=
  .ite (fun _ => answer (h.dropAlarms (List.nil_sublist _))) fun _ =>
    .ite (fun _ => answer (h.dropAlarms List.filter_sublist)) fun _ => h.reply

/-- The counter is set and the expiry pass made. -/
theorem setCounter {x : Clock} (hx : x.alarms = p.clock.alarms) (hcount : p.clock.counter ≤ Config.maxSeconds → x.counter ≤ Config.maxSeconds) :
    Keeps ⟨m, s, a, False⟩ r ({ p with clock := x } : Part).expiryPass := by
  have hq : Keeps ⟨m, s, False, False⟩ r { p with clock := x } := h.setClock
  refine hq.expiryPass.andAlarm fun hc hi => expiryPass_alarmInv ?_
  obtain ⟨hcounter, hn, hid, hs, ht⟩ := (alarmInv_iff.1 (h.alarm hc hi)).1
  exact ⟨hcount hcounter, by rwa [hx], by rwa [hx], by rwa [hx], by rwa [hx]⟩

theorem timeSet {v : Seconds} {who : Answerer} : Keeps ⟨m, s, a, False⟩ r (p.timeSet v who) := by
  have hv : v.toNat ≤ Config.maxSeconds := by
    have := v.isLt
    simp only [Config.maxSeconds]
    omega
  exact reply (h.setCounter (x := { p.clock with counter := v.toNat, valid := true }) rfl fun _ => hv)

theorem tickClock : Keeps ⟨m, s, a, False⟩ r p.tickClock := by
  refine h.setCounter rfl fun hc => ?_
  simp only [bump]
  split
  · assumption
  · exact hc

/-- Of an alarm list that meets its invariant no alarm is due. -/
theorem alarmExpiry : Keeps ⟨m, s, a, False⟩ r (if p.alarmDue then p.expireHead else p) := by
  refine .ite (fun hd => (expireHead h.butAlarm).andAlarm fun hc hi => ?_) fun _ => h
  obtain ⟨x, l, hl, hx⟩ := alarmDue_iff.1 hd
  have := (alarmInv_iff.1 (h.alarm hc hi)).2 x (by simp [hl])
  omega

/-- An alarm is set; where it is due, the expiry pass is made. -/
theorem setAlarm {new : Alarm} (ht : new.time ≤ Config.maxSeconds) :
    Keeps ⟨m, s, a, False⟩ r (if new.time ≤ p.clock.counter
      then (p.setAlarms (insertAlarm new (p.clock.alarms.filter fun x => x.id != new.id))).expiryPass
      else p.setAlarms (insertAlarm new (p.clock.alarms.filter fun x => x.id != new.id))) := by
  have hq : Keeps ⟨m, s, False, False⟩ r (p.setAlarms (insertAlarm new (p.clock.alarms.filter fun x => x.id != new.id))) :=
    h.setClock
  have hinv (hi : p.AlarmInv) := insertAlarm_listInv (alarmInv_iff.1 hi).1 ht
  refine .ite (fun _ => hq.expiryPass.andAlarm fun hc hi => expiryPass_alarmInv (hinv (h.alarm hc hi)))
    fun hdue => hq.andAlarm fun hc hi => alarmInv_iff.2 ⟨hinv (h.alarm hc hi), fun y hy => ?_⟩
  rcases (mem_insertAlarm _ _ _).1 hy with rfl | hy
  · exact not_le.1 hdue
  · exact (alarmInv_iff.1 (h.alarm hc hi)).2 y (List.mem_filter.1 hy).1

theorem alarmSet {x : AlarmArgs} {who : Answerer} : Keeps ⟨m, s, a, False⟩ r (p.alarmSet x who) := by
  have ht : x.time.toNat ≤ Config.maxSeconds := by
    have := x.time.isLt
    simp only [Config.maxSeconds]
    omega
  exact h.checked (answer (h.setAlarm (new := ⟨p.alarmId x, x.time.toNat, x.interval.toNat, baySet x.bays⟩) ht))

/-! ## Frames (sections 8.3 and 8.4) -/

theorem summonsHit {f : List Byte} : Keeps ⟨m, s, a, False⟩ r (p.summonsHit f) := h.modMatcher.wakeEvent.holdFrame

/-- The action of a wake entry (R153). -/
theorem wakeActed {i : Fin 24} {act : WakeAction} {l : List (Fin 4)} : Keeps ⟨m, s, a, False⟩ r (match act with
    | .wake => p.wakeEvent (.wakeMatch i)
    | .wakeSpin => (p.wakeEvent (.wakeMatch i)).requestStarts l
    | .ignore => p) := by
  cases act
  · exact h.wakeEvent
  · exact h.wakeEvent.requestStarts
  · exact h

theorem entryHit {i : Fin 24} {e : WakeEntry} {f : List Byte} : Keeps ⟨m, s, a, False⟩ r (p.entryHit i e f) :=
  .ite (fun _ => holdFrame (wakeActed h.setWake)) fun _ => wakeActed h.setWake

theorem matchFrame {f : List Byte} : Keeps ⟨m, s, a, False⟩ r (p.matchFrame f) := by
  refine .ite (fun _ => h.summonsHit) fun _ => ?_
  split
  · exact h.modMatcher
  · split
    · exact h
    · exact h.entryHit

theorem frameArrives {f : List Byte} {fromStart : Bool} : Keeps ⟨m, s, a, False⟩ r (p.frameArrives f fromStart) :=
  .ite (fun _ => h) fun _ => .ite (fun _ => h.modMatcher) fun _ => .ite (fun _ => h.modMatcher) fun _ =>
    .ite (fun _ => h.modMatcher) fun _ => .ite (fun _ => h.matchFrame) fun _ => h

end Keeps

end Part

end Sys2Proof.Machine
end

section
/-! PROOFS. What resets, the handing on of commands, the consequences of an event and the events themselves keep, and with them
every command (O2 to O6). -/

set_option Elab.async false

namespace Sys2Proof.Machine

open Sys2Proof

namespace Part

/-- Nothing put out so far in this event writes a drive. -/
def NoDriveWrite (p : Part) : Prop := ∀ o ∈ p.out, writesDrive o = false

@[simp] theorem mainAtReset_bay (p : Part) (b : Fin 4) : p.mainAtReset.bay b = {} := by
  change (Vector.replicate 4 ({} : Bay))[b] = {}
  simp

@[simp] theorem mainAtReset_power (p : Part) : p.mainAtReset.power = {} := rfl
@[simp] theorem mainAtReset_box (p : Part) : p.mainAtReset.box = {} := rfl
@[simp] theorem mainAtReset_engine (p : Part) : p.mainAtReset.engine = {} := rfl
@[simp] theorem mainAtReset_loader (p : Part) : p.mainAtReset.loader = {} := rfl
@[simp] theorem mainAtReset_clock (p : Part) : p.mainAtReset.clock = p.clock := rfl
@[simp] theorem mainAtReset_out (p : Part) : p.mainAtReset.out = p.out := rfl

/-- The inputs of a reset event read, ahead of the notice of a low supply. -/
def withInputs (i : ResetInputs) (p : Part) : Part := { p with
  bays := Vector.ofFn fun b => bayAtReset i b
  mp := { p.mp with addressStrap := i.addressStrap }
  power := { p.power with lowAsserted := i.lowSupply }
  loader := { p.loader with mode := modeOf i, configPresent := i.configPresent } }

theorem readInputs_eq (p : Part) (i : ResetInputs) :
    p.readInputs i = if i.lowSupply then (p.withInputs i).raise .lowSupply else p.withInputs i := rfl

@[simp] theorem withInputs_bay (i : ResetInputs) (p : Part) (b : Fin 4) : (p.withInputs i).bay b = bayAtReset i b := by
  simp [withInputs, bay]

@[simp] theorem readInputs_box (p : Part) (i : ResetInputs) : (p.readInputs i).box = p.box := by
  rw [readInputs_eq]
  split
  · exact raise_box _ _
  · rfl

theorem begin_noDriveWrite (p : Part) : p.begin.NoDriveWrite := fun _ ho => nomatch ho

namespace Keeps

section

variable {m s a : Prop} {r p : Part} (h : Keeps ⟨m, s, a, False⟩ r p)
include h

/-! ## Resets (R195) -/

/-- Every item of the main domain at its reset value: the slots' contents and the clock alone are kept. -/
theorem mainAtReset (hout : p.NoDriveWrite) : Keeps ⟨m, s, a, False⟩ r p.mainAtReset where
  pool i := ⟨List.length_replicate, (h.pool i).2⟩
  log _ := by simp [LogInvIf, Config.logLimit, Config.repairLimit, Config.highMark]
  queue _ _ := by simp
  readOnly _ _ := ⟨fun b => by simp [writeInFlight], hout⟩
  bays _ := ⟨List.nodup_nil, fun b => by simp, fun b => by simp⟩
  sp _ _ _ := ⟨by simp, by simp⟩
  alarm hc i := (h.alarm hc i).of_eq
  steady := False.elim

theorem withInputs (hout : p.NoDriveWrite) {i : ResetInputs} : Keeps ⟨m, s, a, False⟩ r (p.mainAtReset.withInputs i) := by
  have h0 := h.mainAtReset hout
  refine { pool := fun j => (h0.pool j).of_eq rfl rfl, log := fun j => (h0.log j).of_keys rfl (fun _ => rfl) le_rfl
           sp := fun hc j k => (h0.sp hc j k).of_eq .rfl rfl rfl, alarm := fun hc j => (h0.alarm hc j).of_eq rfl rfl
           steady := False.elim, queue := fun _ b => by simp [bayAtReset]
           readOnly := fun _ _ => ⟨fun b => by simp [bayAtReset, writeInFlight], hout⟩
           bays := fun _ => ⟨List.nodup_nil, fun b => ?_, fun b => ?_⟩ }
  · have hnone : StartEntry.bay b ∉ (p.mainAtReset.withInputs i).power.startQueue := List.not_mem_nil
    rw [withInputs_bay, bayAtReset]
    cases presenceIn i b <;> simp [hnone]
  · rw [withInputs_bay, bayAtReset]
    cases presenceIn i b <;> simp

theorem readInputs (hout : p.NoDriveWrite) {i : ResetInputs} : Keeps ⟨m, s, a, False⟩ r (p.mainAtReset.readInputs i) :=
  .ite (fun _ => (h.withInputs hout).raise) fun _ => h.withInputs hout

theorem handUndelivered : Keeps ⟨m, s, a, False⟩ r p.handUndelivered := by
  have hq : Keeps ⟨m, s, a, False⟩ r { p with clock := { p.clock with undelivered := [] } } :=
    h.setClock.andAlarm fun hc i => (h.alarm hc i).of_eq
  exact hq.setBox

theorem startSequence (hout : p.NoDriveWrite) {i : ResetInputs} : Keeps ⟨m, s, a, False⟩ r (p.startSequence i) := by
  have hq : Keeps ⟨m, s, a, False⟩ r (p.mainAtReset.readInputs i).handUndelivered := (h.readInputs hout).handUndelivered
  refine .ite (fun _ => hq.setLoader) fun _ => hq.firstState ?_
  exact congrArg Box.st (readInputs_box p.mainAtReset i)

/-! ## The loader's ends (section 11.3) -/

theorem imageRead {img : List Byte} : Keeps ⟨m, s, a, False⟩ r (p.imageRead img) := by
  refine .ite (fun _ => h) fun _ => .ite (fun hst => h.loadEnds.firstState ?_) fun _ =>
    .ite (fun _ => h.loadEnds.answer) fun _ => h.setLoader.reply
  have hkeep := ((Keeps.refl ⟨True, True, True, True⟩ p).loadEnds (v := judgeImage img)).steady trivial
  exact hkeep.st.trans (Option.isNone_iff_eq_none.1 hst)

/-! ## Handing commands on (R177, R183, R190) -/

/-- Every command but RESTART, which no port but the management port may issue. -/
theorem carryOut {who : Answerer} {k : Cmd} (hk : cmdKind k = some .restart → p.NoDriveWrite) :
    Keeps ⟨m, s, a, False⟩ r (p.carryOut who k) := by
  cases k with
  | read | write | flush => exact h
  | sleep => exact h.sleepCmd
  | resume => exact h.resumeCmd
  | frameFetch => exact h.frameFetch
  | windowDefine => exact h.windowDefine
  | windowDelete => exact h.windowDelete
  | replaceMember => exact h.replaceMember
  | windowInfo => exact h.windowInfo
  | bayInfo => exact h.bayInfo
  | baySpin => exact h.baySpin
  | bayStop => exact h.bayStop
  | bayClear => exact h.bayClear
  | bayQuery => exact h.bayQuery
  | profileSet => exact h.profileSet
  | budgetSet => exact h.budgetSet
  | patrolSet => exact h.patrolSet
  | wakeEntrySet => exact h.wakeEntrySet
  | stationSet => exact h.stationSet
  | alarmSet => exact h.alarmSet
  | alarmClear => exact h.alarmClear
  | timeSet => exact h.timeSet
  | status => exact h.statusCmd
  | noticeClear => exact h.noticeClear
  | boxWake => exact h.boxWake
  | forceDormant => exact h.forceDormant
  | configSave => exact h.configSave
  | configLoad => exact h.configLoad
  | mpMode => exact h.mpMode
  | restart => exact h.startSequence (hk rfl)
  | unknown => exact h.reply

theorem handOnPp {tag : Tag} {addr len : Nat} {k : Cmd} : Keeps ⟨m, s, a, False⟩ r (p.handOnPp tag addr len k) := by
  unfold Part.handOnPp
  dsimp only
  split
  · exact .ite (fun _ => h.reply) fun _ => h.takeRequest
  · split
    · exact h.reply
    next kind hkind =>
      refine .ite (fun hmay => h.carryOut fun hr => ?_) fun _ => h.reply
      rw [Option.some.inj (hkind.symm.trans hr)] at hmay
      exact absurd hmay (by decide)

theorem handOnDp {tag : Tag} {k : Cmd} : Keeps ⟨m, s, a, False⟩ r (p.handOnDp tag k) := by
  unfold Part.handOnDp
  dsimp only
  split
  · exact .ite (fun _ => h.dpWrite) fun _ => h.takeRequest
  · split
    · exact h.reply
    next kind hkind =>
      refine .ite (fun hmay => h.carryOut fun hr => ?_) fun _ => h.reply
      rw [Option.some.inj (hkind.symm.trans hr)] at hmay
      exact absurd hmay (by decide)

theorem handOnMp (hout : p.NoDriveWrite) {k : Cmd} : Keeps ⟨m, s, a, False⟩ r (p.handOnMp k) := by
  unfold Part.handOnMp
  split
  · exact h.reply
  · exact .ite (fun _ => h.reply) fun _ => .ite (fun _ => h.reply) fun _ => h.carryOut fun _ => hout

theorem issue (hout : p.NoDriveWrite) {via : Via} {k : Cmd} : Keeps ⟨m, s, a, False⟩ r (p.issue via k) := by
  cases via with
  | pp => exact .ite (fun _ => h.fetched.handOnPp) fun _ => h
  | dp => exact .ite (fun _ => h.taken.handOnDp) fun _ => h
  | mp => exact .ite (fun _ => h.overrun) fun _ => h.frameTaken.handOnMp hout

theorem fetchRecord {x : RecordRead} : Keeps ⟨m, s, a, False⟩ r (p.fetchRecord x) := by
  refine .ite (fun _ => h) fun _ => ?_
  cases x with
  | error => exact h.fetchError
  | record bytes ops =>
    dsimp only
    split
    · exact h.fetched.readOperands.handOnPp
    · exact h.fetched.readOperands.reply

theorem memoryError {e : SpReadError} : Keeps ⟨m, s, a, False⟩ r (p.memoryError e) := by
  cases e with
  | record => exact h.fetchRecord (x := .error)
  | operands => exact .ite (fun _ => h.fetchRecord) fun _ => h
  | list => exact h.listError
  | block => exact h.blockError

theorem dpRecord {bytes : List Byte} : Keeps ⟨m, s, a, False⟩ r (p.dpRecord bytes) := by
  unfold Part.dpRecord
  dsimp only
  split
  · exact h.taken.handOnDp
  · exact h.taken.reply

theorem dpUnit {bytes : List Byte} : Keeps ⟨m, s, a, False⟩ r (p.dpUnit bytes) := by
  unfold Part.dpUnit
  split
  · exact .ite (fun _ => h) fun _ => .ite (fun _ => h.dpRecord) fun _ => h.framingError
  · exact h
  · exact h.dpData
  · exact h.dpDiscard

theorem writeTransaction (hout : p.NoDriveWrite) {bytes : List Byte} :
    Keeps ⟨m, s, a, False⟩ r (p.writeTransaction bytes) := by
  refine .ite (fun _ => h.overrun) fun _ => .ite (fun _ => h) fun _ => ?_
  dsimp only
  split
  · exact h.frameTaken.handOnMp hout
  · exact h.frameTaken.reply

/-! ## Consequences (log entry 1) -/

theorem chunkGranted {l : List Nat} : Keeps ⟨m, s, a, False⟩ r (p.chunkGranted l) := h.modChunk

theorem requestGranted {x : Request} {l : List Nat} : Keeps ⟨m, s, a, False⟩ r (p.requestGranted x l) :=
  .ite (fun _ => h.modRequest.setDp) fun _ => h.modRequest

/-- The slot-wait list shortens, and of the pool no slot is lost. -/
theorem setPool {l : List SlotWait} {pool : List Holder} (hpool : pool.length = p.router.pool.length) :
    Keeps ⟨m, s, a, False⟩ r { p with router := { p.router with slotWait := l, pool := pool } } := h.same (hpool := hpool)

theorem grantHead : Keeps ⟨m, s, a, False⟩ r p.grantHead := by
  unfold Part.grantHead
  split
  · exact h
  next e rest _ =>
    have htaken := h.setPool (l := rest) (takeSlots_pool_length (holderOf e.who) e.need 0 p.router.pool)
    dsimp only
    split
    · exact .ite (fun _ => htaken.chunkGranted) fun _ => h.setPool rfl
    · split
      · exact htaken.requestGranted
      · exact h.setPool rfl

theorem advance {x : Request} {q : Part} (hq : p.advance x = some q) : Keeps ⟨m, s, a, False⟩ r q := by
  unfold Part.advance at hq
  split at hq
  · cases hq; exact h.route
  split at hq
  · cases hq; exact h.placeRequest
  split at hq
  · cases hq; exact h.secondFlush
  split at hq
  · cases hq; exact h.leaveBays
  · cases hq

theorem advanceRequests {q : Part} (hq : p.advanceRequests = some q) : Keeps ⟨m, s, a, False⟩ r q := by
  unfold Part.advanceRequests at hq
  split at hq
  next id rest _ =>
    have h1 : Keeps ⟨m, s, a, False⟩ r { p with router := { p.router with ended := rest } } := h.same
    cases hq
    dsimp only
    split
    · exact h1.leaveBays
    · exact h1
  · obtain ⟨x, -, hx⟩ := List.exists_of_findSome?_eq_some hq
    exact h.advance hx

theorem advanceDropped {q : Part} (hq : p.advanceDropped = some q) : Keeps ⟨m, s, a, False⟩ r q := by
  obtain ⟨x, -, rfl⟩ := Option.map_eq_some_iff.1 hq
  exact h.settleDropped

theorem advanceChunk {q : Part} (hq : p.advanceChunk = some q) : Keeps ⟨m, s, a, False⟩ r q := by
  unfold Part.advanceChunk at hq
  split at hq
  · cases hq
  split at hq
  · split at hq
    · cases hq
    · cases hq; exact h.endChunk
  split at hq
  · cases hq; exact h.patrolEnd
  split at hq
  · cases hq; exact h.placeChunk
  · cases hq

theorem resumeRoom {b : Fin 4} : Keeps ⟨m, s, a, False⟩ r (p.resumeRoom b) := by
  unfold Part.resumeRoom
  split
  · exact h
  · split
    · exact h.placeRequest
    · exact h.leaveRooms
  · split
    · exact .ite (fun _ => h.leaveRooms) fun _ => h.placeChunk
    · exact h.leaveRooms

theorem consequence {q : Part} (hq : p.consequence = some q) : Keeps ⟨m, s, a, False⟩ r q := by
  unfold Part.consequence at hq
  split at hq
  · cases hq; exact h.postOne
  split at hq
  next hg => cases hq; exact h.graceEnds hg.1
  split at hq
  next he => cases hq; exact h.advanceRequests he
  split at hq
  next he => cases hq; exact h.advanceDropped he
  split at hq
  next he => cases hq; exact h.advanceChunk he
  split at hq
  · cases hq; exact h.issueNext
  split at hq
  · cases hq; exact h.resumeRoom
  split at hq
  · cases hq; exact h.grantHead
  split at hq
  · cases hq; exact h.admitHead
  split at hq
  · cases hq; exact h.orderBay
  split at hq
  · cases hq; exact h.freeWindow
  split at hq
  · cases hq; exact h.drainEnds
  split at hq
  · cases hq; exact h.seekJob
  · cases hq

theorem settle {n : Nat} : Keeps ⟨m, s, a, False⟩ r (Part.settle n p) :=
  settle_induction (fun _ _ hp hq => hp.consequence hq) n p h

theorem postAll {n : Nat} : Keeps ⟨m, s, a, False⟩ r (Part.postAll n p) := postAll_induction (fun _ hp => hp.postOne) n p h

theorem refresh : Keeps ⟨m, s, a, False⟩ r p.refresh := by
  unfold Part.refresh
  exact h.same

theorem finish : Keeps ⟨m, s, a, False⟩ r p.finish := h.closeBatch.refresh

end

end Keeps

end Part

end Sys2Proof.Machine
end

section
/-! PROOFS. Every command keeps the six invariants (O2 to O6), and the machine right after reset meets them (O7). -/

set_option Elab.async false

namespace Sys2Proof.Machine

open Sys2Proof

namespace Part

namespace Keeps

section

variable {m s a : Prop} {r p : Part} (h : Keeps ⟨m, s, a, False⟩ r p)
include h

/-! ## The events of a bay (chapter 3), by the condition in which each can arise -/

theorem driveAnswer {b : Fin 4} {x : DriveAnswer} : Keeps ⟨m, s, a, False⟩ r (match answerable (p.bay b) with
    | none => p
    | some o =>
      match x with
      | .done data => p.answerDone b o data
      | .mediaError sector => p.answerMedia b o sector
      | .abort => p.answerAbort b o) := by
  split
  · exact h
  next o ho =>
    cases x with
    | done => exact h.answerDone
    | mediaError => exact h.answerMedia
    | abort =>
      refine h.answerAbort ?_
      unfold answerable at ho
      split at ho
      next o' hop =>
        split at ho
        · cases ho; exact hop
        · cases ho
      · cases ho

theorem commandTimeout {b : Fin 4} : Keeps ⟨m, s, a, False⟩ r (if (p.bay b).limited then p.limitExpired b else p) := by
  refine .ite (fun hl => h.limitExpired ?_) fun _ => h
  simp only [Bay.limited, Bool.and_eq_true, Bool.or_eq_true, beq_iff_eq] at hl
  exact .inr hl.1.1

theorem retrainAttemptEnd {b : Fin 4} :
    Keeps ⟨m, s, a, False⟩ r (if ((p.bay b).power == .ready || (p.bay b).power == .stopping) && (p.bay b).link == .training
      then (if (p.bay b).retrain < Config.retrainLimit then p.beginRetrain b else (p.recordError b .link none).enterFault b)
      else p) := by
  refine .ite (fun hl => .ite (fun _ => h.beginRetrain) fun _ => h.recordError.enterFault ?_) fun _ => h
  simp only [Bool.and_eq_true, Bool.or_eq_true, beq_iff_eq] at hl
  rcases hl.1 with e | e <;> simp [Part.recordError, e, Power.plain]

theorem training {b : Fin 4} {l : Link} : Keeps ⟨m, s, a, False⟩ r (p.modBay b fun x => { x with link := l }) :=
  h.modBay (.of_eq rfl rfl rfl rfl)

theorem identifyAnswer {b : Fin 4} {x : IdentifyAnswer} (hb : (p.bay b).power = .starting) :
    Keeps ⟨m, s, a, False⟩ r (match x with
      | .done sectors serial => p.identified b (identityOf sectors serial)
      | .mediaError | .abort => p.issueIdentify b) := by
  cases x with
  | done => exact h.identified (.inl hb)
  | mediaError | abort => exact h.issueIdentify

theorem spinUpAnswer {b : Fin 4} {x : SimpleAnswer} (hb : (p.bay b).power = .starting) :
    Keeps ⟨m, s, a, False⟩ r (match x with
      | .done => ((p.clearFlight b).clearRun b).enterReady b
      | .mediaError | .abort => p.issueSpinUp b) := by
  cases x with
  | done => exact h.clearFlight.clearRun.enterReady (.inl (by simpa [Part.clearFlight, Part.clearRun] using hb))
  | mediaError | abort => exact h.issueSpinUp

theorem goStandbyAnswer {b : Fin 4} {x : SimpleAnswer} (hb : (p.bay b).power = .stopping) :
    Keeps ⟨m, s, a, False⟩ r (match x with
      | .done => p.standbyReached b
      | .mediaError | .abort => p.standbyRefused b) := by
  cases x with
  | done => exact h.standbyReached (.inr (.inr hb))
  | mediaError | abort => exact h.standbyRefused (.inr (.inr hb))

theorem healthAnswered {b : Fin 4} : Keeps ⟨m, s, a, False⟩ r (p.healthAnswered b) := h.clearFlight.clearRun.reportClass

theorem healthCached {b : Fin 4} {x : Option Health} :
    Keeps ⟨m, s, a, False⟩ r (p.modBay b fun y => { y with health := x }) := h.modBay (.of_eq rfl rfl rfl rfl)

theorem idleRaised {b : Fin 4} {f : Bay → Nat} :
    Keeps ⟨m, s, a, False⟩ r (p.modBay b fun y => { y with idle := f y }) := h.modBay (.of_eq rfl rfl rfl rfl)

/-! ## The events of the box (chapters 4, 7 and 9) -/

theorem buttonReleased : Keeps ⟨m, s, a, False⟩ r
    (if (p.setPressed false).box.st.isNone then (p.setPressed false).hold .shortPress else (p.setPressed false).shortPress) := by
  have hq : Keeps ⟨m, s, a, False⟩ r (p.setPressed false) := h.setBox
  exact .ite (fun _ => hq.hold) fun _ => hq.shortPress

theorem buttonLong : Keeps ⟨m, s, a, False⟩ r
    (if (p.setPressed false).box.st.isNone then (p.setPressed false).hold .longPress else (p.setPressed false).forcedStop) := by
  have hq : Keeps ⟨m, s, a, False⟩ r (p.setPressed false) := h.setBox
  exact .ite (fun _ => hq.hold) fun _ => hq.forcedStop

theorem graceEnd : Keeps ⟨m, s, a, False⟩ r (if p.inGrace && p.box.grace.isSome then p.graceEnds else p) := by
  refine .ite (fun hg => h.graceEnds ?_) fun _ => h
  exact (Bool.and_eq_true _ _ ▸ hg).1

theorem resumeLimitExpiry : Keeps ⟨m, s, a, False⟩ r
    (if p.box.st == some .waking && p.power.spRail && p.box.resumeCount.isSome then p.resumeExpires else p) := by
  refine .ite (fun hw => ?_) fun _ => h
  simp only [Bool.and_eq_true, beq_iff_eq] at hw
  exact h.resumeExpires hw.1.1 hw.1.2

/-- An empty box clock (R164). -/
theorem clockEmptied {x : Clock} (hcounter : x.counter = 0) (halarms : x.alarms = []) :
    Keeps ⟨m, s, a, False⟩ r { p with clock := x } := by
  refine h.setClock.andAlarm fun _ _ => ?_
  simp [AlarmInv, hcounter, halarms]

/-! ## The three forms of an event -/

theorem begin : Keeps ⟨m, s, a, False⟩ r p.begin := by
  unfold Part.begin
  exact h.same

end

end Keeps

/-- All that is claimed of an event: each of the six invariants that holds before it holds after it. -/
abbrev KeepsAll (p q : Part) : Prop := Keeps ⟨True, True, True, False⟩ p q

theorem keepsAll_refl (p : Part) : KeepsAll p p := Keeps.refl _ p

theorem keepsAll_event {f : Part → Part} {p : Part} (hf : KeepsAll p p.begin → KeepsAll p (f p.begin)) :
    KeepsAll p (p.event f) := .ite (fun _ => keepsAll_refl p) fun _ => (hf (keepsAll_refl p).begin).settle.finish

theorem keepsAll_quietEvent {f : Part → Part} {p : Part} (hf : KeepsAll p p.begin → KeepsAll p (f p.begin)) :
    KeepsAll p (p.quietEvent f) := .ite (fun _ => keepsAll_refl p) fun _ => (hf (keepsAll_refl p).begin).postAll.finish

theorem keepsAll_clockEvent {f : Part → Part} {p : Part} (hf : KeepsAll p p.begin → KeepsAll p (f p.begin)) :
    KeepsAll p (p.clockEvent f) := .ite (fun _ => (hf (keepsAll_refl p).begin).finish) fun _ => keepsAll_event hf

end Part

open Sys2Proof.Machine.Part in
/-- Every command answers a next state whose part meets each of the six invariants that the part before it meets. -/
theorem exec_keeps (c : Instr) (s : State) : ∃ q : Part, exec c s = .next { s with part := q } ∧ KeepsAll s.part q := by
  have hout : s.part.begin.NoDriveWrite := s.part.begin_noDriveWrite
  cases c with
  | windowDefine | windowInfo | bayInfo | wakeEntrySet | stationSet | alarmClear | status | noticeClear | configSave | configLoad
  | mpMode | unknownKindRecord => exact ⟨_, rfl, keepsAll_quietEvent fun h => h.issue hout⟩
  | read | write | flush | sleep | resume | frameFetch | windowDelete | replaceMember | baySpin | bayStop | bayClear | bayQuery
  | profileSet | budgetSet | patrolSet | alarmSet | timeSet | boxWake | forceDormant | restart =>
    exact ⟨_, rfl, keepsAll_event fun h => h.issue hout⟩
  | badCheckFrame => exact ⟨_, rfl, keepsAll_event fun h => h.writeTransaction hout⟩
  | mpOverrun => exact ⟨_, rfl, keepsAll_quietEvent fun h => .ite (fun _ => h.overrun) fun _ => h⟩
  | mpShortFrame => exact ⟨_, rfl, keepsAll_quietEvent fun h => h⟩
  | mpRead => exact ⟨_, rfl, keepsAll_quietEvent fun h => h.mpRead⟩
  | mpHoldTimeout => exact ⟨_, rfl, keepsAll_quietEvent fun h => h.holdTimeout⟩
  | setupWordWrite => exact ⟨_, rfl, keepsAll_quietEvent fun h => h.setupWord⟩
  | ringStart => exact ⟨_, rfl, keepsAll_quietEvent fun h => h.ringStart⟩
  | submissionTailNotice => exact ⟨_, rfl, keepsAll_quietEvent fun h => h.tailNotice⟩
  | completionHeadNotice => exact ⟨_, rfl, keepsAll_event fun h => h.headNotice⟩
  | interruptMask => exact ⟨_, rfl, keepsAll_quietEvent fun h => h.maskWrite⟩
  | recordFetch => exact ⟨_, rfl, keepsAll_event fun h => h.fetchRecord⟩
  | ppWriteDataDone => exact ⟨_, rfl, keepsAll_event fun h => h.writeTaken⟩
  | ppReadDeliveryDone => exact ⟨_, rfl, keepsAll_event fun h => h.readDelivered⟩
  | spMemoryError => exact ⟨_, rfl, keepsAll_event fun h => h.memoryError⟩
  | sleepCompletionWritten => exact ⟨_, rfl, keepsAll_event fun h => .ite (fun _ => h.beginGrace) fun _ => h⟩
  | frameTransferDone => exact ⟨_, rfl, keepsAll_event fun h => h.transferDone⟩
  | linkReset => exact ⟨_, rfl, keepsAll_event fun h => h.ppReset.linkResetBox⟩
  | dpAttach => exact ⟨_, rfl, keepsAll_event fun h => h.attach⟩
  | dpDetach => exact ⟨_, rfl, keepsAll_event fun h => h.detach⟩
  | dpBadUnit => exact ⟨_, rfl, keepsAll_quietEvent fun h => .ite (fun _ => h.framingError) fun _ => h⟩
  | dpDataUnit => exact ⟨_, rfl, keepsAll_event fun h => h.dpUnit⟩
  | dpDiscardData => exact ⟨_, rfl, keepsAll_quietEvent fun h => h.dpDiscard⟩
  | dpReadDataSent => exact ⟨_, rfl, keepsAll_event fun h => h.dpReadSent⟩
  | dpCompletionSent => exact ⟨_, rfl, keepsAll_quietEvent fun h => h.dpCompletionSent⟩
  | slotGrant => exact ⟨_, rfl, keepsAll_event fun h => .ite (fun _ => h.grantHead) fun _ => h⟩
  | roomResume => exact ⟨_, rfl, keepsAll_event fun h => .ite (fun _ => h.resumeRoom) fun _ => h⟩
  | drainEnd => exact ⟨_, rfl, keepsAll_event fun h => .ite (fun _ => h.drainEnds) fun _ => h⟩
  | windowCloseEnd => exact ⟨_, rfl, keepsAll_event fun h => .ite (fun _ => h.freeWindow) fun _ => h⟩
  | startAdmission => exact ⟨_, rfl, keepsAll_event fun h => .ite (fun _ => h.admitHead) fun _ => h⟩
  | copyJobStart => exact ⟨_, rfl, keepsAll_event fun h => h.seekJob⟩
  | bayOpIssue => exact ⟨_, rfl, keepsAll_event fun h => .ite (fun _ => h.issueNext) fun _ => h⟩
  | driveAnswer => exact ⟨_, rfl, keepsAll_event fun h => h.driveAnswer⟩
  | commandTimeout => exact ⟨_, rfl, keepsAll_event fun h => h.commandTimeout⟩
  | linkLoss => exact ⟨_, rfl, keepsAll_event fun h => .ite (fun _ => h.linkLost) fun _ => h⟩
  | linkLocked => exact ⟨_, rfl, keepsAll_event fun h => .ite (fun _ => h.linkGained) fun _ => h⟩
  | retrainAttemptEnd => exact ⟨_, rfl, keepsAll_event fun h => h.retrainAttemptEnd⟩
  | supplySettleEnd => exact ⟨_, rfl, keepsAll_event fun h => .ite (fun _ => h.training) fun _ => h⟩
  | bringupTrainingTimeout => exact ⟨_, rfl, keepsAll_event fun h => .ite (fun _ => h.training) fun _ => h⟩
  | driveReadyReport => exact ⟨_, rfl, keepsAll_event fun h => .ite (fun _ => h.issueIdentify) fun _ => h⟩
  | identifyAnswer =>
    refine ⟨_, rfl, keepsAll_event fun h => .ite (fun hc => h.identifyAnswer ?_) fun _ => h⟩
    simp only [Bool.and_eq_true, beq_iff_eq] at hc
    exact hc.1.1
  | spinUpAnswer =>
    refine ⟨_, rfl, keepsAll_event fun h => .ite (fun hc => h.spinUpAnswer ?_) fun _ => h⟩
    simp only [Bool.and_eq_true, beq_iff_eq] at hc
    exact hc.1.1
  | startTimeout => exact ⟨_, rfl, keepsAll_event fun h => h.startFails⟩
  | goStandbyAnswer =>
    refine ⟨_, rfl, keepsAll_event fun h => .ite (fun hc => h.goStandbyAnswer ?_) fun _ => h⟩
    simp only [Bool.and_eq_true, beq_iff_eq] at hc
    exact hc.1.1
  | healthReadAnswer bay x =>
    refine ⟨_, rfl, keepsAll_event fun h => .ite (fun _ => ?_) fun _ => h⟩
    cases x with
    | done => exact h.healthAnswered.healthCached.answerQuery
    | mediaError | abort => exact h.healthAnswered.answerQuery
  | bayPresenceAssert =>
    exact ⟨_, rfl, keepsAll_event fun h => .ite (fun hc => h.presenceTaken (by simpa using hc)) fun _ => h⟩
  | bayPresenceRelease => exact ⟨_, rfl, keepsAll_event fun h => .ite (fun _ => h.presenceLost) fun _ => h⟩
  | lowSupplyAssert => exact ⟨_, rfl, keepsAll_event fun h => .ite (fun _ => h.setPowerCtl.raise) fun _ => h⟩
  | lowSupplyRelease => exact ⟨_, rfl, keepsAll_event fun h => .ite (fun _ => h.setPowerCtl) fun _ => h⟩
  | buttonPress => exact ⟨_, rfl, keepsAll_quietEvent fun h => h.setBox⟩
  | buttonRelease => exact ⟨_, rfl, keepsAll_event fun h => .ite (fun _ => h.buttonReleased) fun _ => h⟩
  | buttonLongPress => exact ⟨_, rfl, keepsAll_event fun h => .ite (fun _ => h.buttonLong) fun _ => h⟩
  | boxClockTick =>
    exact ⟨_, rfl, keepsAll_clockEvent fun h => .ite (fun _ => h) fun _ => .ite (fun _ => h.tickClock) fun _ => h.tickClock.tickMain⟩
  | alarmExpiry => exact ⟨_, rfl, keepsAll_clockEvent fun h => h.alarmExpiry⟩
  | idleStandbyExpiry => exact ⟨_, rfl, keepsAll_event fun h => .ite (fun _ => h.idleRaised.stopOrder) fun _ => h⟩
  | idleOffExpiry => exact ⟨_, rfl, keepsAll_event fun h => .ite (fun _ => h.idleRaised.powerOffOrder) fun _ => h⟩
  | tSpEnd => exact ⟨_, rfl, keepsAll_event fun h => .ite (fun _ => h.spSettled) fun _ => h⟩
  | graceEnd => exact ⟨_, rfl, keepsAll_event fun h => h.graceEnd⟩
  | resumeLimitExpiry => exact ⟨_, rfl, keepsAll_event fun h => h.resumeLimitExpiry⟩
  | patrolDue => exact ⟨_, rfl, keepsAll_event fun h => .ite (fun _ => h.patrolFallsDue) fun _ => h⟩
  | frameArrival => exact ⟨_, rfl, keepsAll_event fun h => h.frameArrives⟩
  | powerOnReset =>
    have h : KeepsAll s.part s.part.begin := (keepsAll_refl s.part).begin
    refine ⟨_, rfl, (Keeps.startSequence ?_ ?_).settle.finish⟩
    · exact .ite (fun _ => h) fun _ => h.clockEmptied rfl rfl
    · split <;> exact hout
  | backupSupplyLoss => exact ⟨_, rfl, .ite (fun _ => (keepsAll_refl s.part).clockEmptied rfl rfl) fun _ => keepsAll_refl s.part⟩
  | imageJudged => exact ⟨_, rfl, keepsAll_event fun h => h.imageRead⟩
  | saveReadbackEnd => exact ⟨_, rfl, keepsAll_quietEvent fun h => h.readBack⟩
  | porLineAsserted =>
    have h : KeepsAll s.part s.part.begin.mainAtReset := (keepsAll_refl s.part).begin.mainAtReset hout
    have hq : KeepsAll s.part { s.part.begin.mainAtReset with held := true } := h.same
    exact ⟨_, rfl, hq.finish⟩
  | backupDomainSupplyReturn =>
    exact ⟨_, rfl, .ite (fun _ => keepsAll_refl s.part) fun _ => (keepsAll_refl s.part).clockEmptied rfl rfl⟩

/-- A step keeps whatever every command keeps. -/
theorem step_keeps {s t : State} (h : step s = .next t) : Part.KeepsAll s.part t.part := by
  unfold step at h
  split at h
  · cases h
    exact Part.keepsAll_refl _
  next c rest _ =>
    obtain ⟨q, hexec, hkeeps⟩ := exec_keeps c { s with pending := rest }
    cases hexec.symm.trans h
    exact hkeeps

/-! ## The settled statements -/

namespace Part

/-- Each of the pool's slots is free, a request's or the engine's. -/
theorem slots_eq_length (p : Part) : p.freeSlots + p.requestSlots + p.engineSlots = p.router.pool.length := by
  unfold freeSlots requestSlots engineSlots
  induction p.router.pool with
  | nil => rfl
  | cons x l ih => cases x <;> simp <;> omega

end Part

/-- Settles O2: `step_keeps`, and a pool's slots are counted by their holders. -/
theorem stepKeepsPool : Obligations.StepKeepsPool := fun s t hs ht => by
  have hp := (step_keeps ht).pool hs
  exact ⟨hp, t.part.slots_eq_length.trans hp.1⟩

/-- Settles O3. -/
theorem stepKeepsAlarmList : Obligations.StepKeepsAlarmList := fun _ _ hs ht => (step_keeps ht).alarm trivial hs

/-- Settles O4. -/
theorem stepKeepsLimits : Obligations.StepKeepsLimits :=
  ⟨fun _ _ hs ht => ((step_keeps ht).log hs).logInv, fun _ _ hs ht => (step_keeps ht).queue hs⟩

/-- Settles O5: the bays' half of the agreement and the SP's are kept, the second given the first. -/
theorem stepKeepsStartQueue : Obligations.StepKeepsStartQueue := fun _ _ hs ht => by
  obtain ⟨hbays, hsp⟩ := Part.startInv_iff.1 hs
  exact Part.startInv_iff.2 ⟨(step_keeps ht).bays hbays, (step_keeps ht).sp trivial hbays hsp⟩

/-- Settles O6. -/
theorem stepKeepsReadOnlyDrives : Obligations.StepKeepsReadOnlyDrives := fun _ _ hs ht => (step_keeps ht).readOnly hs

/-! ## The machine right after reset, by the fields the invariants read -/

theorem reset_bay (b : Fin 4) : State.reset.part.bay b = {} := by
  change (Vector.replicate 4 ({} : Bay))[b] = {}
  simp

theorem reset_clock : State.reset.part.clock = {} := rfl
theorem reset_engine : State.reset.part.engine = {} := rfl
theorem reset_power : State.reset.part.power = {} := rfl
theorem reset_box : State.reset.part.box = {} := rfl

/-- Settles O7: each invariant by the reset values it reads. -/
theorem resetMeetsInvariants : Obligations.ResetMeetsInvariants := by
  refine ⟨⟨List.length_replicate, reset_memWf⟩, ?alarms, ?log, fun b => by simp [reset_bay], ?start, fun hro => ?readOnly⟩
  case alarms => simp [Part.AlarmInv, reset_clock]
  case log => simp [Part.LogInv, reset_engine, Config.logLimit, Config.repairLimit, Config.highMark]
  case start =>
    simp [Part.StartInv, reset_bay, reset_power, reset_box]
  case readOnly => exact absurd hro (by decide)

/-- Settles O1: every command answers a next state with the queue as it stands. -/
theorem stepRunsFrontCommand : Obligations.StepRunsFrontCommand := by
  refine ⟨fun c s => ⟨rfl, ?_⟩, fun s hs => by simp [step, hs]⟩
  obtain ⟨q, hexec, -⟩ := exec_keeps c s
  exact ⟨_, hexec, rfl⟩

end Sys2Proof.Machine
end

section
/-! PROOFS. How a command's effect is read off its meaning: an event under a condition, an event of a bay, a command that comes
through a port. -/

namespace Sys2Proof.Machine

open Sys2Proof

variable {c : Instr} {s : State} {q : Part}

theorem gives_of_condition {g : Part → Bool} {f : Part → Part} (hx : exec c s = onCondition g f s) (hh : s.part.held = false)
    (hg : g s.part.begin = true) (hq : f s.part.begin = q) : Gives c s q :=
  gives_of_event hx hh ((if_pos hg).trans hq)

/-- Where its condition does not hold an event has no effect of its own. -/
theorem gives_of_not_condition {g : Part → Bool} {f : Part → Part} (hx : exec c s = onCondition g f s)
    (hh : s.part.held = false) (hg : g s.part.begin = false) : Gives c s { s.part with out := [] } :=
  gives_of_event hx hh (if_neg (by simp [hg]))

theorem gives_of_bayEvent {b : Fin 4} {g : Bay → Bool} {f : Part → Part} (hx : exec c s = onBayEvent b g f s)
    (hh : s.part.held = false) (hg : g (s.part.bay b) = true) (hq : f s.part.begin = q) : Gives c s q :=
  gives_of_event hx hh ((if_pos hg).trans hq)

theorem gives_of_not_bayEvent {b : Fin 4} {g : Bay → Bool} {f : Part → Part} (hx : exec c s = onBayEvent b g f s)
    (hh : s.part.held = false) (hg : g (s.part.bay b) = false) : Gives c s { s.part with out := [] } :=
  gives_of_event hx hh (if_neg (by simpa [Part.begin, Part.bay] using hg))

variable {via : Via} {k : Kind} {x : Cmd}

/-- A command that is no block request is carried out on the part with its record or frame taken. -/
theorem gives_command (ht : Taken via k s.part) (hx : exec c s = onEvent (Part.issue via x) s) (hk : cmdKind x = some k)
    (hr : isRequest k = false) (hq : Part.carryOut (answererOf via) x (portTook s.part (some k) via) = q) : Gives c s q :=
  gives_of_event hx ht.1 ((issue_taken ht hk hr).trans hq)

theorem givesQuietly_command (ht : Taken via k s.part) (hx : exec c s = onQuiet (Part.issue via x) s)
    (hk : cmdKind x = some k) (hr : isRequest k = false)
    (hq : Part.carryOut (answererOf via) x (portTook s.part (some k) via) = q) : GivesQuietly c s q :=
  gives_of_quietEvent hx ht.1 ((issue_taken ht hk hr).trans hq)

/-! ## The checks of a command (section 0.12) -/

theorem Part.checked_of_refused {p : Part} {who : Answerer} {l : List (Bool × Status)} {f : Part → Part} {st : Status}
    (h : firstRefusal l = some st) : p.checked who l f = p.reply who st := by simp [Part.checked, h]

theorem Part.checked_of_passed {p : Part} {who : Answerer} {l : List (Bool × Status)} {f : Part → Part}
    (h : firstRefusal l = none) : p.checked who l f = f p := by simp [Part.checked, h]

theorem windowOf_of_lt {n : Nat} (h : n < 16) : windowOf n = some ⟨n, h⟩ := by simp [windowOf, h]

theorem windowOf_of_not_lt {n : Nat} (h : ¬n < 16) : windowOf n = none := by simp [windowOf, h]

@[simp] theorem windowOf_val (w : Fin 16) : windowOf w.val = some w := by simp [windowOf]

@[simp] theorem bayOf_val (b : Fin 4) : bayOf b.val = some b := by simp [bayOf]

theorem bayOf_of_not_lt {n : Nat} (h : ¬n < 4) : bayOf n = none := by simp [bayOf, h]

@[simp] theorem Part.begin_request? (p : Part) (id : Nat) : p.begin.request? id = p.request? id := rfl

end Sys2Proof.Machine
end

section
/-! PROOFS. The outputs of an event's end (O8), the severity of results (O9), the translation of window offsets and back (O10, O11)
and the slots' contents (O15). -/

namespace Sys2Proof.Machine

open Sys2Proof

/-! ## The end of an event -/

theorem railOn_iff (x : Bay) : x.railOn = true ↔
    x.power ∈ [Power.starting, .ready, .stopping, .standby] ∨ (x.power = .waiting ∧ x.waitingFrom = some .standby) := by
  unfold Bay.railOn
  cases x.power <;> simp

theorem attentionLine_eq (p : Part) : p.attentionLine =
    decide ((p.mp.st = .replyReady ∧ (p.mp.mode = .notify ∨ p.mp.late = true)) ∨ p.mp.notices ≠ []) := by
  rw [Bool.eq_iff_iff]
  simp [Part.attentionLine]

/-- Settles O8: an event's end closes the batch and refreshes the outputs, and each output is read off the state. -/
theorem eventEndsWithOutputs : Obligations.EventEndsWithOutputs := by
  intro p
  have hbatch := Part.closeBatch_eq_batchEnded p
  refine ⟨fun b => ?rails, ?out, ?pp, ?attention, ?frame⟩
  case rails =>
    have hb : p.finish.bayRails[b] = (p.closeBatch.bay b).railOn := by simp [Part.finish, Part.refresh, Part.railsNow]
    rw [hb, Part.closeBatch_bay]
    exact railOn_iff _
  case out => exact congrArg Part.out hbatch
  case pp => exact congrArg Part.pp hbatch
  case attention =>
    have ha : p.finish.mp.attention = p.closeBatch.attentionLine := rfl
    rw [ha, attentionLine_eq, hbatch]
    rfl
  case frame =>
    simp only [Part.finish, Part.refresh, hbatch, batchEnded]

/-! ## The severity of results (R40) -/

theorem worse_cases (x y : Status) : worse x y = x ∨ worse x y = y := by
  unfold worse
  split <;> simp

theorem foldl_worse_mem (l : List Status) : ∀ x : Status, l.foldl worse x ∈ x :: l := by
  induction l with
  | nil => simp
  | cons y l ih =>
    intro x
    rcases List.mem_cons.1 (ih (worse x y)) with h | h
    · rcases worse_cases x y with hw | hw <;> simp [hw] at h <;> simp [hw, h]
    · simp [h]

theorem foldl_worse_le (l : List Status) : ∀ x : Status, ∀ r ∈ x :: l, severity (l.foldl worse x) ≤ severity r := by
  induction l with
  | nil => simp
  | cons y l ih =>
    intro x r hr
    rw [List.foldl_cons]
    have hw : severity (l.foldl worse (worse x y)) ≤ severity (worse x y) := ih _ _ List.mem_cons_self
    have hx : severity (worse x y) ≤ severity x ∧ severity (worse x y) ≤ severity y := by
      unfold worse
      split <;> omega
    rcases List.mem_cons.1 hr with rfl | hr
    · omega
    rcases List.mem_cons.1 hr with rfl | hr
    · omega
    · exact ih _ _ (List.mem_cons_of_mem _ hr)

theorem severity_eq_idxOf : ∀ r ∈ resultOrder, severity r = resultOrder.idxOf r + 1 := by decide

/-- Settles O9: the ranks of `severity` are the places of R40's table. -/
theorem worstIsMostSevere : Obligations.WorstIsMostSevere := by
  intro l hl
  have hmem : worst l ∈ Status.ok :: l := foldl_worse_mem l .ok
  refine ⟨hmem, fun r hr => ?_⟩
  have hworst : worst l ∈ resultOrder := by
    rcases List.mem_cons.1 hmem with h | h
    · rw [h]; decide
    · exact hl _ h
  have hle : severity (worst l) ≤ severity r := foldl_worse_le l .ok r (List.mem_cons_of_mem _ hr)
  rw [severity_eq_idxOf _ hworst, severity_eq_idxOf _ (hl r hr)] at hle
  omega

/-! ## Translation and the reverse mapping (R20 to R24) -/

theorem reverseMap_stripe_arith {u n q x : Nat} (hu : 0 < u) (hx : x < u * n * q) :
    x / u / n * u + x % u < u * q ∧ ((x / u / n * u + x % u) / u * n + x / u % n) * u + (x / u / n * u + x % u) % u = x := by
  have hr : x % u < u := Nat.mod_lt _ hu
  have hdiv : (x / u / n * u + x % u) / u = x / u / n := by
    rw [Nat.add_comm, Nat.add_mul_div_right _ _ hu, Nat.div_eq_of_lt hr, Nat.zero_add]
  have hmod : (x / u / n * u + x % u) % u = x % u := by
    rw [Nat.add_comm, Nat.add_mul_mod_self_right, Nat.mod_mod]
  have hq : x / u / n < q := by
    rw [Nat.div_div_eq_div_mul]
    exact Nat.div_lt_of_lt_mul hx
  refine ⟨?_, ?_⟩
  · calc x / u / n * u + x % u < x / u / n * u + u := by omega
      _ = (x / u / n + 1) * u := by ring
      _ ≤ q * u := Nat.mul_le_mul_right u hq
      _ = u * q := Nat.mul_comm _ _
  · rw [hdiv, hmod, Nat.div_add_mod' (x / u) n, Nat.div_add_mod' x u]

/-- Settles O11: the row of a STRIPE block is its unit's number divided by the members, its member the remainder. -/
theorem reverseMapUndoesTranslation : Obligations.ReverseMapUndoesTranslation := by
  intro w m x hx hstripe _ hm
  cases hl : w.layout with
  | stripe =>
    obtain ⟨hu, hmem, q, hq⟩ := hstripe hl
    have hn : 0 < w.members.length := List.length_pos_iff.2 hmem
    have hm' : m = x / w.unit.getD 1 % w.members.length := by simpa [blockOf, hl] using hm (by simp [hl])
    obtain ⟨hlt, hback⟩ := reverseMap_stripe_arith hu (hq ▸ hx)
    have hext : w.extentLen = w.unit.getD 1 * q := by
      simp only [Window.extentLen, hl, hq]
      rw [Nat.mul_right_comm, Nat.mul_div_cancel _ hn]
    have hrel : blockOnMember w m x - (w.member m).base = x / w.unit.getD 1 / w.members.length * w.unit.getD 1
        + x % w.unit.getD 1 := by
      simp only [blockOnMember, hl]
      omega
    refine ⟨?_, ?_⟩
    · simp only [inExtent, hext, blockOnMember, hl, decide_eq_true_eq]
      omega
    · simp only [reverseMap, hl, hrel]
      rw [hm']
      exact hback
  | single | mirror | whole =>
    simp only [inExtent, reverseMap, blockOnMember, Window.extentLen, hl, decide_eq_true_eq]
    omega

theorem mem_touched {o n g : Nat} (hn : 1 ≤ n) : g ∈ touched o n ↔ ∃ x, o ≤ x ∧ x < o + n ∧ g = x / 4096 := by
  simp only [touched, Config.regionBlocks, List.mem_map, List.mem_range]
  constructor
  · rintro ⟨i, hi, rfl⟩
    rcases Nat.eq_zero_or_pos i with rfl | hpos
    · exact ⟨o, by omega, by omega, by omega⟩
    · exact ⟨(o / 4096 + i) * 4096, by omega, by omega, by omega⟩
  · rintro ⟨x, hx, hlt, rfl⟩
    exact ⟨x / 4096 - o / 4096, by omega, by omega⟩

/-- A run of offsets `o` on, of `n`. -/
def offsets (o n : Nat) : List Nat := (List.range n).map fun i => o + i

theorem offsets_append (o c n : Nat) : offsets o c ++ offsets (o + c) n = offsets o (c + n) := by
  unfold offsets
  rw [List.range_add, List.map_append, List.map_map]
  congr 2
  funext i
  simp [Nat.add_assoc]

/-- The offsets a fragment covers. -/
def covered (f : Fragment) : List Nat := (List.range f.count).map fun i => f.first + i

/-- What R20 and R21 ask of a fragment: it covers some block, is not placed yet, and each of its blocks lies where the translation of
its window offset puts it. -/
def Translated (w : Window) (f : Fragment) : Prop :=
  1 ≤ f.count ∧ f.bay = (w.member f.member).bay ∧ f.placed = false ∧ f.result = none
    ∧ ∀ i < f.count, ((f.member, f.block + i) : Nat × Nat) = blockOf w (f.first + i)

/-- Within one unit the unit's number, its row and its member stay the same. -/
theorem unit_arith {o u i c : Nat} (hu : 0 < u) (hc : c ≤ u - o % u) (hi : i < c) :
    (o + i) / u = o / u ∧ (o + i) % u = o % u + i := by
  have hr : o % u < u := Nat.mod_lt _ hu
  have hsum : o + i = u * (o / u) + (o % u + i) := by
    have := Nat.div_add_mod o u
    omega
  have hlt : o % u + i < u := by omega
  constructor
  · rw [hsum, Nat.mul_add_div hu, Nat.div_eq_of_lt hlt, Nat.add_zero]
  · rw [hsum, Nat.mul_add_mod, Nat.mod_eq_of_lt hlt]

theorem stripeFragments_spec {w : Window} {u : Nat} (hl : w.layout = .stripe) (hu : u = w.unit.getD 1) (hpos : 0 < u) :
    ∀ fuel o n, n ≤ fuel → (stripeFragments w u fuel o n).flatMap covered = offsets o n
      ∧ ∀ f ∈ stripeFragments w u fuel o n, Translated w f := by
  intro fuel
  induction fuel with
  | zero =>
    intro o n hn
    obtain rfl : n = 0 := by omega
    simp [stripeFragments, offsets]
  | succ fuel ih =>
    intro o n hn
    by_cases h0 : n = 0
    · simp [stripeFragments, offsets, h0]
    have hr : o % u < u := Nat.mod_lt _ hpos
    obtain ⟨hcover, hall⟩ := ih (o + min n (u - o % u)) (n - min n (u - o % u)) (by omega)
    simp only [stripeFragments, if_neg h0, List.flatMap_cons, hcover, List.mem_cons, forall_eq_or_imp]
    refine ⟨?_, ⟨le_min (by omega) (by omega), rfl, rfl, rfl, fun i hi => ?_⟩, hall⟩
    · change offsets o (min n (u - o % u)) ++ _ = _
      rw [offsets_append]
      congr 1
      omega
    · obtain ⟨hdiv, hmod⟩ := unit_arith hpos (Nat.min_le_right _ _) hi
      simp only [blockOf, blockOnMember, hl, ← hu, hdiv, hmod]
      simp only [Nat.add_assoc]

/-- Settles O10: by the steps of R21 for a STRIPE window, by the one fragment of the other layouts. -/
theorem fragmentsCoverRequest : Obligations.FragmentsCoverRequest := by
  refine ⟨fun w o n hl hn hstripe => ?_, fun o n hn hn' => ⟨fun g => mem_touched hn, ?_⟩⟩
  · cases hlay : w.layout with
    | stripe =>
      simp only [translate, hlay]
      exact stripeFragments_spec hlay rfl (hstripe hlay).1 n o n le_rfl
    | mirror => exact absurd hlay hl
    | single | whole => simp [translate, hlay, plainFragment, blockOf, blockOnMember, Nat.add_assoc, Nat.one_le_iff_ne_zero, hn.ne']
  · simp only [touched, Config.regionBlocks, List.length_map, List.length_range]
    split <;> omega

/-! ## Slot contents (R32, R61) -/

theorem slotAddr_eq_some {slots : List Nat} {i a : Nat} :
    slotAddr slots i = some a ↔ ∃ k, slots[i / 4096]? = some k ∧ a = 4096 * k + i % 4096 := by
  simp only [slotAddr, Config.blockBytes, Option.map_eq_some_iff]
  constructor
  · rintro ⟨k, hk, rfl⟩; exact ⟨k, hk, rfl⟩
  · rintro ⟨k, hk, rfl⟩; exact ⟨k, hk, rfl⟩

/-- Of a run of distinct slots no two places have one address. -/
theorem slotAddr_inj {slots : List Nat} (hs : slots.Nodup) {i j a : Nat} (hi : slotAddr slots i = some a)
    (hj : slotAddr slots j = some a) : i = j := by
  obtain ⟨k, hk, rfl⟩ := slotAddr_eq_some.1 hi
  obtain ⟨l, hl, he⟩ := slotAddr_eq_some.1 hj
  obtain rfl : k = l := by omega
  have hdiv : i / 4096 = j / 4096 := (List.getElem?_inj (List.getElem?_eq_some_iff.1 hk).1 hs).1 (hk.trans hl.symm)
  omega

theorem slotAddr_isSome {slots : List Nat} {i : Nat} (hi : i < 4096 * slots.length) : ∃ a, slotAddr slots i = some a := by
  have hlt : i / 4096 < slots.length := by omega
  exact ⟨_, slotAddr_eq_some.2 ⟨slots[i / 4096], by simp [hlt], rfl⟩⟩

/-- An address at which no byte of the run is written keeps its byte. -/
theorem readByte_writeStream_of_ne {slots : List Nat} (a : Nat) : ∀ (bs : List Byte) {m : List Host.Cell} (i : Nat),
    memWf m → (∀ j < bs.length, slotAddr slots (i + j) ≠ some a) → readByte (writeStream slots m i bs) a = readByte m a
  | [], _, _, _, _ => rfl
  | b :: bs, m, i, hm, hne => by
    unfold writeStream
    split
    · rfl
    next c hc =>
      have hca : a ≠ c := fun e => hne 0 (by simp) (by simpa [e] using hc)
      rw [readByte_writeStream_of_ne a bs (i + 1) (writeByte_wf hm c b) fun j hj => ?_, readByte_writeByte hm, if_neg hca]
      rw [Nat.add_right_comm, Nat.add_assoc]
      exact hne (j + 1) (by simpa using hj)

theorem readByte_writeStream_self {slots : List Nat} (hs : slots.Nodup) : ∀ (bs : List Byte) {m : List Host.Cell} (i : Nat),
    memWf m → i + bs.length ≤ 4096 * slots.length → ∀ (j a : Nat) (v : Byte), bs[j]? = some v →
      slotAddr slots (i + j) = some a → readByte (writeStream slots m i bs) a = v
  | [], _, _, _, _, _, _, _, hv, _ => by simp at hv
  | b :: bs, m, i, hm, hlen, j, a, v, hv, ha => by
    rw [List.length_cons] at hlen
    obtain ⟨c, hc⟩ := slotAddr_isSome (slots := slots) (i := i) (by omega)
    unfold writeStream
    simp only [hc]
    cases j with
    | zero =>
      obtain rfl : c = a := by simpa [hc] using ha
      obtain rfl : b = v := by simpa using hv
      rw [readByte_writeStream_of_ne c bs (i + 1) (writeByte_wf hm c b) fun j hj he => ?_, readByte_writeByte hm, if_pos rfl]
      have := slotAddr_inj hs hc he
      omega
    | succ j =>
      refine readByte_writeStream_self hs bs (i + 1) (writeByte_wf hm c b) (by omega) j a v (by simpa using hv) ?_
      rwa [Nat.add_right_comm, Nat.add_assoc]

/-- Settles O15: each byte of the run goes to an address of its own. -/
theorem streamWritesItsSlots : Obligations.StreamWritesItsSlots := by
  intro m slots i bs hm hs hlen
  refine ⟨fun j k v hv hk => ?_, fun a ha => ?_, writeStream_wf slots hm i bs⟩
  · exact readByte_writeStream_self hs bs i hm hlen j _ v hv (slotAddr_eq_some.2 ⟨k, hk, rfl⟩)
  · refine readByte_writeStream_of_ne a bs i hm fun j hj he => ?_
    obtain ⟨k, hk, rfl⟩ := slotAddr_eq_some.1 he
    rcases ha j hj with h | h
    · exact h (by rw [hk]; congr 1; omega)
    · omega

end Sys2Proof.Machine
end

section
/-! PROOFS. What a port does with a block request: accepted (O12) or refused (O13). -/

namespace Sys2Proof.Machine

open Sys2Proof

/-! ## The six checks of R28 -/

/-- The window a request names, an unused record where it names none. -/
def askedWindow (p : Part) (a : Ask) : Window := if h : a.window < 16 then p.window ⟨a.window, h⟩ else {}

theorem allows_iff (r : Right) (k : ReqKind) : allows r k = decide (r = .readWrite ∨ (r = .read ∧ k ≠ .write)) := by
  cases r <;> cases k <;> rfl

theorem askedWindow_eq (p : Part) (a : Ask) : ((windowOf a.window).map p.window).getD {} = askedWindow p a := by
  unfold askedWindow
  split
  next h => rw [windowOf_of_lt h]; rfl
  next h => rw [windowOf_of_not_lt h]; rfl

/-- R28's checks as the statements write them. -/
def checksOf (p : Part) (a : Ask) : List (Bool × Status) :=
  [(decide (a.kind = .flush ∨ (1 ≤ a.count ∧ a.count ≤ 256)), .badRequest),
   (decide (∀ r ∈ p.router.requests, ¬(r.port = a.port ∧ r.tag = a.tag)), .tagInUse),
   (decide (a.window < 16 ∧ (askedWindow p a).st = .opened), .noWindow),
   (decide ((askedWindow p a).right a.port = .readWrite ∨ ((askedWindow p a).right a.port = .read ∧ a.kind ≠ .write)), .denied),
   (decide (a.kind = .flush ∨ a.offset + a.count ≤ (askedWindow p a).length), .range),
   (decide (a.kind = .write → p.loader.mode ≠ .readOnly), .readOnly)]

theorem requestChecks_eq (p : Part) (a : Ask) : p.requestChecks a = checksOf p a := by
  have hst : (askedWindow p a).st = .opened → a.window < 16 := fun h => by
    by_contra hw
    simp [askedWindow, hw] at h
  have hblocks (q : Prop) [Decidable q] : (!(a.kind != .flush) || decide q) = decide (a.kind = .flush ∨ q) := by
    by_cases h : a.kind = .flush <;> simp [h]
  have htag : (!p.router.requests.any fun r => r.port == a.port && r.tag == a.tag)
      = decide (∀ r ∈ p.router.requests, ¬(r.port = a.port ∧ r.tag = a.tag)) := by
    rw [Bool.eq_iff_iff]
    simp
  have hopen : ((askedWindow p a).st == .opened) = decide (a.window < 16 ∧ (askedWindow p a).st = .opened) := by
    rw [Bool.eq_iff_iff]
    simpa using hst
  have hmode : (!(a.kind == .write && p.readOnly)) = decide (a.kind = .write → p.loader.mode ≠ .readOnly) := by
    rw [Bool.eq_iff_iff]
    simp [Part.readOnly]
  simp only [Part.requestChecks, checksOf, askedWindow_eq, hblocks, htag, hopen, hmode, allows_iff]
  rfl

/-! ## Taking the record (R177, R183) -/

/-- What a port does with the block request it has taken. -/
def Part.takeAsk (a : Ask) (p : Part) : Part := if a.port = .dp ∧ a.kind = .write then p.dpWrite a else p.takeRequest a

/-- A block request is one event of the command it comes as, through the processor port or the direct port. -/
theorem requestOf_cases {c : Instr} {via : Via} {a : Ask} (h : requestOf c = some (via, a)) :
    ∃ k : Cmd, (∀ s, exec c s = onEvent (Part.issue via k) s)
      ∧ ((∃ tag addr len, via = .pp tag addr len ∧ a.port = .pp ∧ Part.askOf .pp tag k = some a)
        ∨ ∃ tag, via = .dp tag ∧ a.port = .dp ∧ Part.askOf .dp tag k = some a) := by
  cases c with
  | read v w o n l m =>
    refine ⟨.read w o n l m, ?_⟩
    cases v <;> simp [requestOf, askThrough] at h
    all_goals
      obtain ⟨rfl, rfl⟩ := h
      exact ⟨fun _ => rfl, by simp [Part.askOf]⟩
  | write v w o n l m =>
    refine ⟨.write w o n l m, ?_⟩
    cases v <;> simp [requestOf, askThrough] at h
    all_goals
      obtain ⟨rfl, rfl⟩ := h
      exact ⟨fun _ => rfl, by simp [Part.askOf]⟩
  | flush v w m =>
    refine ⟨.flush w m, ?_⟩
    cases v <;> simp [requestOf, askThrough] at h
    all_goals
      obtain ⟨rfl, rfl⟩ := h
      exact ⟨fun _ => rfl, by simp [Part.askOf]⟩
  | _ => simp [requestOf] at h

theorem gives_request {c : Instr} {s : State} {via : Via} {a : Ask} (hc : requestOf c = some (via, a))
    (ht : Taken via (requestKind a.kind) s.part) (hw : a.port = .pp → s.part.box.st ≠ some .waking) :
    Gives c s (Part.takeAsk a (portTook s.part (some (requestKind a.kind)) via)) := by
  obtain ⟨k, hexec, hvia⟩ := requestOf_cases hc
  refine gives_of_event (hexec s) ht.1 ?_
  rcases hvia with ⟨tag, addr, len, rfl, hport, hask⟩ | ⟨tag, rfl, hport, hask⟩
  · rw [issue_request_pp ht hask (hw hport), Part.takeAsk, if_neg (by simp [hport])]
  · rw [issue_request_dp ht hask]
    simp only [Part.takeAsk, hport, true_and]

/-- A port that has taken a request can be told of its end. -/
theorem Taken.setup {tag : Tag} {addr len : Nat} {k : Kind} {p : Part} (h : Taken (.pp tag addr len) k p) : p.pp.setup = .set := by
  have hready : p.mayFetch = true := h.2.1
  simp only [Part.mayFetch, Bool.and_eq_true, beq_iff_eq] at hready
  exact hready.1.1.1.1

theorem Taken.attached {tag : Tag} {k : Kind} {p : Part} (h : Taken (.dp tag) k p) : p.dp.attached = true := by
  have hready : p.mayTake = true := h.2.1
  simp only [Part.mayTake, Bool.and_eq_true] at hready
  exact hready.1.1.1

/-! ## Accepted and refused -/

theorem takeRequest_of_accepted {p : Part} {a : Ask} {w : Fin 16} (h : firstRefusal (p.requestChecks a) = none)
    (hw : a.window = w.val) : p.takeRequest a = p.accept a w := by
  have hwin : windowOf a.window = some w := by simp [hw, windowOf]
  simp [Part.takeRequest, h, hwin]

theorem takeRequest_of_refused {p : Part} {a : Ask} {st : Status} (h : firstRefusal (p.requestChecks a) = some st) :
    p.takeRequest a = p.handCompletion a.port a.tag st 0 := by
  simp [Part.takeRequest, h]

theorem dpWrite_of_accepted {p : Part} {a : Ask} (h : firstRefusal (p.requestChecks a) = none) :
    p.dpWrite a = { p.takeRequest a with dp := { (p.takeRequest a).dp with out := .hold, writing := some p.router.nextId } } := by
  simp [Part.dpWrite, h]

theorem dpWrite_of_refused {p : Part} {a : Ask} {st : Status} (h : firstRefusal (p.requestChecks a) = some st) :
    p.dpWrite a = if 1 ≤ a.count ∧ a.count ≤ 256 then
      { p.takeRequest a with dp := { (p.takeRequest a).dp with out := .discard, remaining := a.count * 4096 } }
      else p.takeRequest a := by
  simp only [Part.dpWrite, h, Option.isNone_some, Bool.false_eq_true, if_false]
  rfl

theorem portTook_checks (p : Part) (k : Option Kind) (via : Via) (a : Ask) : checksOf (portTook p k via) a = checksOf p a := by
  have hwin : askedWindow (portTook p k via) a = askedWindow p a := by simp [askedWindow]
  simp only [checksOf, hwin, portTook_router, portTook_loader]

theorem takeAsk_of_accepted {p : Part} {a : Ask} {w : Fin 16} (h : firstRefusal (p.requestChecks a) = none)
    (hw : a.window = w.val) : Part.takeAsk a p = { p.accept a w with
      dp := if a.port = .dp ∧ a.kind = .write then { p.dp with out := .hold, writing := some p.router.nextId } else p.dp } := by
  have hdp : (p.accept a w).dp = p.dp := by
    unfold Part.accept Part.countUp
    cases a.port <;> rfl
  unfold Part.takeAsk
  split
  · rw [dpWrite_of_accepted h, takeRequest_of_accepted h hw, hdp]
  · rw [takeRequest_of_accepted h hw, ← hdp]

theorem accept_eq (p : Part) (a : Ask) (w : Fin 16) : p.accept a w = { p with
    router := { p.router with
      requests := p.router.requests ++ [p.recordOf a w]
      nextId := p.router.nextId + 1
      ppCount := if a.port = .pp then p.router.ppCount + 1 else p.router.ppCount
      dpCount := if a.port = .dp then p.router.dpCount + 1 else p.router.dpCount
      slotWait := if a.kind = .flush then p.router.slotWait
        else p.router.slotWait ++ [{ who := .request p.router.nextId, need := a.count }] }
    windows := p.windows.set w { p.window w with inFlight := (p.window w).inFlight + 1 } } := by
  unfold Part.accept Part.countUp
  cases a.port <;> rfl

/-- Settles O12: with every check passed the record joins the outstanding ones, and a DP WRITE's pipe is held. -/
theorem requestAccepted : Obligations.RequestAccepted := by
  intro c s via a w hc ht hw hcount htag hwin hst hright hrange hmode p v r
  have hvia : askedWindow s.part a = s.part.window w := by simp [askedWindow, hwin]
  have hnone : firstRefusal (p.requestChecks a) = none := by
    have hlt : a.window < 16 := by rw [hwin]; exact w.isLt
    have hflush (q : Prop) (hq : a.kind ≠ .flush → q) : a.kind = .flush ∨ q := or_iff_not_imp_left.2 hq
    rw [requestChecks_eq, portTook_checks]
    simp only [checksOf, hvia, firstRefusal, hst, hlt, hright, hflush _ hcount, hflush _ hrange, true_and, decide_true, if_true]
    simp only [not_and, decide_eq_true (show ∀ r ∈ s.part.router.requests, r.port = a.port → ¬r.tag = a.tag from htag), if_true,
      decide_eq_true (show a.kind = .write → s.part.loader.mode ≠ .readOnly from hmode)]
  have hq := gives_request hc ht hw
  have hv : v = p.window w := (portTook_window _ _ _ _).symm
  have hr : r = p.recordOf a w := by
    simp only [r, hv, Part.recordOf, Request.mk.injEq, true_and, and_true]
    rw [Bool.eq_iff_iff]
    simp [and_assoc]
  rw [takeAsk_of_accepted hnone hwin, accept_eq] at hq
  rw [hr, hv]
  exact hq

/-- Settles O13: the first refusal of the six is the completion's status. -/
theorem requestRefused : Obligations.RequestRefused := by
  intro c s via a st hc ht hw v hst p
  have hsome : firstRefusal (p.requestChecks a) = some st := by
    rw [requestChecks_eq, portTook_checks]
    exact hst
  have hq := gives_request hc ht hw
  obtain ⟨_, -, hvia⟩ := requestOf_cases hc
  rcases hvia with ⟨tag, addr, len, rfl, hport, -⟩ | ⟨tag, rfl, hport, -⟩
  · have he : Part.takeAsk a p = listed p (requestCompletion a.tag st 0) := by
      rw [Part.takeAsk, if_neg (by simp [hport]), takeRequest_of_refused hsome, hport]
      exact if_neg (by simp [p, portTook, ht.setup])
    rw [hport]
    exact he ▸ hq
  · have hlist : p.takeRequest a = queuedUp p (requestCompletion a.tag st 0) := by
      rw [takeRequest_of_refused hsome, hport]
      exact if_pos ht.attached
    rw [hport]
    simp only
    rw [← hlist]
    rw [Part.takeAsk, dpWrite_of_refused hsome] at hq
    by_cases hk : a.kind = .write <;> simpa [hport, hk] using hq

end Sys2Proof.Machine
end

section
/-! PROOFS. The grant of slots and the placing of a request's fragments (O14). -/

namespace Sys2Proof.Machine

open Sys2Proof

/-! ## Slots given (R33) -/

/-- The slots given become the holder's, and no other changes. -/
theorem takeSlots_pool (h : Holder) : ∀ (n i : Nat) (l : List Holder),
    (takeSlots h n i l).1 = l.mapIdx fun k x => if k + i ∈ (takeSlots h n i l).2 then h else x
  | 0, _, l => by
    simp only [takeSlots, List.not_mem_nil, if_false]
    exact List.ext_getElem (by simp) fun k h1 h2 => by simp
  | _ + 1, _, [] => by simp [takeSlots]
  | n + 1, i, x :: l => by
    have hlt : ∀ m, i ∉ (takeSlots h m (i + 1) l).2 := fun m hm => by
      have := (mem_takeSlots h m (i + 1) l i hm).1
      omega
    have hshift : ∀ k, k + (i + 1) = k + 1 + i := fun k => by omega
    cases x with
    | free =>
      have hne : ∀ k, k + 1 + i ≠ i := fun k => by omega
      simp only [takeSlots, takeSlots_pool h n (i + 1) l, List.mapIdx_cons, Nat.zero_add, List.mem_cons, true_or, if_true,
        hshift, hne, false_or]
    | request | engine =>
      simp only [takeSlots, takeSlots_pool h (n + 1) (i + 1) l, List.mapIdx_cons, Nat.zero_add, if_neg (hlt _), hshift]

theorem takeSlots_length (h : Holder) : ∀ (n i : Nat) (l : List Holder), n ≤ l.count .free → (takeSlots h n i l).2.length = n
  | 0, _, _, _ => by simp [takeSlots]
  | _ + 1, _, [], hn => by simp at hn
  | n + 1, i, x :: l, hn => by
    cases x with
    | free =>
      rw [List.count_cons_self] at hn
      simp [takeSlots, takeSlots_length h n (i + 1) l (by omega)]
    | request | engine =>
      rw [List.count_cons_of_ne (by simp)] at hn
      simp [takeSlots, takeSlots_length h (n + 1) (i + 1) l hn]

/-- Which slots the head of the slot-wait list is given. -/
def givenSlots (p : Part) (e : SlotWait) : List Nat := (takeSlots (Part.holderOf e.who) e.need 0 p.router.pool).2

theorem givenSlots_spec {p : Part} {e : SlotWait} (h : e.need ≤ p.freeSlots) :
    (givenSlots p e).length = e.need ∧ (givenSlots p e).Nodup ∧ ∀ k ∈ givenSlots p e, p.router.pool[k]? = some .free :=
  ⟨takeSlots_length _ _ _ _ h, takeSlots_nodup _ _ _ _, fun k hk => (mem_takeSlots _ _ _ _ k hk).2⟩

/-- The pool with the slots given to the head of the slot-wait list. -/
def poolGiven (p : Part) (e : SlotWait) : List Holder :=
  p.router.pool.mapIdx fun k h => if k ∈ givenSlots p e then Part.holderOf e.who else h

theorem takeSlots_eq (p : Part) (e : SlotWait) :
    takeSlots (Part.holderOf e.who) e.need 0 p.router.pool = (poolGiven p e, givenSlots p e) :=
  Prod.ext (takeSlots_pool _ _ _ _) rfl

theorem grantHead_request {p : Part} {e : SlotWait} {rest : List SlotWait} {id : Nat} {r : Request}
    (hw : p.router.slotWait = e :: rest) (he : e.who = .request id) (hr : p.request? id = some r) :
    p.grantHead = ({ p with router := { p.router with slotWait := rest, pool := poolGiven p e } } : Part).requestGranted r
      (givenSlots p e) := by
  simp only [Part.grantHead, hw, takeSlots_eq]
  simp only [he, hr]

theorem modChunk_of_some {p : Part} {c : Chunk} {f : Chunk → Chunk} (h : p.engine.chunk = some c) :
    p.modChunk f = { p with engine := { p.engine with chunk := some (f c) } } := by simp [Part.modChunk, h]

theorem grantHead_engine {p : Part} {e : SlotWait} {rest : List SlotWait} {c : Chunk}
    (hw : p.router.slotWait = e :: rest) (he : e.who = .engine) (hc : p.engine.chunk = some c) :
    p.grantHead = { p with
      router := { p.router with slotWait := rest, pool := poolGiven p e }
      engine := { p.engine with chunk := some { c with
        slots := givenSlots p e, phase := .reading
        todo := if c.kind = .patrol then [.primary, .secondary] else [c.source] } } } := by
  simp only [Part.grantHead, hw, takeSlots_eq]
  simp only [he, hc, Option.isSome_some, if_true]
  exact modChunk_of_some hc

theorem mayGrant_eq {p : Part} {e : SlotWait} {rest : List SlotWait} (hw : p.router.slotWait = e :: rest) :
    p.mayGrant = decide (e.need ≤ p.freeSlots) := by simp [Part.mayGrant, hw]

theorem exec_slotGrant (s : State) : exec .slotGrant s = onCondition Part.mayGrant Part.grantHead s := rfl

theorem gives_slotGrant {s : State} {e : SlotWait} {rest : List SlotWait} (hh : s.part.held = false)
    (hw : s.part.router.slotWait = e :: rest) (hfit : e.need ≤ s.part.freeSlots) : Gives .slotGrant s s.part.begin.grantHead := by
  refine gives_of_condition (exec_slotGrant s) hh ?_ rfl
  exact (mayGrant_eq (p := s.part.begin) hw).trans (decide_eq_true hfit)

/-! ## A request's records -/

namespace Part

theorem request?_id {p : Part} {id : Nat} {r : Request} (h : p.request? id = some r) : r.id = id := by
  simpa using List.find?_some h

/-- A change of a request's record that leaves its name is read back. -/
theorem request?_modRequest {p : Part} {id : Nat} {f : Request → Request} (hf : ∀ r, (f r).id = r.id) (i : Nat) :
    (p.modRequest id f).request? i = (p.request? i).map fun r => if r.id = id then f r else r := by
  unfold request?
  rw [modRequest_requests, List.find?_map]
  congr 2
  funext r
  simp only [Function.comp_apply]
  split <;> simp [hf]

theorem request?_modFrag {p : Part} {id k : Nat} {f : Fragment → Fragment} {r : Request} {x : Fragment}
    (h : p.request? id = some r) (hk : r.frags[k]? = some x) :
    (p.modFrag id k f).request? id = some { r with frags := r.frags.set k (f x) } := by
  unfold modFrag
  rw [request?_modRequest (fun r => by split <;> rfl), h]
  simp [request?_id h, hk]

/-! ## Placing (R36 to R38) -/

/-- A fragment that still has to be placed. -/
def Unplaced (f : Fragment) : Prop := f.placed = false ∧ f.result = none

theorem nextFragment_eq {r : Request} {done : List Fragment} {f : Fragment} {rest : List Fragment}
    (hfrags : r.frags = done ++ f :: rest) (hdone : ∀ x ∈ done, x.placed = true ∨ x.result.isSome = true)
    (hf : Unplaced f) : nextFragment r = some done.length := by
  unfold nextFragment
  rw [hfrags, List.findIdx?_append]
  have hnone : done.findIdx? (fun f => !f.placed && f.result.isNone) = none := by
    refine List.findIdx?_eq_none_iff.2 fun x hx => ?_
    rcases hdone x hx with h | h
    · simp [h]
    · cases hres : x.result <;> simp [hres] at h ⊢
  simp [hnone, List.findIdx?_cons, hf.1, hf.2]

theorem nextFragment_eq_none {r : Request} (h : ∀ x ∈ r.frags, x.placed = true ∨ x.result.isSome = true) :
    nextFragment r = none := by
  refine List.findIdx?_eq_none_iff.2 fun x hx => ?_
  rcases h x hx with h | h
  · simp [h]
  · cases hres : x.result <;> simp [hres] at h ⊢

/-- With nothing left to place the request is AT_BAYS. -/
theorem placeAll_done {p : Part} {r : Request} {fuel : Nat} (hr : p.request? r.id = some r)
    (h : ∀ x ∈ r.frags, x.placed = true ∨ x.result.isSome = true) : placeAll (fuel + 1) r.id p = p.placed r.id := by
  simp [placeAll, hr, nextFragment_eq_none h]

section

variable {p : Part} {r : Request} {done rest : List Fragment} {f : Fragment}

/-- One step of placing: the first fragment neither placed nor resolved. -/
theorem placeAll_step {fuel : Nat} (hr : p.request? r.id = some r) (hfrags : r.frags = done ++ f :: rest)
    (hdone : ∀ x ∈ done, x.placed = true ∨ x.result.isSome = true) (hf : Unplaced f) :
    placeAll (fuel + 1) r.id p = match p.placingVerdict r f with
      | some st => placeAll fuel r.id (p.fragResult r.id done.length st none)
      | none =>
        if p.hasRoom f.bay (.request r.id) then
          placeAll fuel r.id ((p.modFrag r.id done.length fun f => { f with placed := true }).appendOp f.bay
            (fragOp r done.length f))
        else (p.joinRoom f.bay (.request r.id)).modRequest r.id fun r => { r with pausedAt := some done.length } := by
  have hk : r.frags[done.length]? = some f := by simp [hfrags]
  rw [placeAll, hr]
  dsimp only
  rw [nextFragment_eq hfrags hdone hf]
  dsimp only
  rw [hk] <;> dsimp only <;> cases p.placingVerdict r f <;> rfl

end

theorem hasRoom_iff {p : Part} {b : Fin 4} {w : Waiter} : p.hasRoom b w = true ↔
    (p.bay b).queue.length < 32 ∧ ((p.bay b).roomWait = [] ∨ ∃ l, (p.bay b).roomWait = w :: l) := by
  have hplace : mayPlace (p.bay b).roomWait w = true ↔ (p.bay b).roomWait = [] ∨ ∃ l, (p.bay b).roomWait = w :: l := by
    unfold mayPlace
    cases (p.bay b).roomWait <;> simp
  rw [hasRoom, Bool.and_eq_true, hplace, decide_eq_true_eq]
  rfl

theorem placingVerdict_eq_none {p : Part} {r : Request} {f : Fragment}
    (hm : ((p.window r.window).member f.member).isForeign = false) (ha : (p.bay f.bay).power ≠ .absent)
    (hf : (p.bay f.bay).power ≠ .fault) : p.placingVerdict r f = none := by simp [placingVerdict, hm, ha, hf]

theorem placed_eq (p : Part) (id : Nat) : p.placed id = ({ p with bays := p.bays.map fun x => { x with
    roomWait := x.roomWait.filter fun y => y != .request id } } : Part).modRequest id fun x => { x with
      life := .atBays, pausedAt := none } := by
  rw [placed, leaveRooms_eq]

/-- A waiter that joins a bay's room-wait list leaves every other. -/
theorem joinRoom_of_new {p : Part} {b : Fin 4} {w : Waiter} (h : w ∉ (p.bay b).roomWait) : p.joinRoom b w = { p with
    bays := Vector.ofFn fun i =>
      let left := (p.bay i).roomWait.filter fun y => y != w
      { p.bay i with roomWait := if i = b then left ++ [w] else left } } := by
  rw [joinRoom, if_neg h, leaveRooms_eq]
  unfold modBay
  congr 1
  refine Vector.ext fun i hi => ?_
  rw [Vector.getElem_set, Vector.getElem_ofFn]
  by_cases hb : b.val = i
  · subst hb
    simp [bay]
  · have hne : (⟨i, hi⟩ : Fin 4) ≠ b := fun e => hb (by rw [← e])
    simp [bay, hb, hne]

theorem fragOp_eq (r : Request) (k : Nat) (f : Fragment) : fragOp r k f = {
    kind := r.kind, block := f.block, count := f.count, origin := if r.port = .pp then .pp else .dp
    parent := .request r.id k, slots := (r.slots.drop (f.first - r.offset)).take f.count } := by
  cases hp : r.port <;> simp [fragOp, portOrigin, hp]

/-- The last fragment of a request, the one it was paused at, is placed, and the request is AT_BAYS (R38). -/
theorem placeRequest_last {p : Part} {r : Request} {done : List Fragment} {f : Fragment} (hr : p.request? r.id = some r)
    (hfrags : r.frags = done ++ [f]) (hdone : ∀ x ∈ done, x.placed = true ∨ x.result.isSome = true) (hf : Unplaced f)
    (hverdict : p.placingVerdict r f = none) (hroom : p.hasRoom f.bay (.request r.id) = true) :
    p.placeRequest r = ((((p.modRequest r.id fun x => { x with pausedAt := none }).modFrag r.id done.length fun x =>
      { x with placed := true }).appendOp f.bay (fragOp r done.length f)).placed r.id) := by
  have h1 : (p.modRequest r.id fun x => { x with pausedAt := none }).request? r.id = some { r with pausedAt := none } := by
    refine (request?_modRequest (f := fun x => { x with pausedAt := none }) (fun _ => rfl) r.id).trans ?_
    simp [hr]
  have hv1 : (p.modRequest r.id fun x => { x with pausedAt := none }).placingVerdict { r with pausedAt := none } f = none := by
    simpa [placingVerdict] using hverdict
  have hroom1 : (p.modRequest r.id fun x => { x with pausedAt := none }).hasRoom f.bay (.request r.id) = true := by
    simpa [hasRoom] using hroom
  have hlast : (((p.modRequest r.id fun x => { x with pausedAt := none }).modFrag r.id done.length fun x =>
      { x with placed := true }).appendOp f.bay (fragOp r done.length f)).request? r.id
      = some { r with pausedAt := none, frags := done ++ [{ f with placed := true }] } := by
    have h2 := request?_modFrag (f := fun x => { x with placed := true }) (k := done.length) (x := f) h1 (by simp [hfrags])
    simpa [request?, appendOp, hfrags] using h2
  unfold placeRequest
  rw [show 2 * r.frags.length + 2 = 2 * r.frags.length + 1 + 1 from rfl]
  refine (placeAll_step (r := { r with pausedAt := none }) h1 hfrags hdone hf).trans ?_
  rw [hv1]
  dsimp only
  rw [if_pos hroom1]
  refine placeAll_done (r := { r with pausedAt := none, frags := done ++ [{ f with placed := true }] }) hlast fun x hx => ?_
  rcases List.mem_append.1 hx with hx | hx
  · exact hdone x hx
  · rw [List.mem_singleton.1 hx]
    exact .inl rfl

theorem route_of_plain {p : Part} {r : Request} (h : (p.window r.window).layout ≠ .mirror) :
    p.route r = p.modRequest r.id fun x => { x with
      routed := true, gather := .worst
      frags := if r.kind = .flush
        then (List.range (p.window r.window).members.length).map fun m => { member := m, bay := ((p.window r.window).member m).bay }
        else translate (p.window r.window) r.offset r.count } := by
  have hflush : flushFragment (p.window r.window) = fun m => { member := m, bay := ((p.window r.window).member m).bay } := rfl
  unfold route
  cases hl : (p.window r.window).layout with
  | mirror => exact absurd hl h
  | single | stripe | whole => cases hk : r.kind <;> simp [hl, recordRoute, hflush]

end Part

/-- Settles O14: `takeSlots` for the grant, `placeAll_step` for each fragment placed, its end for the last. -/
theorem slotGrantAndRoomResume : Obligations.SlotGrantAndRoomResume := by
  refine ⟨fun s e rest hh hw => ⟨fun id r he hr hfit => ?request, fun c he hc hfit => ?engine, fun hfull => ?full⟩,
    fun s b r rest done f hh hwait hroom hr hfrags hdone hplaced hres hbay hforeign habsent hfault => ?resume,
    fun p r hlay => ?route, fun p r done f rest fuel hr hfrags hdone hplaced hres => ?step,
    fun p r fuel hr hall => (Part.placeAll_done hr hall).trans (Part.placed_eq p r.id),
    fun p r hrouted hpaused hwork => ?advance⟩
  case request =>
    obtain ⟨hlen, hnodup, hfree⟩ := givenSlots_spec hfit
    refine ⟨givenSlots s.part e, hlen, hnodup, hfree, ?_⟩
    have h := gives_slotGrant hh hw hfit
    rw [grantHead_request (p := s.part.begin) hw he hr] at h
    have hpool : poolGiven s.part.begin e
        = s.part.router.pool.mapIdx fun k h => if k ∈ givenSlots s.part e then .request id else h := by
      rw [poolGiven, he]
      rfl
    rw [hpool] at h
    exact h
  case engine =>
    obtain ⟨hlen, hnodup, hfree⟩ := givenSlots_spec hfit
    refine ⟨givenSlots s.part e, hlen, hnodup, hfree, ?_⟩
    have h := gives_slotGrant hh hw hfit
    rw [grantHead_engine (p := s.part.begin) hw he hc] at h
    have hpool : poolGiven s.part.begin e
        = s.part.router.pool.mapIdx fun k h => if k ∈ givenSlots s.part e then .engine else h := by
      rw [poolGiven, he]
      rfl
    rw [hpool] at h
    exact h
  case full =>
    refine gives_of_not_condition (exec_slotGrant s) hh ?_
    exact (mayGrant_eq (p := s.part.begin) hw).trans (decide_eq_false (by simpa [Part.freeSlots] using hfull))
  case resume =>
    intro p op q q1
    have hroom' : p.hasRoom f.bay (.request r.id) = true :=
      Part.hasRoom_iff.2 (hbay ▸ ⟨hroom, .inr ⟨rest, hwait⟩⟩)
    have hlast := Part.placeRequest_last (p := p) hr hfrags hdone ⟨hplaced, hres⟩
      (Part.placingVerdict_eq_none hforeign (hbay ▸ habsent) (hbay ▸ hfault)) hroom'
    have hresume : s.part.begin.resumeRoom b = p.placeRequest r := by
      have hwait' : (s.part.begin.bay b).roomWait = .request r.id :: rest := hwait
      have hr' : s.part.begin.request? r.id = some r := hr
      simp only [Part.resumeRoom, hwait', hr']
      rfl
    refine gives_of_bayEvent (f := Part.resumeRoom b) rfl hh ?_ ?_
    · simp [Part.mayResume, hwait, hroom, Config.queueLimit]
    · rw [hresume, hlast, Part.placed, Part.appendOp, Part.fragOp_eq, hbay]
  case route => exact Part.route_of_plain hlay
  case step =>
    intro k x foreign goes op room
    have hstep := Part.placeAll_step (fuel := fuel) hr hfrags hdone ⟨hplaced, hres⟩
    refine ⟨fun hf => ?_, fun hf ha => ?_, fun hf ha => ?_, fun hf ha hft => ⟨fun hroom => ?_, fun hroom => ⟨fun hin => ?_, fun hin => ?_⟩⟩⟩
    · have hv : p.placingVerdict r f = some .memberForeign := if_pos hf
      rwa [hv] at hstep
    · have hv : p.placingVerdict r f = some .bayAbsent := (if_neg (by simpa using hf)).trans (if_pos ha)
      rwa [hv] at hstep
    · have hv : p.placingVerdict r f = some .bayFault :=
        (if_neg (by simpa using hf)).trans ((if_neg (by simp [show (p.bay f.bay).power = .fault from ha])).trans (if_pos ha))
      rwa [hv] at hstep
    all_goals rw [Part.placingVerdict_eq_none hf ha hft] at hstep
    · have hroom' : p.hasRoom f.bay (.request r.id) = true := Part.hasRoom_iff.2 hroom
      simp only [hroom', if_true, Part.appendOp, Part.fragOp_eq] at hstep
      exact hstep
    all_goals
      have hroom' : ¬p.hasRoom f.bay (.request r.id) = true := mt Part.hasRoom_iff.1 hroom
      simp only [if_neg hroom'] at hstep
    · rwa [Part.joinRoom, if_pos hin] at hstep
    · rwa [Part.joinRoom_of_new hin] at hstep
  case advance =>
    have hnext : r.life = .routing ∨ (Part.nextFragment r).isSome = true := by
      refine hwork.imp_right fun ⟨f, hf, hplaced, hres⟩ => ?_
      exact List.findIdx?_isSome.trans (List.any_eq_true.2 ⟨f, hf, by simp [hplaced, hres]⟩)
    simp [Part.advance, hrouted, hpaused, hnext, Part.placeRequest]

end Sys2Proof.Machine
end

section
/-! PROOFS. The data movement of the processor port (O16, R178). -/

namespace Sys2Proof.Machine

open Sys2Proof

/-- A WRITE whose buffer list came with an error has read that list alone. -/
theorem takeBlocks_none (r : Request) (p : Part) : p.begin.takeBlocks r [] 0 [] = { p with out := [Part.listRead r] } := rfl

/-- Settles O16: each transfer's end finds its request by its tag, and reads or writes what the request's list gives. -/
theorem ppDataMoved : Obligations.PpDataMoved := by
  intro s tag list hh addrs listRead blocksRead blocksWritten filled
  refine ⟨fun r data hr => ⟨?taken, ?listError, fun i => ⟨fun hi => ?blockError, fun hi => ?noBlock⟩⟩,
    fun r hr => ⟨?delivered, fun hw => ⟨?readListError, fun i data => ?noWrite⟩⟩⟩
  case taken =>
    have hr' : s.part.begin.ppRequest tag .write .dataIn = some r := hr
    refine gives_of_event (f := Part.writeTaken tag list data) rfl hh ?_
    rw [Part.writeTaken, hr']
    rfl
  case listError =>
    have hr' : s.part.begin.ppRequest tag .write .dataIn = some r := hr
    refine gives_of_event (f := Part.listError tag list) rfl hh ?_
    rw [Part.listError, hr']
    exact congrArg (Part.complete r .transferError) (takeBlocks_none r s.part)
  case blockError =>
    have hr' : s.part.begin.ppRequest tag .write .dataIn = some r := hr
    refine gives_of_event (f := Part.blockError tag list i data) rfl hh ?_
    rw [Part.blockError, hr']
    exact if_pos hi
  case noBlock =>
    have hr' : s.part.begin.ppRequest tag .write .dataIn = some r := hr
    refine gives_of_event (f := Part.blockError tag list i data) rfl hh ?_
    rw [Part.blockError, hr']
    exact if_neg (by omega)
  case delivered =>
    have hr' : s.part.begin.ppRequest tag .read .dataOut = some r := hr
    refine gives_of_event (f := Part.readDelivered tag list) rfl hh ?_
    rw [Part.readDelivered, hr']
    rfl
  case readListError =>
    have hr' : s.part.begin.ppRequest tag .read .dataOut = some r := hr
    have hw' : s.part.begin.ppRequest tag .write .dataIn = none := hw
    refine gives_of_event (f := Part.listError tag list) rfl hh ?_
    rw [Part.listError, hw', hr']
    rfl
  case noWrite =>
    have hw' : s.part.begin.ppRequest tag .write .dataIn = none := hw
    refine gives_of_event (f := Part.blockError tag list i data) rfl hh ?_
    rw [Part.blockError, hw']
    rfl

end Sys2Proof.Machine
end

section
/-! PROOFS. The commands of the window table (chapter 1): WINDOW_DEFINE (O21), WINDOW_DELETE (O22), REPLACE_MEMBER (O23). -/

namespace Sys2Proof.Machine

open Sys2Proof

/-! ## The window or the bay a number names -/

theorem Part.onWindow_val (p : Part) (who : Answerer) (w : Fin 16) (f : Fin 16 → Part → Part) :
    p.onWindow who w.val f = f w p := by simp [Part.onWindow]

theorem Part.onWindow_of_le {p : Part} {who : Answerer} {n : Nat} {f : Fin 16 → Part → Part} (h : 16 ≤ n) :
    p.onWindow who n f = p.reply who .badRequest := by
  simp [Part.onWindow, windowOf_of_not_lt (show ¬n < 16 by omega)]

theorem Part.onBay_val (p : Part) (who : Answerer) (b : Fin 4) (f : Fin 4 → Part → Part) :
    p.onBay who b.val f = f b p := by simp [Part.onBay]

theorem Part.onBay_of_le {p : Part} {who : Answerer} {n : Nat} {f : Fin 4 → Part → Part} (h : 4 ≤ n) :
    p.onBay who n f = p.reply who .badRequest := by
  simp [Part.onBay, bayOf_of_not_lt (show ¬n < 4 by omega)]

/-! ## WINDOW_DEFINE -/

/-- The capacity of the bay a member lies on, 0 without an identity. -/
def bayCapacity (p : Part) (m : Member) : Nat := ((p.bay m.bay).identity.map Identity.capacity).getD 0

theorem memberFits_iff (p : Part) (v : Window) (m : Member) : p.memberFits v m = true ↔
    (p.bay m.bay).identity.isSome = true ∧ (v.layout = .whole → m.base = 0 ∧ v.length = bayCapacity p m)
      ∧ (v.layout ≠ .whole → m.base + v.extentLen ≤ bayCapacity p m) := by
  unfold Part.memberFits bayCapacity
  cases (p.bay m.bay).identity with
  | none => simp
  | some i => cases hl : v.layout <;> simp [fits, hl]

/-- R7's checks as the statement writes them. -/
def defineChecksOf (p : Part) (w : Fin 16) (d : WindowDef) : List (Bool × Status) :=
  let v := windowOfDef d
  let others := (allWindows.filter (· ≠ w)).map p.window
  [(decide ((p.window w).st = .free), .busy),
   (wellFormedDef d, .badRequest),
   (decide (∀ m ∈ v.members, (p.bay m.bay).identity.isSome = true), .bayUnknown),
   (decide (∀ m ∈ v.members, (p.bay m.bay).identity.isSome = true
     ∧ (v.layout = .whole → m.base = 0 ∧ v.length = bayCapacity p m)
     ∧ (v.layout ≠ .whole → m.base + v.extentLen ≤ bayCapacity p m)), .range),
   (noOverlap v others, .overlap),
   (wholeAlone v others, .overlap),
   (stripeLength v, .badRequest)]

theorem defineChecks_eq (p : Part) (w : Fin 16) (d : WindowDef) : p.defineChecks w d = defineChecksOf p w d := by
  have hfree : ((p.window w).st == .free) = decide ((p.window w).st = .free) := by
    rw [Bool.eq_iff_iff]
    simp
  have hknown (l : List Member) : l.all (fun m => (p.bay m.bay).identity.isSome)
      = decide (∀ m ∈ l, (p.bay m.bay).identity.isSome = true) := by
    rw [Bool.eq_iff_iff]
    simp
  have hfits (v : Window) (l : List Member) : l.all (p.memberFits v)
      = decide (∀ m ∈ l, (p.bay m.bay).identity.isSome = true ∧ (v.layout = .whole → m.base = 0 ∧ v.length = bayCapacity p m)
        ∧ (v.layout ≠ .whole → m.base + v.extentLen ≤ bayCapacity p m)) := by
    rw [Bool.eq_iff_iff, List.all_eq_true, decide_eq_true_iff]
    exact forall₂_congr fun m _ => memberFits_iff p v m
  simp only [Part.defineChecks, defineChecksOf, hfree, hknown, hfits]
  rfl

theorem portTook_defineChecks (p : Part) (k : Option Kind) (via : Via) (w : Fin 16) (d : WindowDef) :
    (portTook p k via).defineChecks w d = p.defineChecks w d := by
  have hwindow : (portTook p k via).window = p.window := funext fun w => portTook_window p k via w
  have hfits : (portTook p k via).memberFits = p.memberFits := by
    funext v m
    simp only [Part.memberFits, portTook_bay]
  simp only [Part.defineChecks, Part.otherWindows, hwindow, hfits, portTook_bay]

theorem portTook_recordWindow (p : Part) (k : Option Kind) (via : Via) (w : Fin 16) (d : WindowDef) :
    (portTook p k via).recordWindow w d = { portTook p k via with windows := (portTook p k via).windows.set w { windowOfDef d with
      members := (windowOfDef d).members.map fun m =>
        { m with serial := (p.bay m.bay).identity.map Identity.serial, isForeign := false } } } := by
  have hbind : (portTook p k via).bindMember = p.bindMember := by
    funext m
    simp only [Part.bindMember, portTook_bay]
  unfold Part.recordWindow
  rw [hbind]
  rfl

/-- Settles O21: the command is the checks in order and then the recording. -/
theorem windowDefined : Obligations.WindowDefined := by
  intro via d s ht
  dsimp only
  refine ⟨fun hn => givesQuietly_command ht rfl rfl rfl (Part.onWindow_of_le hn), fun w hw => ⟨fun st hst => ?_, fun hst => ?_⟩⟩
  all_goals
    have hchecks : firstRefusal ((portTook s.part (some .windowDefine) via).defineChecks w d) = _ :=
      ((congrArg firstRefusal ((portTook_defineChecks ..).trans (defineChecks_eq ..))).trans hst)
    refine givesQuietly_command ht rfl rfl rfl ?_
    change (portTook s.part (some .windowDefine) via).onWindow _ d.index _ = _
    rw [hw, Part.onWindow_val]
  · exact Part.checked_of_refused hchecks
  · rw [Part.checked_of_passed hchecks, portTook_recordWindow]

/-! ## WINDOW_DELETE and the end of a closing window -/

theorem deleteRefusal (p : Part) (w : Fin 16) :
    firstRefusal (p.deleteChecks w) =
      if (p.window w).st = .free then some .noWindow
      else if (p.window w).st = .closing then some .busy
      else if (∃ e ∈ p.engine.log, e.window = w) ∨ (p.window w).cursor.isSome then some .resyncPending else none := by
  have hlog : (p.engine.log.any fun e => e.window == w) = decide (∃ e ∈ p.engine.log, e.window = w) := by
    rw [Bool.eq_iff_iff]
    simp
  simp only [Part.deleteChecks, firstRefusal, Window.inUse, hlog]
  cases (p.window w).st <;> cases (p.window w).cursor <;> by_cases h : ∃ e ∈ p.engine.log, e.window = w <;> simp [h]

theorem windowDelete_val (p : Part) (w : Fin 16) (who : Answerer) : p.windowDelete w.val who =
    if (p.window w).st = .free then p.reply who .noWindow
    else if (p.window w).st = .closing then p.reply who .busy
    else if (∃ e ∈ p.engine.log, e.window = w) ∨ (p.window w).cursor.isSome then p.reply who .resyncPending
    else { p with windows := p.windows.set w { p.window w with st := .closing, deleteFor := some who } } := by
  unfold Part.windowDelete
  rw [Part.onWindow_val]
  unfold Part.checked
  rw [deleteRefusal]
  split_ifs <;> rfl

/-- Nothing is told of a high mark whose state does not rise. -/
theorem followMark_of_no_rise {p : Part} (h : 48 ≤ p.engine.log.length → p.engine.above = true) :
    p.followMark = { p with engine := { p.engine with above := decide (48 ≤ p.engine.log.length) } } := by
  have hrise : ¬(decide (Config.highMark ≤ p.engine.log.length) = true ∧ (!p.engine.above) = true) := by
    rintro ⟨hlen, habove⟩
    simp [h (of_decide_eq_true hlen)] at habove
  exact if_neg hrise

theorem closes_of {p : Part} {w : Fin 16} (hst : (p.window w).st = .closing) (hflight : (p.window w).inFlight = 0)
    (hchunk : ∀ c, p.engine.chunk = some c → c.window ≠ w) : p.closes w = true := by
  unfold Part.closes
  cases hc : p.engine.chunk with
  | none => simp [hst, hflight]
  | some c => simp [hst, hflight, hchunk c hc]

/-- Settles O22: the three refusals of the command, and the end of a closing window whose log entries go without a rise of the
high mark. -/
theorem windowDeletedAndFreed : Obligations.WindowDeletedAndFreed := by
  refine ⟨fun via i s ht => ⟨fun hi => gives_command ht rfl rfl rfl (Part.onWindow_of_le hi), ?_⟩, ?_⟩
  · rintro w rfl
    have hdelete {q : Part} (hq : (portTook s.part (some .windowDelete) via).windowDelete w.val (answererOf via) = q) :
        Gives (.windowDelete via w.val) s q := gives_command ht rfl rfl rfl hq
    rw [windowDelete_val, portTook_window] at hdelete
    refine ⟨fun h => hdelete (if_pos h), fun h => hdelete (by simp [h]), fun h hlog => hdelete ?_, fun h hlog hcur => hdelete ?_⟩
    · rw [if_neg (by simp [h]), if_neg (by simp [h]), if_pos (by rwa [portTook_engine])]
    · have hclear : ¬((∃ e ∈ s.part.engine.log, e.window = w) ∨ (s.part.window w).cursor.isSome) := by
        rintro (⟨e, he, hw⟩ | hsome)
        · exact hlog e he hw
        · simp [hcur] at hsome
      rw [if_neg (by simp [h]), if_neg (by simp [h]), if_neg (by rwa [portTook_engine])]
  · intro w s hh
    dsimp only
    intro hst hflight hchunk hrise
    refine gives_of_condition rfl hh (closes_of hst hflight hchunk) ?_
    unfold Part.freeWindow
    dsimp only
    rw [followMark_of_no_rise (by exact hrise)]
    rfl

/-! ## REPLACE_MEMBER -/

/-- Where window `u` leaves room for `n` blocks at `base` of bay `b`, as a member of window `w` (R10, R19). -/
def LeavesRoom (p : Part) (w : Fin 16) (b : Fin 4) (base n : Nat) (u : Fin 16) : Prop :=
  u ≠ w → (p.window u).st ≠ .free → ∀ m ∈ (p.window u).members, m.bay = b →
    (p.window u).layout ≠ .whole ∧ ¬(base < m.base + (p.window u).extentLen ∧ m.base < base + n)

theorem leavesRoom_iff (p : Part) (w : Fin 16) (b : Fin 4) (base n : Nat) :
    (p.otherWindows w).all (fun x => !x.inUse || x.members.all fun m =>
      m.bay != b || (!sharesBlock base n m.base x.extentLen && x.layout != .whole)) = true
    ↔ ∀ u, LeavesRoom p w b base n u := by
  simp only [Part.otherWindows, List.all_map, List.all_eq_true, List.mem_filter, mem_allWindows, true_and, Function.comp,
    decide_eq_true_iff]
  refine forall_congr' fun u => ?_
  unfold LeavesRoom
  refine imp_congr_right fun _ => ?_
  simp only [Bool.or_eq_true, Bool.not_eq_true', Window.inUse, bne_eq_false_iff_eq, List.all_eq_true, or_iff_not_imp_left]
  refine imp_congr_right fun _ => forall₂_congr fun m _ => ?_
  have hshare : sharesBlock base n m.base (p.window u).extentLen
      = decide (base < m.base + (p.window u).extentLen ∧ m.base < base + n) := (Bool.decide_and ..).symm
  by_cases hb : m.bay = b
  · simp only [hb, hshare, bne_self_eq_false, Bool.and_eq_true, Bool.not_eq_true', decide_eq_false_iff_not,
      bne_iff_ne, forall_const]
    simp [-not_and, and_comm]
  · simp [hb]

section
variable {p : Part} {w : Fin 16} {x : Side} {b : Fin 4} {base : Nat}

/-- A member of a window that is no MIRROR window, a side that is none, a bay or base that is none (R19). -/
theorem replaceMember_of_bad {i bay base : Nat} {which : Option Side} {who : Answerer}
    (h : 16 ≤ i ∨ which = none ∨ 4 ≤ bay ∨ 2 ^ 40 ≤ base) :
    p.replaceMember i which bay base who = p.reply who .badRequest := by
  unfold Part.replaceMember
  rcases h with h | h | h | h
  · rw [windowOf_of_not_lt (by omega)]
  · rw [h]
    cases windowOf i <;> rfl
  · rw [bayOf_of_not_lt (by omega)]
    cases windowOf i <;> cases which <;> rfl
  · have hbase : ¬base < Config.blockSpace := by unfold Config.blockSpace; omega
    simp only [if_neg hbase]
    split <;> rfl

theorem replaceMember_val {who : Answerer} (hbase : base < 2 ^ 40) : p.replaceMember w.val (some x) b.val base who =
    p.checked who (p.replaceChecks w x b base) fun p =>
      ((p.modWindow w fun v => { v with members := v.members.set (sideIndex x) (p.bindMember (Part.newMember b base)) }).startRebuild
        w).reply who .ok := by
  unfold Part.replaceMember
  rw [windowOf_val, bayOf_val]
  exact if_pos hbase

theorem portTook_replaceChecks (p : Part) (k : Option Kind) (via : Via) :
    (portTook p k via).replaceChecks w x b base = p.replaceChecks w x b base := by
  have hwindow : (portTook p k via).window = p.window := funext fun w => portTook_window p k via w
  simp only [Part.replaceChecks, Part.readOnly, Part.otherWindows, Part.memberFits, hwindow, portTook_bay, portTook_loader]

/-- R110, where every condition of a rebuild's start holds. -/
theorem startRebuild_eq {p : Part} {w : Fin 16} (hst : (p.window w).st = .opened) (hlost : (p.window w).lost.isSome)
    (hcur : (p.window w).cursor = none) (hmode : p.readOnly = false) :
    p.startRebuild w = (p.modWindow w fun v => { v with cursor := some 0, rebuildChunk := 0 }).seekNext :=
  if_pos ⟨hst, hlost, by simp [hcur], by simp [hmode]⟩

/-- The checks of R19 on a MIRROR window in use whose copy `x` is LOST and not being rebuilt, outside READ_ONLY mode. -/
theorem replaceRefusal_of_lost (hmode : p.loader.mode ≠ .readOnly) (hst : (p.window w).st = .opened)
    (hlay : (p.window w).layout = .mirror) (hlost : (p.window w).lost = some x) (hcur : (p.window w).cursor = none) :
    firstRefusal (p.replaceChecks w x b base) =
      if ((p.window w).copy (otherSide x)).bay = b then some .badRequest
      else match (p.bay b).identity with
        | none => some .bayUnknown
        | some i =>
          if i.capacity < base + (p.window w).length then some .range
          else if (p.otherWindows w).all (fun v => !v.inUse || v.members.all fun m =>
            m.bay != b || (!sharesBlock base (p.window w).extentLen m.base v.extentLen && v.layout != .whole)) then none
          else some .overlap := by
  have hext : (p.window w).extentLen = (p.window w).length := by simp [Window.extentLen, hlay]
  simp only [Part.replaceChecks, Part.memberFits, Part.newMember, fits, hlay, hext]
  cases (p.bay b).identity with
  | none => by_cases hb : ((p.window w).copy (otherSide x)).bay = b <;>
      simp [firstRefusal, Part.readOnly, Window.inUse, hmode, hst, hlost, hcur, hb]
  | some i =>
    by_cases hb : ((p.window w).copy (otherSide x)).bay = b
    · simp [firstRefusal, Part.readOnly, Window.inUse, hmode, hst, hlost, hcur, hb]
    · by_cases hk : i.capacity < base + (p.window w).length <;>
        simp [firstRefusal, Part.readOnly, Window.inUse, hmode, hst, hlost, hcur, hb, hk, Nat.not_le.2, Nat.le_of_not_lt]

end

/-- Settles O23: the number checks, the checks of R19 in their order, and the member bound with its rebuild begun. -/
theorem memberReplaced : Obligations.MemberReplaced := by
  intro via i which bay base s ht
  dsimp only
  have hdo {q : Part} (hq : (portTook s.part (some .replaceMember) via).replaceMember i which bay base (answererOf via) = q) :
      Gives (.replaceMember via i which bay base) s q := gives_command ht rfl rfl rfl hq
  refine ⟨fun hbad => hdo (replaceMember_of_bad hbad), ?_⟩
  rintro w x b rfl rfl rfl hbase
  rw [replaceMember_val hbase] at hdo
  have hrefuse {st : Status} (h : firstRefusal (s.part.replaceChecks w x b base) = some st) :
      Gives (.replaceMember via w.val (some x) b.val base) s
        ((portTook s.part (some .replaceMember) via).reply (answererOf via) st) :=
    hdo (Part.checked_of_refused ((congrArg firstRefusal (portTook_replaceChecks ..)).trans h))
  refine ⟨fun hmode => hrefuse ?_, fun hmode => ⟨fun hst => hrefuse ?_, fun hst => hrefuse ?_, fun hst => ⟨fun hlay => hrefuse ?_,
    fun hlay => ⟨fun hlost => hrefuse ?_, fun hlost hcur => hrefuse ?_, fun hlost hcur => ?_⟩⟩⟩⟩
  · simp [Part.replaceChecks, firstRefusal, Part.readOnly, hmode]
  · simp [Part.replaceChecks, firstRefusal, Part.readOnly, Window.inUse, hmode, hst]
  · simp [Part.replaceChecks, firstRefusal, Part.readOnly, Window.inUse, hmode, hst]
  · simp [Part.replaceChecks, firstRefusal, Part.readOnly, Window.inUse, hmode, hst, hlay]
  · simp [Part.replaceChecks, firstRefusal, Part.readOnly, Window.inUse, hmode, hst, hlay, hlost]
  · have hsome : (s.part.window w).cursor.isNone = false := by simpa using hcur
    simp [Part.replaceChecks, firstRefusal, Part.readOnly, Window.inUse, hmode, hst, hlay, hlost, hsome]
  have hlast := replaceRefusal_of_lost (b := b) (base := base) hmode hst hlay hlost hcur
  refine ⟨fun hb => hrefuse (hlast.trans (if_pos hb)), fun hb => ?_⟩
  rw [if_neg hb] at hlast
  cases hid : (s.part.bay b).identity with
  | none =>
    rw [hid] at hlast
    exact ⟨fun _ => hrefuse hlast, fun k hk => by simp at hk, fun k hk => by simp at hk⟩
  | some i =>
    rw [hid] at hlast
    refine ⟨fun hk => by simp at hk, fun k hk hshort => hrefuse ?_, fun k hk hlong => ⟨fun hroom => hrefuse ?_, fun hroom => hdo ?_⟩⟩
    all_goals obtain rfl : i.capacity = k := by simpa using hk
    · exact hlast.trans (if_pos hshort)
    · refine hlast.trans ((if_neg (by omega)).trans (if_neg ?_))
      rw [leavesRoom_iff]
      exact hroom
    · have hpass : firstRefusal ((portTook s.part (some .replaceMember) via).replaceChecks w x b base) = none := by
        rw [portTook_replaceChecks]
        refine hlast.trans ((if_neg (by omega)).trans (if_pos ?_))
        rw [leavesRoom_iff]
        exact hroom
      rw [Part.checked_of_passed hpass]
      refine congrArg (fun q : Part => q.reply (answererOf via) .ok) ?_
      rw [startRebuild_eq (by simp [hst]) (by simp [hlost]) (by simp [hcur]) (by simpa [Part.readOnly] using hmode)]
      simp [Part.modWindow, Part.window, Part.bindMember, Part.newMember, Part.seekNext, hid]

end Sys2Proof.Machine
end

section
/-! PROOFS. The bays' commands and what a bay begins: the reports (O24), starts (O25, O28), BAY_CLEAR, BAY_SPIN, BAY_STOP (O26),
BAY_QUERY (O27), the next command of a READY bay (O30). -/

namespace Sys2Proof.Machine

open Sys2Proof

/-- Two changes of one bay's record are one. -/
@[simp] theorem Part.modBay_modBay (p : Part) (b : Fin 4) (f g : Bay → Bay) :
    (p.modBay b f).modBay b g = p.modBay b fun x => g (f x) := by
  simp [Part.modBay, Part.bay]

@[simp] theorem Part.modWindow_modWindow (p : Part) (w : Fin 16) (f g : Window → Window) :
    (p.modWindow w f).modWindow w g = p.modWindow w fun v => g (f v) := by
  simp [Part.modWindow, Part.window]

/-- A bay's record written back as it stands changes nothing. -/
theorem Part.set_bay_self (p : Part) (b : Fin 4) : ({ p with bays := p.bays.set b (p.bay b) } : Part) = p := by
  simp [Part.bay]

/-! ## Reports -/

theorem windowInfo_elsewhere {p : Part} {who : Answerer} (h : ∀ tag, who ≠ .dp tag) (i : Option Nat) :
    p.windowInfo i who = match i with
      | none => p.answer who .ok (.windowList p.windowLines)
      | some i => p.onWindow who i fun w p => p.answer who .ok (p.windowAnswer w) := by
  cases who with
  | dp tag => exact absurd rfl (h tag)
  | _ => cases i <;> rfl

theorem answererOf_ne_dp {via : Via} (h : ∀ tag, via ≠ .dp tag) (tag : Tag) : answererOf via ≠ .dp tag := by
  cases via with
  | dp t => exact absurd rfl (h t)
  | _ => simp [answererOf]

section
variable (p : Part) (k : Option Kind) (via : Via)

theorem portTook_shownRight (r : Right) : (portTook p k via).shownRight r = p.shownRight r := by
  simp [Part.shownRight, Part.readOnly]

theorem portTook_windowLines : (portTook p k via).windowLines = p.windowLines := by
  simp [Part.windowLines, Part.usedWindows, portTook_shownRight]

theorem portTook_dpWindowLines : (portTook p k via).dpWindowLines = p.dpWindowLines := by
  simp [Part.dpWindowLines, portTook_shownRight]

theorem portTook_windowAnswer (w : Fin 16) : (portTook p k via).windowAnswer w =
    if (p.window w).st = .free then .windowFree w else .window (p.windowReport w) := by
  simp only [Part.windowAnswer, Part.windowReport, Window.inUse, portTook_window, portTook_shownRight]
  by_cases h : (p.window w).st = .free <;> simp [h]

end

/-- Settles O24: each report is one answer of the port. -/
theorem reportsChangeNothing : Obligations.ReportsChangeNothing := by
  refine fun via s => ⟨fun ht => ⟨?_, fun hvia => ⟨?_, ?_, ?_⟩⟩, fun ht => ⟨?_, ?_⟩, fun ht first => ?_⟩
  · rintro tag rfl i
    refine givesQuietly_command ht rfl rfl rfl ?_
    rw [← portTook_dpWindowLines]
    rfl
  · refine givesQuietly_command ht rfl rfl rfl ((windowInfo_elsewhere (answererOf_ne_dp hvia) none).trans ?_)
    dsimp only
    rw [portTook_windowLines]
  · exact fun i hi => givesQuietly_command ht rfl rfl rfl
      ((windowInfo_elsewhere (answererOf_ne_dp hvia) (some i)).trans (Part.onWindow_of_le hi))
  · refine fun w => givesQuietly_command ht rfl rfl rfl ((windowInfo_elsewhere (answererOf_ne_dp hvia) (some w.val)).trans ?_)
    dsimp only
    rw [Part.onWindow_val, portTook_windowAnswer]
  · exact fun n hn => givesQuietly_command ht rfl rfl rfl (Part.onBay_of_le hn)
  · refine fun b => givesQuietly_command ht rfl rfl rfl ((Part.onBay_val ..).trans ?_)
    rw [portTook_bay]
  · exact givesQuietly_command ht rfl rfl rfl rfl

/-! ## Starts -/

/-- R51 with the service hold clear. -/
theorem requestStart_of_clear {p : Part} {b : Fin 4} (h : (p.bay b).serviceHold = false) :
    p.requestStart b = match (p.bay b).power with
      | .off => { p with
          bays := p.bays.set b { p.bay b with power := .waiting, waitingFrom := some .off }
          power := { p.power with startQueue := p.power.startQueue ++ [.bay b] } }
      | .standby => { p with
          bays := p.bays.set b { p.bay b with power := .waiting, waitingFrom := some .standby }
          power := { p.power with startQueue := p.power.startQueue ++ [.bay b] } }
      | .stopping => { p with bays := p.bays.set b { p.bay b with startAfterStop := true } }
      | .absent | .waiting | .starting | .ready | .fault => p := by
  unfold Part.requestStart
  dsimp only
  rw [if_neg (by simp [h])]
  rfl

/-- Settles O25, by the power state. -/
theorem startRequested : Obligations.StartRequested := by
  intro p b
  dsimp only
  refine ⟨fun hold => if_pos hold, fun hold => ?_⟩
  have hstart := requestStart_of_clear hold
  refine ⟨fun hp => hstart.trans ?_, fun hp => hstart.trans ?_, fun hp => hstart.trans ?_, fun hp => hstart.trans ?_⟩
  · conv_lhs => rw [hp]
  · conv_lhs => rw [hp]
  · conv_lhs => rw [hp]
  · simp only [List.mem_cons, List.not_mem_nil, or_false] at hp
    rcases hp with hp | hp | hp | hp | hp <;> rw [hp]

theorem admits_iff {p : Part} {e : StartEntry} {rest : List StartEntry} (h : p.power.startQueue = e :: rest) :
    p.admits = true ↔ p.committedDraw ≤ p.bEff ∧ p.startDelta e ≤ (p.bEff : Int) - p.committedDraw := by
  simp [Part.admits, h]

theorem admitBay_of_waiting {p : Part} {b : Fin 4} (h : (p.bay b).power = .waiting) :
    p.admitBay b =
      let x := p.bay b
      let spins : Prop := x.waitingFrom = some .standby ∧ x.link = .locked
      { p with
        bays := p.bays.set b { x with
          power := .starting, startedFrom := x.waitingFrom, waitingFrom := none, startLeft := some x.profile.tStart
          inUse := some x.profile, inFlight := if spins then .spinUp else x.inFlight }
        out := if spins then p.out ++ [.drive b .spinUp] else p.out } := by
  unfold Part.admitBay Part.issueSpinUp
  dsimp only
  rw [if_neg (by simp [h]), Part.modBay_modBay]
  split <;> rfl

/-- Settles O28: the admission test, then the head's own admission. -/
theorem startAdmitted : Obligations.StartAdmitted := by
  intro s e rest hh hqueue
  dsimp only
  have hqueue' : s.part.begin.power.startQueue = e :: rest := hqueue
  refine ⟨fun hfits => gives_of_not_condition rfl hh ?_, fun hfits => ⟨fun b hb hwait => ?_, fun he => ?_⟩⟩
  · exact Bool.eq_false_iff.2 fun h => hfits ((admits_iff hqueue').1 h)
  all_goals
    refine gives_of_condition rfl hh ((admits_iff hqueue').2 hfits) ?_
    unfold Part.admitHead
    rw [hqueue']
  · rw [hb]
    exact admitBay_of_waiting (p := { s.part.begin with power := { s.part.power with startQueue := rest } }) hwait
  · rw [he]
    rfl

/-! ## BAY_CLEAR, BAY_SPIN, BAY_STOP -/

theorem bayClear_val (p : Part) (b : Fin 4) (who : Answerer) : p.bayClear b.val who =
    ({ p with bays := p.bays.set b { p.bay b with
        firstError := none, errorCount := 0, power := if (p.bay b).power = .fault then .off else (p.bay b).power
        link := if (p.bay b).power = .fault then .down else (p.bay b).link } } : Part).reply who .ok := by
  unfold Part.bayClear Part.modBay
  rw [Part.onBay_val]
  refine congrArg (fun x : Bay => ({ p with bays := p.bays.set b x } : Part).reply who .ok) ?_
  dsimp only
  split <;> rfl

theorem baySpin_val (p : Part) (b : Fin 4) (who : Answerer) : p.baySpin b.val who =
    if (p.bay b).power = .absent then p.reply who .bayAbsent
    else if (p.bay b).power = .fault then p.reply who .bayFault
    else if (p.bay b).serviceHold = false then (p.requestStart b).reply who .ok
    else if who = .mp then ((p.modBay b fun x => { x with serviceHold := false }).requestStart b).reply who .ok
    else p.reply who .wrongState := by
  unfold Part.baySpin
  rw [Part.onBay_val]
  dsimp only
  cases (p.bay b).serviceHold <;> cases (p.bay b).power <;> rfl

theorem stopBy_of_quiet {leave : Part → Part} {p : Part} {b : Fin 4} (h : (p.bay b).quiet = true) :
    p.stopBy leave b =
      if (p.bay b).link = .locked then (leave (p.modBay b fun x => { x with power := .stopping })).issueStandby b
      else leave (p.modBay b fun x => { x with power := .stopping }) := if_pos h

theorem quiet_power {x : Bay} (h : x.quiet = true) : x.power = .ready := by
  simp only [Bay.quiet, Bool.and_eq_true, beq_iff_eq] at h
  exact h.1.1.1

theorem bayStop_val (p : Part) (b : Fin 4) (who : Answerer) : p.bayStop b.val who =
    match (p.bay b).power with
    | .standby | .off => p.reply who .ok
    | .ready =>
      if (p.bay b).quiet then (p.modBay b fun x => { x with stopFor := x.stopFor ++ [who] }).stopOrder b
      else p.reply who .busy
    | .stopping => { p with
        bays := p.bays.set b { p.bay b with startAfterStop := false, stopFor := (p.bay b).stopFor ++ [who] } }
    | .waiting | .starting => p.reply who .busy
    | .absent => p.reply who .bayAbsent
    | .fault => p.reply who .bayFault := Part.onBay_val ..

/-- R69 in READY, where the bay is quiet. -/
theorem bayStop_of_quiet {p : Part} {b : Fin 4} (who : Answerer) (h : (p.bay b).quiet = true) : p.bayStop b.val who =
    let q : Part := { p with bays := p.bays.set b { p.bay b with power := .stopping, stopFor := (p.bay b).stopFor ++ [who] } }
    if (p.bay b).link = .locked then (q.bayLeavesReady b).issueStandby b else q.bayLeavesReady b := by
  have hq : ((p.modBay b fun x => { x with stopFor := x.stopFor ++ [who] }).bay b).quiet = true := by simpa [Bay.quiet] using h
  rw [bayStop_val, quiet_power h]
  dsimp only
  rw [if_pos h, Part.stopOrder, stopBy_of_quiet hq, Part.modBay_modBay, Part.bay_modBay]
  rfl

theorem bayCommand_of_le {p : Part} {who : Answerer} {n : Nat} (h : 4 ≤ n) :
    p.bayClear n who = p.reply who .badRequest ∧ p.baySpin n who = p.reply who .badRequest
      ∧ p.bayStop n who = p.reply who .badRequest ∧ ∀ noWake, p.bayQuery n noWake who = p.reply who .badRequest :=
  ⟨Part.onBay_of_le h, Part.onBay_of_le h, Part.onBay_of_le h, fun _ => Part.onBay_of_le h⟩

/-- Settles O26, by the state of the bay. -/
theorem bayClearSpinStop : Obligations.BayClearSpinStop := by
  refine fun via s => ⟨fun ht => ⟨fun n hn => gives_command ht rfl rfl rfl (bayCommand_of_le hn).1, fun b => ?_⟩,
    fun ht => ⟨fun n hn => gives_command ht rfl rfl rfl (bayCommand_of_le hn).2.1, fun b => ?_⟩,
    fun ht => ⟨fun n hn => gives_command ht rfl rfl rfl (bayCommand_of_le hn).2.2.1, fun b => ?_⟩⟩
  · refine gives_command ht rfl rfl rfl ((bayClear_val ..).trans ?_)
    rw [portTook_bay]
  · have hspin {q : Part} (hq : (portTook s.part (some .baySpin) via).baySpin b.val (answererOf via) = q) :
        Gives (.baySpin via b.val) s q := gives_command ht rfl rfl rfl hq
    rw [baySpin_val] at hspin
    simp only [portTook_bay] at hspin
    refine ⟨fun h => hspin (if_pos h), fun h => hspin (by simp [h]), fun ha hf => ?_⟩
    rw [if_neg ha, if_neg hf] at hspin
    refine ⟨fun hold => hspin (if_pos hold), fun hold hmp => hspin ?_, fun hold hmp => hspin ?_⟩
    · rw [if_neg (by simp [hold]), if_pos hmp]
      simp only [Part.modBay, portTook_bay]
    · rw [if_neg (by simp [hold]), if_neg hmp]
  · have hstop {q : Part} (hq : (portTook s.part (some .bayStop) via).bayStop b.val (answererOf via) = q) :
        Gives (.bayStop via b.val) s q := gives_command ht rfl rfl rfl hq
    dsimp only
    rw [show s.part.bay b = _ from (portTook_bay s.part (some .bayStop) via b).symm]
    generalize portTook s.part (some .bayStop) via = p at hstop ⊢
    refine ⟨fun h => hstop ?_, fun h => hstop ?_, fun h => hstop ?_, fun h => hstop ?_, fun h => hstop ?_, fun h hq => hstop ?_,
      fun h hl => hstop ?_, fun h hl => hstop ?_⟩
    · rw [bayStop_val, h]
    · rw [bayStop_val, h]
    · rcases h with h | h <;> rw [bayStop_val, h]
    · rcases h with h | h <;> rw [bayStop_val, h]
    · rw [bayStop_val]
      conv_lhs => rw [h]
    · rw [bayStop_val, h]
      exact if_neg (by simp [hq])
    · exact (bayStop_of_quiet _ h).trans (if_neg hl)
    · exact (bayStop_of_quiet _ h).trans (if_pos hl)

/-! ## BAY_QUERY and HEALTH READ -/

theorem bayQuery_val (p : Part) (b : Fin 4) (noWake : Bool) (who : Answerer) : p.bayQuery b.val noWake who =
    match (p.bay b).power with
    | .ready => { p with bays := p.bays.set b { p.bay b with healthPending := true, queryHeld := true } }
    | .off | .waiting | .starting | .stopping | .standby =>
      if noWake = true ∨ (p.bay b).serviceHold = true then p.answer who .ok (.health (p.bay b).health)
      else ({ p with bays := p.bays.set b { p.bay b with healthPending := true, queryHeld := true } } : Part).requestStart b
    | .absent => p.reply who .bayAbsent
    | .fault => p.answer who .bayFault (.health (p.bay b).health) := Part.onBay_val ..

/-- What the drive's answer to HEALTH READ leaves of the bay, before its figures are used (R70, R85). -/
theorem healthAnswered_eq (p : Part) (b : Fin 4) : p.healthAnswered b = p.modBay b fun x => { x with
    inFlight := .nothing, timeoutRun := false, idle := if ActClass.mp ∈ x.profile.mask then 0 else x.idle } := by
  simp only [Part.healthAnswered, Part.clearFlight, Part.clearRun, Part.reportClass, Part.modBay_modBay]
  refine congrArg (fun f : Bay → Bay => p.modBay b f) (funext fun x => ?_)
  split <;> rfl

theorem answerQuery_of_held {p : Part} {b : Fin 4} (h : (p.bay b).queryHeld = true) (st : Status) (ans : Answer) :
    p.answerQuery b st ans = (p.modBay b fun x => { x with queryHeld := false }).answer .mp st ans := if_pos h

theorem clampedHealth (p : Part) (t : Int) (h a : Nat) : p.healthOf t h a = {
    temperature := if t < -40 then -40 else if 125 < t then 125 else t
    hours := if 65535 < h then 65535 else h, realloc := if 65535 < a then 65535 else a, time := p.clock.counter } := by
  have htemp : max (-40) (min 125 t) = if t < -40 then -40 else if 125 < t then 125 else t := by split_ifs <;> omega
  have hcount (n : Nat) : min 65535 n = if 65535 < n then 65535 else n := by split_ifs <;> omega
  simp only [Part.healthOf, htemp, hcount]
  rfl

/-- HEALTH READ is answered where it is in flight at a READY bay whose link is LOCKED. -/
theorem gives_healthReadAnswer {b : Fin 4} {a : HealthAnswer} {s : State} {q : Part} (hh : s.part.held = false)
    (hp : (s.part.bay b).power = .ready) (hl : (s.part.bay b).link = .locked) (hf : (s.part.bay b).inFlight = .healthRead)
    (hq : (match a with
      | .done t h r => ((s.part.begin.healthAnswered b).modBay b fun x => { x with
          health := some ((s.part.begin.healthAnswered b).healthOf t h r) }).answerQuery b .ok
            (.health (some ((s.part.begin.healthAnswered b).healthOf t h r)))
      | .mediaError | .abort => (s.part.begin.healthAnswered b).answerQuery b .timeout .nothing) = q) :
    Gives (.healthReadAnswer b a) s q := by
  refine gives_of_bayEvent (show exec (.healthReadAnswer b a) s = execHealthReadAnswer b a s from rfl) hh (by simp [hp, hl, hf])
    (Eq.trans ?_ hq)
  cases a <;> rfl

/-- Settles O27. -/
theorem bayQueriedForHealth : Obligations.BayQueriedForHealth := by
  refine ⟨fun seq noWake s ht => ⟨fun n hn => gives_command ht rfl rfl rfl ((bayCommand_of_le hn).2.2.2 noWake), fun b => ?_⟩, ?_⟩
  · have hquery {q : Part} (hq : (portTook s.part (some .bayQuery) (.mp seq)).bayQuery b.val noWake .mp = q) :
        Gives (.bayQuery (.mp seq) b.val noWake) s q := gives_command ht rfl rfl rfl hq
    dsimp only
    rw [show s.part.bay b = _ from (portTook_bay s.part (some .bayQuery) (.mp seq) b).symm]
    generalize portTook s.part (some .bayQuery) (.mp seq) = p at hquery ⊢
    refine ⟨fun h => hquery ?_, fun h => ?_, fun h => hquery ?_, fun h => hquery ?_⟩
    · rw [bayQuery_val]
      conv_lhs => rw [h]
    · have hasleep : p.bayQuery b.val noWake .mp = if noWake = true ∨ (p.bay b).serviceHold = true then
          p.answer .mp .ok (.health (p.bay b).health)
          else ({ p with bays := p.bays.set b { p.bay b with healthPending := true, queryHeld := true } } : Part).requestStart b := by
        rw [bayQuery_val]
        simp only [List.mem_cons, List.not_mem_nil, or_false] at h
        rcases h with h | h | h | h | h <;> conv_lhs => rw [h]
      exact ⟨fun hw hold => hquery (hasleep.trans (if_neg (by simp [hw, hold]))), fun hn => hquery (hasleep.trans (if_pos hn))⟩
    · rw [bayQuery_val, h]
    · rw [bayQuery_val, h]
  · intro b s hh hp hl hf hq
    have hheld : ((s.part.begin.healthAnswered b).bay b).queryHeld = true := by
      rw [healthAnswered_eq, Part.bay_modBay]
      exact hq
    refine ⟨fun t h a => gives_healthReadAnswer hh hp hl hf ?_, fun a ha => gives_healthReadAnswer hh hp hl hf ?_⟩
    · dsimp only
      rw [clampedHealth, answerQuery_of_held (by simpa using hheld), healthAnswered_eq, Part.modBay_modBay, Part.modBay_modBay]
      rfl
    · rcases ha with rfl | rfl
      all_goals
        dsimp only
        rw [answerQuery_of_held hheld, healthAnswered_eq, Part.modBay_modBay]
        rfl

/-! ## The next command of a READY bay -/

theorem issueNext_of_queue {p : Part} {b : Fin 4} {o : BayOp} {rest : List BayOp} (hpend : (p.bay b).healthPending = false)
    (hq : (p.bay b).queue = o :: rest) : p.issueNext b =
      if p.loader.mode = .readOnly ∧ o.kind = .write then
        ({ p with bays := p.bays.set b { p.bay b with queue := rest } } : Part).reportResult .bayFault none o
      else { p with
        bays := p.bays.set b { p.bay b with queue := rest, inFlight := .op o }
        out := p.out ++ [.drive b (p.driveCmdOf o)] } := by
  have hmode : (p.readOnly = true ∧ o.kind = .write) ↔ (p.loader.mode = .readOnly ∧ o.kind = .write) := by simp [Part.readOnly]
  unfold Part.issueNext
  dsimp only
  rw [if_neg (by simp [hpend]), hq]
  dsimp only
  rw [if_congr hmode rfl rfl, Part.modBay_modBay]
  rfl

/-- Settles O30. -/
theorem bayIssuesNext : Obligations.BayIssuesNext := by
  intro b s hh hp hl hf
  dsimp only
  have hcond (hwork : ((s.part.bay b).healthPending || !(s.part.bay b).queue.isEmpty) = true) :
      Part.mayIssue (s.part.bay b) = true := by simp [Part.mayIssue, hp, hl, hf, hwork]
  refine ⟨fun hpend => ?_, fun hpend o rest hq => ?_, fun hpend hq => ?_⟩
  · exact gives_of_bayEvent rfl hh (hcond (by simp [hpend])) (if_pos hpend)
  · have hissue : s.part.begin.issueNext b = _ := issueNext_of_queue hpend hq
    refine ⟨fun hmode => ?_, fun hmode hw => ?_⟩
    · refine gives_of_bayEvent rfl hh (hcond (by simp [hq])) (hissue.trans ((if_neg hmode).trans ?_))
      unfold Part.driveCmdOf
      cases o.kind <;> rfl
    · exact gives_of_bayEvent rfl hh (hcond (by simp [hq])) (hissue.trans (if_pos ⟨hmode, hw⟩))
  · exact gives_of_not_bayEvent rfl hh (by simp [Part.mayIssue, hpend, hq])

end Sys2Proof.Machine
end

section
/-! PROOFS. The events of a bay: the drive's answers (O31), faults and time-outs (O33), the link (O34), stops and power-off (O36),
presence (O37). -/

namespace Sys2Proof.Machine

open Sys2Proof

/-! ## The drive's answers -/

theorem recordError_eq (p : Part) (b : Fin 4) (k : ErrorKind) (block : Option Nat) : p.recordError b k block =
    p.modBay b fun x => { x with
      errorCount := if x.errorCount < 255 then x.errorCount + 1 else x.errorCount
      firstError := if x.firstError.isSome then x.firstError
        else some { kind := k, block := block, time := p.clock.counter } } := by
  refine congrArg (fun f : Bay → Bay => p.modBay b f) (funext fun x => ?_)
  cases x.firstError <;> rfl

/-- What an answered operation's end leaves of the bay (R47, R62, R85). -/
def answeredBay (o : BayOp) (x : Bay) : Bay := { x with
  inFlight := .nothing, timeoutRun := false, idle := if classOf o.origin ∈ x.profile.mask then 0 else x.idle }

theorem endAnswered_eq (p : Part) (b : Fin 4) (o : BayOp) (res : Status) (block : Option Nat) :
    (p.clearRun b).endAnswered b o res block = (p.modBay b (answeredBay o)).reportResult res block o := by
  refine congrArg (Part.reportResult res block o) ?_
  simp only [Part.clearRun, Part.clearFlight, Part.reportClass, Part.modBay_modBay]
  refine congrArg (fun f : Bay → Bay => p.modBay b f) (funext fun x => ?_)
  dsimp only [answeredBay]
  split <;> rfl

theorem endFailed_eq (p : Part) (b : Fin 4) (o : BayOp) (k : ErrorKind) (res : Status) (block : Option Nat) (at_ : Option Nat) :
    ((p.clearRun b).recordError b k block).endAnswered b o res at_ = (({ p with
      bays := p.bays.set b { answeredBay o (p.bay b) with
        errorCount := if (p.bay b).errorCount < 255 then (p.bay b).errorCount + 1 else (p.bay b).errorCount
        firstError := if (p.bay b).firstError.isSome then (p.bay b).firstError
          else some { kind := k, block := block, time := p.clock.counter } } } : Part).reportResult res at_ o) := by
  refine congrArg (Part.reportResult res at_ o) ?_
  rw [recordError_eq]
  simp only [Part.clearRun, Part.clearFlight, Part.reportClass, Part.modBay_modBay]
  unfold Part.modBay
  refine congrArg (fun x : Bay => ({ p with bays := p.bays.set b x } : Part)) ?_
  dsimp only [answeredBay]
  split <;> rfl

theorem gives_driveAnswer {b : Fin 4} {a : DriveAnswer} {o : BayOp} {s : State} {q : Part} (hh : s.part.held = false)
    (hp : (s.part.bay b).power = .ready) (hl : (s.part.bay b).link = .locked) (hf : (s.part.bay b).inFlight = .op o)
    (hq : (match a with
      | .done data => s.part.begin.answerDone b o data
      | .mediaError sector => s.part.begin.answerMedia b o sector
      | .abort => s.part.begin.answerAbort b o) = q) : Gives (.driveAnswer b a) s q := by
  have hans : Part.answerable (s.part.begin.bay b) = some o := by
    have hf' : (s.part.begin.bay b).inFlight = .op o := hf
    unfold Part.answerable
    rw [hf']
    exact if_pos ⟨hp, hl⟩
  refine gives_of_event (show exec (.driveAnswer b a) s = execDriveAnswer b a s from rfl) hh (Eq.trans ?_ hq)
  rewrite [hans]
  cases a <;> rfl

/-- The block of a MEDIA answer goes to the parent as it is, but for a FLUSH (R61). -/
theorem failingBlock_of_blocks {p : Part} {o : BayOp} (h : o.kind ≠ .flush) (n : Nat) : p.failingBlock o n = some n := by
  unfold Part.failingBlock
  cases hk : o.kind with
  | flush => exact absurd hk h
  | _ => rfl

/-- Settles O31. -/
theorem driveAnswered : Obligations.DriveAnswered := by
  intro b o s hh hp hl hf
  refine ⟨fun data => gives_driveAnswer hh hp hl hf ?_, fun sector hk => gives_driveAnswer hh hp hl hf ?_,
    fun sector hk => gives_driveAnswer hh hp hl hf ?_, fun hr => gives_driveAnswer hh hp hl hf ?_,
    fun hr => gives_driveAnswer hh hp hl hf ?_⟩
  · dsimp only
    unfold Part.answerDone
    rw [endAnswered_eq]
    split <;> rfl
  · dsimp only
    unfold Part.answerMedia
    rw [endFailed_eq, failingBlock_of_blocks hk]
    rfl
  · dsimp only
    unfold Part.answerMedia
    rw [endFailed_eq]
    rfl
  · dsimp only
    unfold Part.answerAbort Part.reissue Part.clearRun
    rw [if_neg (by simp [hr]), Part.modBay_modBay]
    rfl
  · dsimp only
    unfold Part.answerAbort
    rw [if_pos hr, endFailed_eq]
    rfl

/-! ## Faults and time-outs -/

theorem abandonHealth_of_other {p : Part} {b : Fin 4} (h : (p.bay b).inFlight ≠ .healthRead) : p.abandonHealth b = p := if_neg h

theorem abandonHealth_of_read {p : Part} {b : Fin 4} (h : (p.bay b).inFlight = .healthRead) : p.abandonHealth b =
    let q : Part := { p with bays := p.bays.set b { p.bay b with inFlight := .nothing, queryHeld := false } }
    if (p.bay b).queryHeld = true then q.reply .mp .timeout else q := by
  have hq : ((p.clearFlight b).bay b).queryHeld = (p.bay b).queryHeld := by simp [Part.clearFlight]
  unfold Part.abandonHealth Part.answerQuery
  rw [if_pos h, hq]
  dsimp only
  split
  · unfold Part.clearFlight
    rw [Part.modBay_modBay]
    rfl
  next hno =>
    have hno' : (p.bay b).queryHeld = false := by simpa using hno
    rw [← hno']
    rfl

/-- What the first expiry of a limit leaves of the bay (R62). -/
theorem limitExpired_of_first {p : Part} {b : Fin 4} (h : (p.bay b).timeoutRun = false) : p.limitExpired b =
    let q := match (p.bay b).inFlight with
      | .op o => p.endUnanswered b o .timeout
      | _ => p.abandonHealth b
    { q with bays := q.bays.set b { q.bay b with
        errorCount := if (q.bay b).errorCount < 255 then (q.bay b).errorCount + 1 else (q.bay b).errorCount
        firstError := if (q.bay b).firstError.isSome then (q.bay b).firstError
          else some { kind := .timeout, block := none, time := q.clock.counter }
        timeoutRun := true, link := .training, retrain := (q.bay b).retrain + 1 } } := by
  unfold Part.limitExpired
  dsimp only
  rw [if_neg (by simp [h]), recordError_eq]
  unfold Part.beginRetrain
  rw [Part.modBay_modBay, Part.modBay_modBay]
  rfl

/-- A command's limit runs at a READY or STOPPING bay whose link is LOCKED (R62). -/
theorem gives_commandTimeout {b : Fin 4} {s : State} {q : Part} (hh : s.part.held = false)
    (hp : (s.part.bay b).power = .ready ∨ (s.part.bay b).power = .stopping) (hl : (s.part.bay b).link = .locked)
    (hf : (s.part.bay b).inFlight ≠ .nothing) (hq : s.part.begin.limitExpired b = q) : Gives (.commandTimeout b) s q := by
  have hcond : Bay.limited (s.part.bay b) = true := by rcases hp with hp | hp <;> simp [Bay.limited, hp, hl, hf]
  exact gives_of_bayEvent (show exec (.commandTimeout b) s = execCommandTimeout b s from rfl) hh hcond hq

theorem gives_retrainAttemptEnd {b : Fin 4} {s : State} {q : Part} (hh : s.part.held = false)
    (hp : (s.part.bay b).power = .ready ∨ (s.part.bay b).power = .stopping) (ht : (s.part.bay b).link = .training)
    (hq : (if (s.part.bay b).retrain < Config.retrainLimit then s.part.begin.beginRetrain b
      else (s.part.begin.recordError b .link none).enterFault b) = q) : Gives (.retrainAttemptEnd b) s q := by
  refine gives_of_bayEvent (show exec (.retrainAttemptEnd b) s = execRetrainAttemptEnd b s from rfl) hh ?_ hq
  rcases hp with hp | hp <;> simp [hp, ht]

/-- What brings a bay to FAULT (R55, R62, R63). -/
theorem gives_faulted {b : Fin 4} {s : State} (hh : s.part.held = false) :
    ((s.part.bay b).power = .starting → Gives (.startTimeout b) s (bayFaulted s.part.begin b .start))
    ∧ (((s.part.bay b).power = .ready ∨ (s.part.bay b).power = .stopping) →
      ((s.part.bay b).link = .training → (s.part.bay b).retrain = 3 →
        Gives (.retrainAttemptEnd b) s (bayFaulted s.part.begin b .link))
      ∧ ((s.part.bay b).link = .locked → (s.part.bay b).inFlight ≠ .nothing → (s.part.bay b).timeoutRun = true →
        Gives (.commandTimeout b) s (bayFaulted (s.part.begin.abandonHealth b) b .timeout))) := by
  refine ⟨fun h => gives_of_event rfl hh ((if_pos h).trans (Part.recordError_enterFault_eq ..)), fun hp => ⟨fun ht hr => ?_,
    fun hl hf hrun => ?_⟩⟩
  · refine gives_retrainAttemptEnd hh hp ht ?_
    have hthird : ¬(s.part.bay b).retrain < Config.retrainLimit := by
      rw [hr]
      decide
    exact (if_neg hthird).trans (Part.recordError_enterFault_eq ..)
  · refine gives_commandTimeout hh hp hl hf ?_
    exact (if_pos hrun).trans (Part.recordError_enterFault_eq ..)

/-- Settles O33. -/
theorem bayFaultsAndTimeouts : Obligations.BayFaultsAndTimeouts := by
  refine ⟨fun b s hh => ?_, fun b s hh hl hp hrun => ?_⟩
  · obtain ⟨hstart, hready⟩ := gives_faulted (b := b) hh
    refine ⟨hstart, fun hp => ⟨(hready hp).1, fun ht hr => ?_, fun hl hf hg hrun => ?_, fun hl hf hrun => ?_⟩⟩
    · refine gives_retrainAttemptEnd hh hp ht ((if_pos hr).trans ?_)
      unfold Part.beginRetrain Part.modBay
      rw [← ht]
      rfl
    · have hgives := (hready hp).2 hl hf hrun
      rwa [abandonHealth_of_other (p := s.part.begin) hg] at hgives
    · have hgives := (hready hp).2 hl (by simp [hf]) hrun
      rwa [abandonHealth_of_read (p := s.part.begin) hf] at hgives
  · have hexpired : s.part.begin.limitExpired b = _ := limitExpired_of_first hrun
    refine ⟨fun o hf => ?_, fun hf => ?_, fun hf hq => ?_⟩
    all_goals
      have hf' : (s.part.begin.bay b).inFlight = _ := hf
      rw [hf'] at hexpired
      refine gives_commandTimeout hh hp hl (by simp [hf]) (hexpired.trans ?_)
    · rfl
    · dsimp only
      rw [abandonHealth_of_other (by rw [hf']; simp)]
      rfl
    · dsimp only
      rw [(abandonHealth_of_read hf').trans (if_pos hq)]
      rfl

/-! ## The link -/

theorem linkLost_of {p : Part} {b : Fin 4} :
    ((p.bay b).power = .ready ∨ (p.bay b).power = .stopping → p.linkLost b = p.beginRetrain b)
    ∧ ((p.bay b).power = .starting → p.linkLost b = p.modBay b fun x => { x with link := .training, inFlight := .nothing })
    ∧ ((p.bay b).power = .standby → p.linkLost b = p.standbyLinkLost b) := by
  unfold Part.linkLost
  refine ⟨fun h => ?_, fun h => ?_, fun h => ?_⟩
  · rcases h with h | h <;> rw [h]
  · rw [h]
  · rw [h]

theorem relocked_eq (p : Part) (b : Fin 4) : p.relocked b =
    let q := p.modBay b fun x => { x with link := .locked, retrain := 0 }
    match (p.bay b).inFlight with
    | .op o => if o.reissue then q.endUnanswered b o .timeout else q.reissue b o
    | .goStandby => q.emit (.drive b .goStandby)
    | .healthRead => q.emit (.drive b .healthRead)
    | .nothing => if (p.bay b).power = .stopping then q.issueStandby b else q
    | .spinUp | .identify => q := rfl

theorem linkGained_of {p : Part} {b : Fin 4} :
    ((p.bay b).power = .ready ∨ (p.bay b).power = .stopping → p.linkGained b = p.relocked b)
    ∧ ((p.bay b).power = .starting → p.linkGained b =
      if (p.bay b).startedFrom = some .standby then (p.modBay b fun x => { x with link := .locked }).issueSpinUp b
      else p.modBay b fun x => { x with link := .locked }) := by
  unfold Part.linkGained
  refine ⟨fun h => ?_, fun h => ?_⟩
  · rcases h with h | h <;> rw [h]
  · rw [h]

/-- Settles O34. -/
theorem linkLostAndLocked : Obligations.LinkLostAndLocked := by
  intro b s hh
  dsimp only
  obtain ⟨hlostReady, hlostStarting, hlostStandby⟩ := linkLost_of (p := s.part.begin) (b := b)
  obtain ⟨hgainedReady, hgainedStarting⟩ := linkGained_of (p := s.part.begin) (b := b)
  refine ⟨fun hl => ?_, fun hl => ?_⟩
  · have hlost {q : Part} (hq : s.part.begin.linkLost b = q) : Gives (.linkLoss b) s q :=
      gives_of_bayEvent (show exec (.linkLoss b) s = execLinkLoss b s from rfl) hh (by simp [hl]) hq
    refine ⟨fun hp => hlost (hlostReady hp), fun hp => hlost (hlostStarting hp), fun hp => hlost ((hlostStandby hp).trans ?_)⟩
    exact if_congr (by simp [Part.begin, Part.bay]) rfl rfl
  · have hgained {q : Part} (hq : s.part.begin.linkGained b = q) : Gives (.linkLocked b) s q :=
      gives_of_bayEvent (show exec (.linkLocked b) s = execLinkLocked b s from rfl) hh (by simp [hl]) hq
    refine ⟨fun hp hf => hgained ((hgainedStarting hp).trans (if_neg hf)), fun hp hf => hgained ((hgainedStarting hp).trans
      ((if_pos hf).trans ?_)), fun hp => ?_⟩
    · unfold Part.issueSpinUp
      rw [Part.modBay_modBay]
      rfl
    · have hrelocked := (hgainedReady hp).trans (relocked_eq ..)
      refine ⟨fun o hf hr => ?_, fun o hf hr => ?_, fun hf => ?_, fun hf => ?_, fun hf => ?_⟩
      all_goals
        rw [show (s.part.begin.bay b).inFlight = _ from hf] at hrelocked
        refine hgained (hrelocked.trans ?_)
      · dsimp only
        rw [if_neg (by simp [hr])]
        unfold Part.reissue
        rw [Part.modBay_modBay]
        rfl
      · dsimp only
        rw [if_pos hr]
        unfold Part.endUnanswered Part.clearFlight
        rw [Part.modBay_modBay]
        rfl
      · rfl
      · rfl
      · refine if_congr Iff.rfl ?_ rfl
        unfold Part.issueStandby
        rw [Part.modBay_modBay]
        rfl

/-! ## Stops and power-off -/

theorem Part.modBay_of_fixed {p : Part} {b : Fin 4} {f : Bay → Bay} (h : f (p.bay b) = p.bay b) : p.modBay b f = p := by
  unfold Part.modBay
  rw [h]
  exact Part.set_bay_self ..

/-- An idle counter at its figure stays as it stands. -/
theorem idle_reached {p : Part} {b : Fin 4} {figure : BayProfile → Nat} (h : figure (p.bay b).profile ≤ (p.bay b).idle) :
    (p.modBay b fun x => { x with idle := max x.idle (figure x.profile) }) = p := by
  refine Part.modBay_of_fixed ?_
  change ({ p.bay b with idle := max (p.bay b).idle (figure (p.bay b).profile) } : Bay) = p.bay b
  rw [max_eq_left h]

/-- Settles O36. -/
theorem bayStopsWhenIdle : Obligations.BayStopsWhenIdle := by
  intro b s hh
  dsimp only
  refine ⟨fun hq hset hidle => ?_, fun hp hmay hset hidle => ?_, fun hp hl hf => ⟨?_, fun a ha => ?_⟩⟩
  · have hgives {q : Part} (hq' : s.part.begin.stopOrder b = q) : Gives (.idleStandbyExpiry b) s q := by
      refine gives_of_bayEvent (show exec (.idleStandbyExpiry b) s = execIdleStandbyExpiry b s from rfl) hh (by simp [hq, hset]) ?_
      rw [idle_reached (p := s.part.begin) (figure := BayProfile.idleStandby) hidle]
      exact hq'
    have hstop : s.part.begin.stopOrder b = _ := stopBy_of_quiet hq
    exact ⟨fun hl => hgives (hstop.trans (if_neg hl)), fun hl => hgives (hstop.trans (if_pos hl))⟩
  · refine gives_of_bayEvent (show exec (.idleOffExpiry b) s = execIdleOffExpiry b s from rfl) hh (by simp [hp, hmay, hset]) ?_
    rw [idle_reached (p := s.part.begin) (figure := BayProfile.idleOff) hidle]
    exact if_pos hp
  all_goals
    have hcond : (fun x : Bay => x.power == .stopping && x.link == .locked && x.inFlight == .goStandby) (s.part.bay b) = true := by
      simp [hp, hl, hf]
  · refine gives_of_bayEvent (show exec (.goStandbyAnswer b .done) s = execGoStandbyAnswer b .done s from rfl) hh hcond ?_
    dsimp only
    unfold Part.standbyReached Part.answerStops
    rw [Part.modBay_modBay, Part.bay_modBay]
    exact if_congr (by simp [Part.begin, Part.bay]) rfl rfl
  · have hrefused : s.part.begin.standbyRefused b = ((({ s.part.begin with bays := s.part.bays.set b { s.part.bay b with
        power := .ready, inFlight := .nothing, startAfterStop := false, timeoutRun := false, startedFrom := none
        startLeft := none, idle := 0 } } : Part).bayEntersReady b).answerStops b .busy) := by
      unfold Part.standbyRefused Part.enterReady
      rw [Part.modBay_modBay]
      rfl
    rcases ha with rfl | rfl
    · exact gives_of_bayEvent (show exec (.goStandbyAnswer b .mediaError) s = execGoStandbyAnswer b .mediaError s from rfl) hh hcond
        hrefused
    · exact gives_of_bayEvent (show exec (.goStandbyAnswer b .abort) s = execGoStandbyAnswer b .abort s from rfl) hh hcond hrefused

/-! ## Presence -/

/-- Settles O37. -/
theorem presenceChanges : Obligations.PresenceChanges := by
  intro b s hh
  refine ⟨fun h => ?_, fun h => ?_⟩
  · exact gives_of_bayEvent (show exec (.bayPresenceAssert b) s = execBayPresenceAssert b s from rfl) hh (by simp [h]) rfl
  · refine gives_of_bayEvent (show exec (.bayPresenceRelease b) s = execBayPresenceRelease b s from rfl) hh h rfl

end Sys2Proof.Machine
end

section
/-! PROOFS. The box power states (chapter 7): entering a state, SLEEP and RESUME (O40), the SP rail (O41), wake events (O42), the
button and the forced stops (O43). -/

namespace Sys2Proof.Machine

open Sys2Proof

/-! ## Entering a state -/

theorem service_eq (p : Part) : p.service = decide (p.loader.mode = .service) := by
  rw [Bool.eq_iff_iff]
  simp [Part.service]

/-- A state other than DORMANT is entered; leaving DORMANT has the engine seek (R105). -/
theorem toState_of_awake {p : Part} {st : BoxState} (h : st ≠ .dormant) : p.toState st = { p with
    box := { p.box with st := some st }
    engine := { p.engine with seek := p.engine.seek || decide (p.box.st = some .dormant) } } := by
  unfold Part.toState
  by_cases hd : p.box.st = some .dormant
  · simp [hd, h, Part.seekNext]
  · simp [hd]

theorem toState_dormant (p : Part) : p.toState .dormant = { p with box := { p.box with st := some .dormant } } :=
  if_neg (by simp)

theorem enterSleep_eq (p : Part) : p.enterSleep = { p with
    box := { p.box with
      st := some .sleep, phyPowered := true, phyPath := if p.loader.mode = .service then .sp else .standby
      rxOn := decide (p.loader.mode ≠ .service)
      resume := {
        reasons := [], further := 0
        entryTime := if p.box.st = some .dormant then p.box.resume.entryTime else some p.clock.counter } }
    matcher := { p.matcher with held := [] }
    engine := { p.engine with seek := p.engine.seek || decide (p.box.st = some .dormant) } } := by
  unfold Part.enterSleep
  rw [toState_of_awake (by simp)]
  simp [service_eq, Part.emptyHeld, Part.now]
  rfl

theorem enterWaking_eq (p : Part) : p.enterWaking = { p with
    box := { p.box with
      st := some .waking, phyPowered := true, phyPath := if p.loader.mode = .service then .sp else .standby
      rxOn := decide (p.loader.mode ≠ .service), resumeCount := none, cycled := false }
    power := { p.power with startQueue := .sp :: p.power.startQueue.filter fun e => e != .sp }
    engine := { p.engine with seek := p.engine.seek || decide (p.box.st = some .dormant) } } := by
  unfold Part.enterWaking
  rw [toState_of_awake (by simp)]
  simp [service_eq, Part.insertSp]

theorem enterDormant_eq (p : Part) : p.enterDormant = allBays.foldl (fun q b => q.orderBay b) { p with
    box := { p.box with
      st := some .dormant, rxOn := false
      phyPath := if p.loader.mode = .service then p.box.phyPath else .standby
      phyPowered := if p.loader.mode = .service then p.box.phyPowered else false
      resume := { reasons := [], further := 0, entryTime := some p.clock.counter } }
    matcher := { p.matcher with held := [] } } := by
  unfold Part.enterDormant
  rw [toState_dormant]
  simp [service_eq, Part.emptyHeld, Part.now]

/-! ## The SP rail -/

theorem spRailOff_of_on {p : Part} (h : p.power.spRail = true) : p.spRailOff =
    portReset { p with power := { p.power with spRail := false, spInUse := none, tSpLeft := none } } :=
  (if_pos h).trans (Part.ppReset_eq _)

theorem foldl_keeps {α β : Type} (φ : Part → β) {f : Part → α → Part} (h : ∀ q x, φ (f q x) = φ q) :
    ∀ (l : List α) (p : Part), φ (l.foldl f p) = φ p
  | [], _ => rfl
  | x :: l, p => (foldl_keeps φ h l (f p x)).trans (h p x)

/-- The box record and the direct port, which no reset of the processor port touches. -/
def boxDp (p : Part) : Box × DpPort := (p.box, p.dp)

theorem abandonRebuild_boxDp (p : Part) (w : Fin 16) : boxDp (p.abandonRebuild w) = boxDp p := by
  unfold Part.abandonRebuild boxDp
  cases hc : p.engine.chunk with
  | none => by_cases h : (p.window w).cursor.isNone <;> simp [h]
  | some c =>
    by_cases h : (p.window w).cursor.isNone <;> by_cases hk : c.window = w ∧ c.kind = ChunkKind.rebuild <;>
      simp [h, hk, Part.abandonChunk_eq hc, chunkAbandoned]

theorem removeRequest_boxDp (r : Request) (keep : List Nat) (p : Part) : boxDp (p.removeRequest r keep) = boxDp p := by
  unfold Part.removeRequest Part.countDown boxDp
  cases r.port <;> simp [Part.leaveRooms_eq]

theorem dropTarget_boxDp (r : Request) (frags : List Fragment) (p : Part) : boxDp (p.dropTarget r frags) = boxDp p := by
  unfold Part.dropTarget
  dsimp only
  cases (p.window r.window).lost with
  | none => rfl
  | some x =>
    dsimp only
    split
    · exact abandonRebuild_boxDp ..
    · rfl

theorem dropRequest_boxDp (p : Part) (r : Request) : boxDp (p.dropRequest r) = boxDp p := by
  unfold Part.dropRequest
  dsimp only
  rw [Part.modBays_eq]
  split
  · rw [dropTarget_boxDp]
    exact removeRequest_boxDp ..
  · exact removeRequest_boxDp ..

theorem spRailOff_boxDp (p : Part) : boxDp p.spRailOff = boxDp p := by
  cases h : p.power.spRail with
  | false => rw [Part.spRailOff, if_neg (by simp [h])]
  | true =>
    rw [spRailOff_of_on h]
    exact foldl_keeps boxDp dropRequest_boxDp _ _

theorem spRailOff_box (p : Part) : p.spRailOff.box = p.box := congrArg Prod.fst (spRailOff_boxDp p)

theorem spRailOff_dp (p : Part) : p.spRailOff.dp = p.dp := congrArg Prod.snd (spRailOff_boxDp p)

/-! ## The end of grace, the resume limit, the orders of DORMANT -/

theorem graceEnds_eq (p : Part) : p.graceEnds =
    let off := p.spRailOff
    let rest : Part := { off with
      box := { off.box with phase := none, target := none, grace := none
                            resume := { off.box.resume with entryTime := some p.clock.counter } }
      matcher := { off.matcher with held := [] } }
    if p.box.resume.reasons ≠ [] then rest.enterWaking
    else if p.box.target = some .sleep ∨ p.dp.attached = true then rest.enterSleep else rest.enterDormant := by
  have hreasons : (!p.spRailOff.box.resume.reasons.isEmpty) = true ↔ p.box.resume.reasons ≠ [] := by simp [spRailOff_box]
  have htarget : (p.box.target = some .sleep ∨ p.spRailOff.dp.attached = true)
      ↔ (p.box.target = some .sleep ∨ p.dp.attached = true) := by rw [spRailOff_dp]
  exact if_congr hreasons rfl (if_congr htarget rfl rfl)

theorem orderBay_eq (p : Part) (b : Fin 4) : p.orderBay b =
    let x := p.bay b
    if x.power = .standby then { p with bays := p.bays.set b { x with power := .off, link := .down } }
    else if x.quiet = true then
      let r := ({ p with bays := p.bays.set b { x with power := .stopping } } : Part).bayLeavesForDormant b
      if x.link = .locked then (r.modBay b fun y => { y with inFlight := .goStandby }).emit (.drive b .goStandby) else r
    else p := by
  unfold Part.orderBay Part.powerOffOrder
  dsimp only
  split
  · rfl
  · rfl

/-- With no consequence due, DORMANT has no bay left to order (R88). -/
theorem not_dormantOrder_of_settled {p : Part} (h : p.settled = true) (hst : p.box.st = some .dormant) (b : Fin 4) :
    p.dormantOrder b = false := by
  have hnone : p.consequence = none := by simpa [Part.settled] using h
  have hfind : allBays.find? p.dormantOrder = none := by
    unfold Part.consequence at hnone
    rw [if_pos hst] at hnone
    repeat' split at hnone
    any_goals contradiction
    assumption
  simpa using List.find?_eq_none.1 hfind b (mem_allBays b)

/-- Settles O41. -/
theorem spRailGoesOff : Obligations.SpRailGoesOff := by
  refine ⟨fun s hh => ⟨fun hst hphase hgrace => ?_, fun hst hrail hcount => ?_⟩, fun p => ⟨graceEnds_eq p, fun hc => ?_, fun hc => ?_⟩,
    orderBay_eq, fun p hset hst b => ?_, fun p => ⟨fun h => ?_, spRailOff_of_on, enterSleep_eq p, enterWaking_eq p, enterDormant_eq p⟩⟩
  · exact gives_of_condition rfl hh (by simp [Part.inGrace, Part.begin, hst, hphase, hgrace]) rfl
  · exact gives_of_condition rfl hh (by simp [Part.begin, hst, hrail, hcount]) rfl
  · exact if_neg (by simp [hc])
  · exact if_pos hc
  · simpa [Part.dormantOrder] using not_dormantOrder_of_settled hset hst b
  · exact if_neg (by simp [h])

/-! ## Wake events -/

theorem addReason_eq (p : Part) (k : ReasonKind) : p.addReason k = { p with box := { p.box with
    resume := if p.box.resume.reasons.length < 8
      then { p.box.resume with reasons := p.box.resume.reasons ++ [{ kind := k, time := p.clock.counter }] }
      else { p.box.resume with
        further := if p.box.resume.further < 255 then p.box.resume.further + 1 else p.box.resume.further } } } := rfl

theorem wakeEvent_of {p : Part} (k : ReasonKind) :
    (p.box.st = some .run → p.wakeEvent k = p)
    ∧ (p.box.st = some .waking → p.wakeEvent k = p.addReason k)
    ∧ (p.box.st = some .draining → p.wakeEvent k = if p.box.phase = some .drain then (p.addReason k).woken else p.addReason k)
    ∧ (p.box.st = some .sleep ∨ p.box.st = some .dormant → p.wakeEvent k = (p.addReason k).enterWaking) := by
  unfold Part.wakeEvent
  refine ⟨fun h => ?_, fun h => ?_, fun h => ?_, fun h => ?_⟩
  · rw [h]
  · rw [h]
  · rw [h]
  · rcases h with h | h <;> rw [h]

/-- A SLEEP whose DRAIN a wake event ends is completed (R133). -/
theorem woken_of_pending {p : Part} {tag : Tag} (h : p.box.pendingSleep = some tag) (hset : p.pp.setup ≠ .unset) :
    p.woken = { p with
      box := { p.box with st := some .run, phase := none, target := none, pendingSleep := none }
      pp := { p.pp with list := p.pp.list ++ [{ tag := tag, status := .woken }] } } := by
  unfold Part.woken
  rw [h]
  exact if_neg hset

/-- Settles O42. -/
theorem wakeEventByState : Obligations.WakeEventByState := by
  intro p k
  obtain ⟨hrun, hwaking, hdraining, hasleep⟩ := wakeEvent_of (p := p) k
  refine ⟨hrun, fun h => (hwaking h).trans (addReason_eq p k), fun h hphase => ?_, fun tag h hphase hpend hset => ?_, fun h => ?_⟩
  · exact (hdraining h).trans ((if_neg (by simp [hphase])).trans (addReason_eq p k))
  · refine (hdraining h).trans ((if_pos hphase).trans ?_)
    rw [woken_of_pending (show (p.addReason k).box.pendingSleep = some tag from hpend) hset]
    rfl
  · rw [hasleep h, enterWaking_eq]
    rfl

/-! ## The button and the forced stops -/

theorem forcedStop_of_acting {p : Part} (h : ¬(p.box.st = some .dormant ∨ (p.box.st = some .sleep ∧ p.dp.attached = true))) :
    p.forcedStop =
      let q : Part := { p.removeSp.spRailOff with box := { p.removeSp.spRailOff.box with
        phase := none, target := none, pendingSleep := none, grace := none, resumeCount := none, cycled := false } }
      if p.dp.attached = true then q.enterSleep else q.enterDormant := by
  have hdp : p.removeSp.spRailOff.dp.attached = true ↔ p.dp.attached = true := by rw [spRailOff_dp]; rfl
  exact (if_neg h).trans (if_congr hdp rfl rfl)

theorem portTook_dp_mp (p : Part) (k : Option Kind) (seq : Byte) : (portTook p k (.mp seq)).dp = p.dp := rfl

theorem portTook_dp_pp (p : Part) (k : Option Kind) (tag : Tag) (addr len : Nat) :
    (portTook p k (.pp tag addr len)).dp = p.dp := rfl

/-- Settles O43. -/
theorem buttonAndForcedStops : Obligations.ButtonAndForcedStops := by
  refine ⟨fun seq s hst => ⟨fun ht => ?_, fun ht => ?_⟩, fun s hh => ⟨?_, fun hpress hst => ?_⟩,
    fun p => ⟨fun h => if_pos (.inl h), fun h hdp => if_pos (.inr ⟨h, hdp⟩), fun h hdp => ?_, fun h h' hdp => ?_⟩⟩
  · have hstate : ¬(portTook s.part (some .boxWake) (.mp seq)).box.st.isNone = true := by
      rw [portTook_box]
      simpa [Option.isSome_iff_ne_none] using hst
    exact gives_command ht rfl rfl rfl (congrArg (fun q : Part => q.reply .mp .ok) (if_neg hstate))
  · have hstate : ¬(portTook s.part (some .forceDormant) (.mp seq)).box.st.isNone = true := by
      rw [portTook_box]
      simpa [Option.isSome_iff_ne_none] using hst
    refine ⟨fun hdp => gives_command ht rfl rfl rfl ((if_neg hstate).trans (if_pos hdp)),
      fun hdp => gives_command ht rfl rfl rfl ((if_neg hstate).trans (if_neg ?_))⟩
    simp [portTook_dp_mp, hdp]
  · exact gives_of_quietEvent rfl hh rfl
  · have hstate : ¬s.part.box.st.isNone = true := by simpa [Option.isSome_iff_ne_none] using hst
    exact ⟨gives_of_condition rfl hh hpress (if_neg hstate), gives_of_condition rfl hh hpress (if_neg hstate)⟩
  · exact (forcedStop_of_acting (by simp [h, hdp])).trans (if_neg (by simp [hdp]))
  · exact (forcedStop_of_acting (by simp [h, h'])).trans (if_pos hdp)

/-! ## SLEEP and RESUME -/

theorem sleepRefusal (p : Part) (t : Option SleepTarget) : firstRefusal (p.sleepChecks t) =
    if t = none then some .badRequest
    else if p.box.st ≠ some .run then some .wrongState
    else if t = some .dormant ∧ p.dp.attached = true then some .wrongState else none := by
  simp only [Part.sleepChecks, firstRefusal]
  cases t with
  | none => rfl
  | some t =>
    by_cases hst : p.box.st = some .run <;> by_cases hd : t = .dormant <;> cases p.dp.attached <;> simp [hst, hd]

theorem drainEnds_of_pending {p : Part} {tag : Tag} (h : p.box.pendingSleep = some tag) (hset : p.pp.setup ≠ .unset) :
    p.drainEnds = { p with
      box := { p.box with phase := some .grace, pendingSleep := none, grace := none }
      pp := { p.pp with list := p.pp.list ++ [{ tag := tag, status := .ok, isSleep := true }] } } := by
  unfold Part.drainEnds
  rw [h]
  exact if_neg hset

theorem resumeCmd_of_waking {p : Part} (h : p.box.st = some .waking ∧ p.power.spRail = true) (tag : Tag) (addr len : Nat) :
    p.resumeCmd (.pp tag addr len) = ({ p with box := { p.box with
      st := some .run, rxOn := false, phyPath := .sp, resumeCount := none, cycled := false, noResume := false } } : Part).answer
        (.pp tag addr len) .ok (.resume p.box.resume) := by
  unfold Part.resumeCmd
  rw [if_pos h]
  unfold Part.answer Part.answerFrom Part.handPp Part.emit
  dsimp only
  split <;> split <;> rfl

/-- Settles O40. -/
theorem sleepAndResume : Obligations.SleepAndResume := by
  refine ⟨⟨fun tag addr len t s ht => ?_, fun s hh => ⟨fun tag hst hphase hcount hpend hset => ?_,
    fun hst hphase hgrace hlist => ?_⟩⟩, fun tag addr len s ht => ⟨fun hst hrail => ?_, fun hno => ?_⟩⟩
  · have hsleep {q : Part} (hq : (portTook s.part (some .sleep) (.pp tag addr len)).sleepCmd t (.pp tag addr len) = q) :
        Gives (.sleep (.pp tag addr len) t) s q := gives_command ht rfl rfl rfl hq
    have hcheck := sleepRefusal (portTook s.part (some .sleep) (.pp tag addr len)) t
    rw [portTook_box, portTook_dp_pp] at hcheck
    have hsome (h : t.isSome = true) : t ≠ none := by rintro rfl; simp at h
    refine ⟨fun h => hsleep (Part.checked_of_refused (hcheck.trans (if_pos h))), fun h hst => ?_, fun h hdp => ?_,
      fun h hst hdp => ?_⟩
    · exact hsleep (Part.checked_of_refused (hcheck.trans ((if_neg (hsome h)).trans (if_pos hst))))
    · refine hsleep (Part.checked_of_refused (hcheck.trans ?_))
      rw [if_neg (by simp [h]), if_pos (show t = some .dormant ∧ s.part.dp.attached = true from ⟨h, hdp⟩), ite_self]
    · exact hsleep (Part.checked_of_passed (hcheck.trans ((if_neg (hsome h)).trans ((if_neg (by simp [hst])).trans (if_neg hdp)))))
  · refine gives_of_condition rfl hh (by simp [Part.draining, Part.begin, hst, hphase, hcount]) ?_
    exact drainEnds_of_pending (p := s.part.begin) hpend hset
  · refine gives_of_condition rfl hh ?_ rfl
    simpa [Part.sleepWritten, Part.inGrace, Part.begin, hst, hphase, hgrace] using hlist
  · refine gives_command ht rfl rfl rfl ((resumeCmd_of_waking ?_ tag addr len).trans ?_)
    · simp [hst, hrail]
    · rw [portTook_box]
  · refine gives_command ht rfl rfl rfl (if_neg ?_)
    simpa using hno

end Sys2Proof.Machine
end

section
/-! PROOFS. Settings and the supply (O38), the wake matcher's settings (O47), the alarm list's commands (O46), the clock and the
main domain's timers (O45). -/

namespace Sys2Proof.Machine

open Sys2Proof

/-! ## Budget, profiles and the supply -/

theorem budgetFits_iff (p : Part) (b l : Nat) : budgetFits b l p.power.spProfile p.profiles = true ↔
    100 ≤ b ∧ b ≤ 4000 ∧ 100 ≤ l ∧ l ≤ 4000 ∧ p.power.spProfile.sUp ≤ min b l ∧ ∀ k : Fin 4, (p.bay k).profile.pUp ≤ min b l := by
  simp [budgetFits, Part.profiles, mem_allBays, and_assoc]

theorem bayProfileFits_iff (x : BayProfile) (b l : Nat) : bayProfileFits x b l = true ↔
    x.pUp ≤ 600 ∧ x.pRun ≤ 300 ∧ x.pStby ≤ 100 ∧ 5 ≤ x.tStart ∧ x.tStart ≤ 60 ∧ x.idleStandby ≤ 65535 ∧ x.idleOff ≤ 65535
      ∧ x.pStby ≤ x.pRun ∧ x.pRun ≤ x.pUp ∧ x.pUp ≤ min b l := by
  simp [bayProfileFits, and_assoc]

theorem spProfileFits_iff (x : SpProfile) (b l : Nat) : spProfileFits x b l = true ↔
    x.sUp ≤ 600 ∧ x.sRun ≤ 600 ∧ 1 ≤ x.tSp ∧ x.tSp ≤ 30 ∧ x.sRun ≤ x.sUp ∧ x.sUp ≤ min b l := by
  simp [spProfileFits, and_assoc]

/-- PROFILE_SET of a bay (R77). -/
theorem profileSet_bay (p : Part) (b : Fin 4) (x : BayProfile) (who : Answerer) : p.profileSet (.bay b.val x) who =
    if bayProfileFits x p.power.budget p.power.bLow then
      ({ p with bays := p.bays.set b { p.bay b with profile := clampProfile x } } : Part).reply who .ok
    else p.reply who .outOfRange := by
  unfold Part.profileSet
  dsimp only
  rw [Part.onBay_val]
  rfl

theorem profileSet_of_le {p : Part} {n : Nat} (h : 4 ≤ n) (x : BayProfile) (who : Answerer) :
    p.profileSet (.bay n x) who = p.reply who .badRequest := by
  unfold Part.profileSet
  dsimp only
  rw [Part.onBay_of_le h]

/-- Settles O38. -/
theorem powerFiguresAndSupply : Obligations.PowerFiguresAndSupply := by
  refine ⟨fun via s => ⟨fun b l ht => ?_, fun ht => ⟨fun n x hn => ?_, fun b x => ?_, fun x => ?_⟩⟩,
    fun s hh => ⟨fun hlow => ?_, fun hlow => ?_, fun hrail hleft => ?_⟩⟩
  · exact ⟨fun h => gives_command ht rfl rfl rfl (if_pos ((budgetFits_iff ..).2 h)),
      fun h => gives_command ht rfl rfl rfl (if_neg fun h' => h ((budgetFits_iff ..).1 h'))⟩
  · exact gives_command ht rfl rfl rfl (profileSet_of_le hn x _)
  · have hset {q : Part} (hq : (portTook s.part (some .profileSet) via).profileSet (.bay b.val x) (answererOf via) = q) :
        Gives (.profileSet via (.bay b.val x)) s q := gives_command ht rfl rfl rfl hq
    rw [profileSet_bay] at hset
    dsimp only
    rw [← portTook_power s.part (some .profileSet) via]
    exact ⟨fun h => hset (if_pos ((bayProfileFits_iff ..).2 h)), fun h => hset (if_neg fun h' => h ((bayProfileFits_iff ..).1 h'))⟩
  · have hset {q : Part} (hq : (if spProfileFits x s.part.power.budget s.part.power.bLow then
          ({ portTook s.part (some .profileSet) via with
            power := { (portTook s.part (some .profileSet) via).power with spProfile := x } } : Part).reply (answererOf via) .ok
        else (portTook s.part (some .profileSet) via).reply (answererOf via) .outOfRange) = q) :
        Gives (.profileSet via (.sp x)) s q := by
      refine gives_command ht rfl rfl rfl (Eq.trans ?_ hq)
      rw [← portTook_power s.part (some .profileSet) via]
      rfl
    exact ⟨fun h => hset (if_pos ((spProfileFits_iff ..).2 h)), fun h => hset (if_neg fun h' => h ((spProfileFits_iff ..).1 h'))⟩
  · exact ⟨gives_of_condition rfl hh (by simp [Part.begin, hlow]) rfl, by simp [Part.bEff]⟩
  · exact ⟨gives_of_condition rfl hh (by simp [Part.begin, hlow]) rfl, by simp [Part.bEff]⟩
  · exact ⟨gives_of_condition rfl hh (by simp [Part.begin, hrail, hleft]) rfl, fun f hf => by simp [spDraw, hrail, hf]⟩

/-! ## The wake matcher's settings -/

theorem wakeFits_iff (d : WakeDef) : wakeFits d = true ↔ 1 ≤ d.terms.length ∧ d.terms.length ≤ 4
    ∧ (∀ t ∈ d.terms, t.offset ≤ 255 ∧ 1 ≤ t.len ∧ t.len ≤ 4 ∧ t.value < 2 ^ (8 * t.len) ∧ t.mask < 2 ^ (8 * t.len))
    ∧ ((d.action = some .wakeSpin ∧ d.bays ≠ [] ∧ ∀ n ∈ d.bays, n < 4) ∨ (d.action = some .wake ∧ d.bays = [])
      ∨ (d.action = some .ignore ∧ d.bays = [] ∧ d.hold = false)) := by
  unfold wakeFits
  cases d.action with
  | none => simp
  | some act => cases act <;> simp [termFits, baySetFits, and_assoc]

/-- WAKE_ENTRY_SET, by its two forms (R158). -/
theorem wakeEntrySet_eq (p : Part) (a : WakeArgs) (who : Answerer) : p.wakeEntrySet a who =
    match a.clear, a.body with
    | true, none => if a.entry < 24 then (p.setWake a.entry none).reply who .ok else p.reply who .badRequest
    | false, some d => if a.entry < 24 ∧ wakeFits d then (p.setWake a.entry (some (entryOf d))).reply who .ok
      else p.reply who .badRequest
    | _, _ => p.reply who .badRequest := rfl

theorem setWake_val (p : Part) (i : Fin 24) (e : Option WakeEntry) :
    p.setWake i.val e = { p with matcher := { p.matcher with table := p.matcher.table.set i e } } := by
  have hset : p.matcher.table.setIfInBounds i.val e = p.matcher.table.set i e := by
    ext k hk
    simp [Vector.getElem_setIfInBounds, Vector.getElem_set]
  unfold Part.setWake
  rw [hset]

theorem stationFits_iff (a : Address) : stationFits a = true ↔ a[0].getLsbD 0 = false ∧ a ≠ Vector.replicate 6 0 := by
  simp [stationFits, groupAddr]

theorem placeFits_iff (o : Option Address) :
    placeFits o = true ↔ ∀ g, o = some g → g[0].getLsbD 0 = true ∧ g ≠ Vector.replicate 6 0xFF := by
  cases o <;> simp [placeFits, groupAddr, broadcast]

theorem addressesFit_iff (a : StationArgs) : addressesFit a = true ↔
    a.station[0].getLsbD 0 = false ∧ a.station ≠ Vector.replicate 6 0
      ∧ ∀ g, some g ∈ [a.group0, a.group1, a.group2, a.group3] → g[0].getLsbD 0 = true ∧ g ≠ Vector.replicate 6 0xFF := by
  have hplaces : (∀ g, some g ∈ [a.group0, a.group1, a.group2, a.group3] → g[0].getLsbD 0 = true ∧ g ≠ Vector.replicate 6 0xFF)
      ↔ ∀ o ∈ [a.group0, a.group1, a.group2, a.group3], placeFits o = true := by
    refine ⟨fun h o ho => (placeFits_iff o).2 fun g hg => h g (hg ▸ ho), fun h g hg => (placeFits_iff _).1 (h _ hg) g rfl⟩
  rw [hplaces, ← and_assoc, ← stationFits_iff]
  simp [addressesFit, and_assoc]

/-- Settles O47. -/
theorem matcherIsSet : Obligations.MatcherIsSet := by
  refine fun via s => ⟨fun a ht => ?_, fun a ht => ?_⟩
  · have hset {q : Part} (hq : (portTook s.part (some .wakeEntrySet) via).wakeEntrySet a (answererOf via) = q) :
        GivesQuietly (.wakeEntrySet via a) s q := givesQuietly_command ht rfl rfl rfl hq
    rw [wakeEntrySet_eq] at hset
    refine ⟨fun i hi hclear hbody => hset ?_, fun i d hi hclear hbody hwf act hact => hset ?_, fun hbad => hset ?_⟩
    · rw [hclear, hbody]
      dsimp only
      rw [if_pos (by omega), hi, setWake_val]
    · rw [hclear, hbody]
      dsimp only
      rw [if_pos ⟨by omega, (wakeFits_iff d).2 hwf⟩, hi, setWake_val]
      simp [entryOf, hact]
    · cases hclear : a.clear <;> cases hbody : a.body <;> dsimp only
      · rename_i d
        refine if_neg fun ⟨hlt, hfits⟩ => ?_
        rcases hbad with h | h | ⟨d', hd, hwf⟩
        · omega
        · simp [hclear, hbody] at h
        · obtain rfl : d = d' := by simpa [hbody] using hd
          exact hwf ((wakeFits_iff d).1 hfits)
      · refine if_neg fun hlt => ?_
        rcases hbad with h | h | ⟨d', hd, -⟩
        · omega
        · simp [hclear, hbody] at h
        · simp [hbody] at hd
  · have hset {q : Part} (hq : (if addressesFit a then
          ({ portTook s.part (some .stationSet) via with matcher := { (portTook s.part (some .stationSet) via).matcher with
            station := some a.station, groups := [a.group0, a.group1, a.group2, a.group3], summons := a.summons } } : Part).reply
              (answererOf via) .ok
        else (portTook s.part (some .stationSet) via).reply (answererOf via) .badRequest) = q) :
        GivesQuietly (.stationSet via a) s q := givesQuietly_command ht rfl rfl rfl hq
    exact ⟨fun h => hset (if_pos ((addressesFit_iff a).2 h)), fun h => hset (if_neg fun h' => h ((addressesFit_iff a).1 h'))⟩

/-! ## The expiry pass -/

namespace Part

theorem alarmDue_eq_false_iff {p : Part} : p.alarmDue = false ↔ ∀ a l, p.clock.alarms = a :: l → p.clock.counter < a.time := by
  unfold alarmDue
  cases p.clock.alarms <;> simp

theorem passStep_of_not_due {p : Part} (h : p.alarmDue = false) (i : Nat) : p.passStep i = p := if_neg (by simp [h])

theorem passSteps_of_not_due {p : Part} (h : p.alarmDue = false) : ∀ l : List Nat, l.foldl passStep p = p
  | [] => rfl
  | i :: l => by
    rw [List.foldl_cons, passStep_of_not_due h]
    exact passSteps_of_not_due h l

/-- As many steps as there are alarms due leave a pass with nothing to take. -/
theorem passSteps_done : ∀ (l : List Nat) (p : Part), p.dueCount ≤ l.length → (l.foldl passStep p).alarmDue = false
  | [], p, h => by
    by_contra hdue
    have := expireHead_dueCount (p := p) (by simpa using hdue)
    simp at h
    omega
  | i :: l, p, h => by
    cases hdue : p.alarmDue with
    | false => rw [passSteps_of_not_due hdue]; exact hdue
    | true =>
      have hstep : p.passStep i = p.expireHead := if_pos hdue
      have hcount := expireHead_dueCount hdue
      rw [List.foldl_cons, hstep]
      exact passSteps_done l _ (by simp at h; omega)

/-- Further steps than there are alarms due change nothing. -/
theorem passSteps_append {p : Part} {l : List Nat} (h : p.dueCount ≤ l.length) (more : List Nat) :
    (l ++ more).foldl passStep p = l.foldl passStep p := by
  rw [List.foldl_append, passSteps_of_not_due (passSteps_done l p h)]

theorem passSteps_length (l l' : List Nat) (p : Part) (h : l.length = l'.length) : l.foldl passStep p = l'.foldl passStep p := by
  induction l generalizing l' p with
  | nil => rw [List.length_eq_zero_iff.1 h.symm]
  | cons i l ih =>
    cases l' with
    | nil => simp at h
    | cons j l' => exact ih l' (p.passStep i) (by simpa using h)

theorem expiryPass_of_not_due {p : Part} (h : p.alarmDue = false) : p.expiryPass = p := passSteps_of_not_due h _

theorem dueCount_le (p : Part) : p.dueCount ≤ p.clock.alarms.length := List.countP_le_length

/-- A pass whose head is due is its expiry and then a pass. -/
theorem expiryPass_of_due {p : Part} (h : p.alarmDue = true) : p.expiryPass = p.expireHead.expiryPass := by
  obtain ⟨a, l, hl, -⟩ := alarmDue_iff.1 h
  have hcount := expireHead_dueCount h
  have hle := p.dueCount_le
  have hlen : p.clock.alarms.length = l.length + 1 := by simp [hl]
  have hfirst : p.expiryPass = (List.range l.length).foldl passStep p.expireHead := by
    rw [expiryPass_eq, hlen, passSteps_length (List.range (l.length + 1)) (0 :: List.range l.length) p (by simp)]
    exact congrArg (fun q => (List.range l.length).foldl passStep q) (if_pos h)
  rw [hfirst, expiryPass_eq, expireHead_alarms hl]
  cases hb : rearm a p.clock.counter with
  | none => rfl
  | some b =>
    dsimp only
    rw [insertAlarm_length, List.range_succ, passSteps_append (by simp; omega)]

end Part

/-! ## ALARM_SET and ALARM_CLEAR -/

theorem alarmFits_iff (a : AlarmArgs) : Part.alarmFits a = true ↔ (∀ i, a.id = some i → i < 8)
    ∧ ((a.action = some .wake ∧ a.bays = []) ∨ (a.action = some .wakeSpin ∧ a.bays ≠ [] ∧ ∀ n ∈ a.bays, n < 4)) := by
  unfold Part.alarmFits
  cases a.id <;> cases a.action with
  | none => simp
  | some act => cases act <;> simp [baySetFits]

theorem alarmRefusal (p : Part) (a : AlarmArgs) : firstRefusal (p.alarmChecks a) =
    if ¬Part.alarmFits a = true then some .badRequest
    else if p.clock.valid = false then some .wrongState
    else if a.id = none ∧ 8 ≤ p.clock.alarms.length then some .full else none := by
  simp only [Part.alarmChecks, firstRefusal, Config.alarmLimit]
  by_cases hlen : p.clock.alarms.length < 8
  · have hno : ¬8 ≤ p.clock.alarms.length := Nat.not_le.2 hlen
    cases Part.alarmFits a <;> cases p.clock.valid <;> cases a.id <;> simp [hlen, hno]
  · have hno : 8 ≤ p.clock.alarms.length := Nat.le_of_not_lt hlen
    cases Part.alarmFits a <;> cases p.clock.valid <;> cases a.id <;> simp [hlen, hno]

/-- The lowest alarm id that meets a condition. -/
theorem lowestId {f : Fin 8 → Bool} {id : Fin 8} (h : f id = true) (hlower : ∀ j < id, f j = false) :
    Part.allIds.find? f = some id := by
  rw [List.find?_eq_some_iff_append]
  have hsplit : ∀ i : Fin 8, Part.allIds = Part.allIds.take i.val ++ i :: Part.allIds.drop (i.val + 1) := by decide
  have hbefore : ∀ i : Fin 8, ∀ j ∈ Part.allIds.take i.val, j < i := by decide
  exact ⟨h, _, _, hsplit id, fun j hj => by simp [hlower j (hbefore id j hj)]⟩

/-- The id an ALARM_SET uses (R167). -/
theorem alarmId_of {p : Part} {a : AlarmArgs} {id : Fin 8}
    (h : a.id = some id.val ∨ (a.id = none ∧ (∀ x ∈ p.clock.alarms, x.id ≠ id) ∧ ∀ j : Fin 8, j < id → ∃ x ∈ p.clock.alarms, x.id = j)) :
    p.alarmId a = id := by
  unfold Part.alarmId
  rcases h with h | ⟨h, hfree, hlower⟩
  · simp [h]
  · have hfind : Part.allIds.find? (fun i => p.clock.alarms.all fun x => x.id != i) = some id :=
      lowestId (by simpa using hfree) fun j hj => by simpa using hlower j hj
    simp [h, hfind]

/-- ALARM_SET that passes its checks, once its id is known (R167). -/
theorem alarmSet_of {p : Part} {a : AlarmArgs} {id : Fin 8} (who : Answerer) (hpass : firstRefusal (p.alarmChecks a) = none)
    (hid : p.alarmId a = id) : p.alarmSet a who =
      let new : Alarm := { id := id, time := a.time.toNat, interval := a.interval.toNat, spins := baySet a.bays }
      let q := p.setAlarms (Part.insertAlarm new (p.clock.alarms.filter fun x => x.id != id))
      let r := if a.time.toNat ≤ p.clock.counter then q.expiryPass else q
      r.answer who .ok (.alarmSet id ((r.clock.alarms.find? fun x => x.id == id).map fun x => x.time)) := by
  unfold Part.alarmSet
  rw [Part.checked_of_passed hpass]
  dsimp only
  rw [hid]
  rfl

theorem find_insertAlarm {a : Alarm} {l : List Alarm} (h : ∀ x ∈ l, x.id ≠ a.id) :
    (Part.insertAlarm a l).find? (fun x => x.id == a.id) = some a := by
  induction l with
  | nil => simp [Part.insertAlarm]
  | cons x l ih =>
    obtain ⟨hx, hl⟩ := List.forall_mem_cons.1 h
    unfold Part.insertAlarm
    split
    · rw [List.find?_cons_of_neg (by simpa using hx)]
      exact ih hl
    · simp

/-- An alarm already due goes ahead of a list that is not. -/
theorem insertAlarm_of_first {a : Alarm} {l : List Alarm} (h : ∀ x ∈ l, a.time < x.time) : Part.insertAlarm a l = a :: l := by
  cases l with
  | nil => rfl
  | cons x l => exact if_neg (Nat.not_le.2 (h x (by simp)))

/-- An alarm set for a time past, at the head of a list of which nothing else is due, is taken by one expiry (R167, R169). -/
theorem expiryPass_of_past {q : Part} {new : Alarm} {others : List Alarm} (hl : q.clock.alarms = new :: others)
    (hdue : new.time ≤ q.clock.counter) (hothers : ∀ x ∈ others, q.clock.counter < x.time) : q.expiryPass = q.expireHead := by
  have hhead : q.alarmDue = true := Part.alarmDue_iff.2 ⟨new, others, hl, hdue⟩
  rw [Part.expiryPass_of_due hhead]
  refine Part.expiryPass_of_not_due (Part.alarmDue_eq_false_iff.2 fun a l hal => ?_)
  have ha : a ∈ q.expireHead.clock.alarms := by rw [hal]; exact List.mem_cons_self
  rw [Part.expireHead_counter]
  rw [Part.expireHead_alarms hl] at ha
  cases hb : Part.rearm new q.clock.counter with
  | none =>
    rw [hb] at ha
    exact hothers a ha
  | some b =>
    rw [hb] at ha
    rcases (Part.mem_insertAlarm b a others).1 ha with rfl | ha
    · exact (Part.rearm_some hb).2.1
    · exact hothers a ha

/-- The time an alarm set again after an expiry at counter `v` stands at. -/
theorem rearm_time (a : Alarm) (v : Nat) : (Part.rearm a v).map (fun x => x.time) =
    if a.interval = 0 ∨ 2 ^ 32 - 1 < a.time + ((v - a.time) / a.interval + 1) * a.interval then none
    else some (a.time + ((v - a.time) / a.interval + 1) * a.interval) := by
  unfold Part.rearm
  dsimp only
  by_cases hi : a.interval = 0
  · simp [hi]
  · by_cases ht : a.time + ((v - a.time) / a.interval + 1) * a.interval ≤ Config.maxSeconds
    · have hno : ¬2 ^ 32 - 1 < a.time + ((v - a.time) / a.interval + 1) * a.interval := Nat.not_lt.2 ht
      rw [if_neg hi, if_pos ht, if_neg (not_or.2 ⟨hi, hno⟩)]
      rfl
    · rw [if_neg hi, if_neg ht, if_pos (.inr (Nat.lt_of_not_le ht))]
      rfl

/-- Where an alarm of an id stands after its expiry at the head of a list without that id. -/
theorem find_expireHead {q : Part} {new : Alarm} {others : List Alarm} (hl : q.clock.alarms = new :: others)
    (hfree : ∀ x ∈ others, x.id ≠ new.id) :
    q.expireHead.clock.alarms.find? (fun x => x.id == new.id) = Part.rearm new q.clock.counter := by
  rw [Part.expireHead_alarms hl]
  cases hb : Part.rearm new q.clock.counter with
  | none => exact List.find?_eq_none.2 fun x hx => by simpa using hfree x hx
  | some b =>
    dsimp only
    rw [← (Part.rearm_some hb).1]
    exact find_insertAlarm fun x hx => by
      rw [(Part.rearm_some hb).1]
      exact hfree x hx

/-- What ALARM_CLEAR of one id leaves and counts. -/
theorem filter_gone_length (l : List Alarm) (id : Nat) :
    (l.filter fun x => x.id.val == id).length = l.length - (l.filter fun x => x.id.val != id).length := by
  have h := List.length_eq_length_filter_add (l := l) fun x => x.id.val == id
  have hne : (fun x : Alarm => !(x.id.val == id)) = fun x => x.id.val != id := rfl
  rw [hne] at h
  omega

/-- Settles O46. -/
theorem alarmsSetAndCleared : Obligations.AlarmsSetAndCleared := by
  refine fun via s => ⟨fun a ht => ?_, fun id all ht => ?_⟩
  · have hset {q : Part} (hq : (portTook s.part (some .alarmSet) via).alarmSet a (answererOf via) = q) :
        Gives (.alarmSet via a) s q := gives_command ht rfl rfl rfl hq
    dsimp only
    rw [show s.part.clock = _ from (portTook_clock s.part (some .alarmSet) via).symm]
    generalize portTook s.part (some .alarmSet) via = p at hset ⊢
    have hcheck := alarmRefusal p a
    refine ⟨fun hwf => ?_, fun hwf hv => ?_, fun hwf hv hid hlen => ?_, fun id hwf hv hid => ?_⟩
    all_goals rw [← alarmFits_iff] at hwf
    · exact hset (Part.checked_of_refused (hcheck.trans (if_pos hwf)))
    · exact hset (Part.checked_of_refused (hcheck.trans ((if_neg (not_not.2 hwf)).trans (if_pos hv))))
    · refine hset (Part.checked_of_refused (hcheck.trans ((if_neg (not_not.2 hwf)).trans ((if_neg ?_).trans (if_pos ⟨hid, hlen⟩)))))
      simp [hv]
    · have hroom : ¬(a.id = none ∧ 8 ≤ p.clock.alarms.length) := by
        rintro ⟨hnone, hlen⟩
        rcases hid with hid | ⟨-, hlt, -⟩
        · simp [hnone] at hid
        · omega
      have hpass := hcheck.trans ((if_neg (not_not.2 hwf)).trans ((if_neg (by simp [hv])).trans (if_neg hroom)))
      have hid' : p.alarmId a = id := alarmId_of (hid.imp_right fun ⟨hnone, _, hrest⟩ => ⟨hnone, hrest⟩)
      rw [alarmSet_of _ hpass hid'] at hset
      have hfree : ∀ x ∈ p.clock.alarms.filter (fun x => x.id != id), x.id ≠ id := fun x hx => by
        simpa using (List.mem_filter.1 hx).2
      refine ⟨fun hlt => hset ?_, fun hle => hset ?_, fun hle hlater => hset ?_⟩
      · dsimp only
        rw [if_neg (by omega)]
        have hfind := find_insertAlarm (a := { id := id, time := a.time.toNat, interval := a.interval.toNat, spins := baySet a.bays })
          hfree
        rw [show (Part.setAlarms _ p).clock.alarms.find? (fun x => x.id == id) = _ from hfind]
        rfl
      · dsimp only
        rw [if_pos hle]
        rfl
      · have hothers : ∀ x ∈ p.clock.alarms.filter (fun x => x.id != id), p.clock.counter < x.time :=
          fun x hx => hlater x (List.mem_filter.1 hx).1
        dsimp only
        rw [if_pos hle, insertAlarm_of_first fun x hx => Nat.lt_of_le_of_lt hle (hothers x hx)]
        rw [expiryPass_of_past (q := p.setAlarms _) rfl hle hothers,
          find_expireHead (q := p.setAlarms _) (new := { id := id, time := _, interval := _, spins := _ }) rfl hfree, rearm_time]
        rfl
  · have hclear {q : Part} (hq : (portTook s.part (some .alarmClear) via).alarmClear id all (answererOf via) = q) :
        GivesQuietly (.alarmClear via id all) s q := givesQuietly_command ht rfl rfl rfl hq
    dsimp only
    rw [show s.part.clock = _ from (portTook_clock s.part (some .alarmClear) via).symm]
    generalize portTook s.part (some .alarmClear) via = p at hclear ⊢
    refine ⟨fun h => hclear (if_pos h), fun h hid => hclear ?_, fun h hid => hclear ?_⟩
    · exact (if_neg (by simp [h])).trans (if_neg (by omega))
    · refine (if_neg (by simp [h])).trans ((if_pos hid).trans ?_)
      rw [← filter_gone_length]
      rfl

end Sys2Proof.Machine
end

section
/-! PROOFS. The tick, the expiry pass and the main domain's timers (O45). -/

namespace Sys2Proof.Machine

open Sys2Proof

/-! ## Events of the clock -/

theorem gives_of_clock {c : Instr} {s : State} {f : Part → Part} {q : Part} (hx : exec c s = onClock f s)
    (hh : s.part.held = false) (hq : f s.part.begin = q) : Gives c s q := by
  refine gives_of_event (f := f) (hx.trans ?_) hh hq
  unfold onClock onEvent change Part.clockEvent
  rw [if_neg (by simp [hh])]

/-- While the main domain is held, an event of the clock is its own effect and the outputs that follow. -/
theorem clock_of_held {c : Instr} {s : State} {f : Part → Part} {q : Part} (hx : exec c s = onClock f s)
    (hh : s.part.held = true) (hq : f s.part.begin = q) : exec c s = .next { s with part := q.finish } := by
  have hpart : Part.clockEvent f s.part = q.finish := (if_pos hh).trans (congrArg Part.finish hq)
  rw [hx, onClock, change, hpart]

/-! ## An expired alarm's action (R170) -/

theorem handAlarm_of_held {p : Part} (a : Alarm) (h : p.held = true) :
    p.handAlarm a = if ∃ u ∈ p.clock.undelivered, u.id = a.id then p
      else { p with clock := { p.clock with undelivered := p.clock.undelivered ++ [{ id := a.id, spins := a.spins }] } } := by
  unfold Part.handAlarm
  rw [if_pos h]
  exact if_congr (by simp) rfl rfl

theorem handAlarm_of_running {p : Part} (a : Alarm) (h : p.held = false) :
    p.handAlarm a = if p.box.st = none then p.hold (.alarm a.id a.spins) else p.takeAlarm a.id a.spins := by
  unfold Part.handAlarm
  rw [if_neg (by simp [h])]
  exact if_congr (by simp) rfl rfl

/-! ## The timers of a bay -/

theorem tickStart_of_running {p : Part} {b : Fin 4} {k : Nat} (h : (p.bay b).startLeft = some k) :
    p.tickStart b =
      let q : Part := { p with bays := p.bays.set b { p.bay b with startLeft := some (k - 1) } }
      if k ≤ 1 ∧ (p.bay b).power = .starting then bayFaulted q b .start else q := by
  have hzero : Part.tickDown k = 0 ↔ k ≤ 1 := by unfold Part.tickDown; omega
  have hpower : ((p.modBay b fun x => { x with startLeft := some (Part.tickDown k) }).bay b).power = (p.bay b).power := by
    rw [Part.bay_modBay]
  unfold Part.tickStart
  rw [h]
  dsimp only
  rw [if_congr hzero rfl rfl]
  by_cases hk : k ≤ 1
  · rw [if_pos hk]
    unfold Part.startFails
    rw [hpower]
    by_cases hp : (p.bay b).power = .starting
    · rw [if_pos hp, if_pos ⟨hk, hp⟩]
      exact Part.recordError_enterFault_eq ..
    · rw [if_neg hp, if_neg fun h => hp h.2]
      rfl
  · rw [if_neg hk, if_neg fun h => hk h.1]
    rfl

/-- The idle counter of a quiet bay (R86). -/
theorem tickIdle_of_quiet {p : Part} {b : Fin 4} {n : Nat} (h : (p.bay b).quiet = true)
    (hn : n = if (p.bay b).idle < 65535 then (p.bay b).idle + 1 else (p.bay b).idle) :
    p.tickIdle b =
      if (p.bay b).profile.idleStandby ≠ 0 ∧ (p.bay b).profile.idleStandby ≤ n then
        let q := ({ p with bays := p.bays.set b { p.bay b with idle := n, power := .stopping } } : Part).bayLeavesReady b
        if (p.bay b).link = .locked then (q.modBay b fun y => { y with inFlight := .goStandby }).emit (.drive b .goStandby) else q
      else { p with bays := p.bays.set b { p.bay b with idle := n } } := by
  subst hn
  have hquiet (m : Nat) : ((p.modBay b fun x => { x with idle := m }).bay b).quiet = true := by
    rw [Part.bay_modBay]
    exact h
  unfold Part.tickIdle
  dsimp only
  rw [if_pos h]
  refine if_congr Iff.rfl ?_ rfl
  unfold Part.stopOrder
  rw [stopBy_of_quiet (hquiet _), Part.modBay_modBay, Part.bay_modBay]
  rfl

/-- The idle counter of a bay in STANDBY (R87). -/
theorem tickIdle_of_standby {p : Part} {b : Fin 4} {n : Nat} (h : (p.bay b).power = .standby)
    (hn : n = if (p.bay b).idle < 65535 then (p.bay b).idle + 1 else (p.bay b).idle) :
    p.tickIdle b =
      if (p.bay b).profile.mayPowerOff = true ∧ (p.bay b).profile.idleOff ≠ 0 ∧ (p.bay b).profile.idleOff ≤ n then
        { p with bays := p.bays.set b { p.bay b with idle := n, power := .off, link := .down } }
      else { p with bays := p.bays.set b { p.bay b with idle := n } } := by
  subst hn
  have hquiet : ¬(p.bay b).quiet = true := fun hq => by simp [quiet_power hq] at h
  have hpower (m : Nat) : ((p.modBay b fun x => { x with idle := m }).bay b).power = .standby := by
    rw [Part.bay_modBay]
    exact h
  unfold Part.tickIdle
  dsimp only
  rw [if_neg hquiet, if_pos h]
  refine if_congr Iff.rfl ?_ rfl
  unfold Part.powerOffOrder
  rw [if_pos (hpower _), Part.modBay_modBay]
  rfl

/-! ## The patrol timer -/

/-- Whether a compare chunk that falls due asks for the window's bays (R117). -/
def PassWakes (p : Part) (v : Window) : Prop :=
  (∃ r, v.patrol = some r ∧ r.region = 0 ∧ r.chunk = 0) ∧ v.wakesAttr = true ∧ v.lost = none ∧ p.box.st ≠ some .dormant

/-- The part once a compare chunk of window `w` has fallen due, before the starts it asks for (R116). -/
def patrolDued (p : Part) (w : Fin 16) : Part := { p with
  windows := p.windows.set w { p.window w with timer := 0, due := true }
  engine := { p.engine with seek := p.engine.seek || !(p.window w).due } }

theorem passStarts_of {q : Part} {w : Fin 16} (hst : (q.window w).st = .opened) :
    (PassWakes q (q.window w) → q.passStarts w = (q.wakeBay ((q.window w).copy .primary).bay).wakeBay ((q.window w).copy .secondary).bay)
    ∧ (¬PassWakes q (q.window w) → q.passStarts w = q) := by
  unfold Part.passStarts
  dsimp only
  refine ⟨fun ⟨⟨r, hr, hregion, hchunk⟩, hwakes, hlost, hbox⟩ => ?_, fun hno => ?_⟩
  · rw [hr]
    exact if_pos ⟨hregion, hchunk, hwakes, hst, by simp [hlost], hbox⟩
  · cases hp : (q.window w).patrol with
    | none => rfl
    | some r =>
      exact if_neg fun ⟨hregion, hchunk, hwakes, _, hlost, hbox⟩ =>
        hno ⟨⟨r, hp, hregion, hchunk⟩, hwakes, by simpa using hlost, hbox⟩

theorem patrolFallsDue_of {p : Part} {w : Fin 16} (hst : (p.window w).st = .opened) :
    (PassWakes p (p.window w) → p.patrolFallsDue w = ((patrolDued p w).wakeBay ((p.window w).copy .primary).bay).wakeBay
      ((p.window w).copy .secondary).bay)
    ∧ (¬PassWakes p (p.window w) → p.patrolFallsDue w = patrolDued p w) := by
  have hdued : p.patrolFallsDue w = (patrolDued p w).passStarts w := by
    unfold Part.patrolFallsDue
    dsimp only
    refine congrArg (fun q : Part => q.passStarts w) ?_
    cases hd : (p.window w).due <;> simp [patrolDued, hd, Part.modWindow, Part.seekNext]
  have hwindow : (patrolDued p w).window w = { p.window w with timer := 0, due := true } := by simp [patrolDued, Part.window]
  have hstarts := passStarts_of (q := patrolDued p w) (w := w) (by rw [hwindow]; exact hst)
  rw [hwindow] at hstarts
  rw [hdued]
  exact hstarts

theorem patrolRuns_iff (v : Window) : Part.patrolRuns v = true ↔ v.st = .opened ∧ v.patrol.isSome = true ∧ v.interval ≠ 0 := by
  simp [Part.patrolRuns, and_assoc]

theorem tickSp_of {p : Part} {n : Nat} (h : p.power.tSpLeft = some n) :
    p.tickSp = { p with power := { p.power with tSpLeft := if n ≤ 1 then none else some (n - 1) } } := by
  have hzero : Part.tickDown n = 0 ↔ n ≤ 1 := by unfold Part.tickDown; omega
  unfold Part.tickSp
  rw [h]
  dsimp only
  rw [if_congr hzero rfl rfl]
  split <;> rfl

theorem tickGrace_of {p : Part} {n : Nat} (h : p.box.grace = some n) :
    p.tickGrace = if ¬(p.box.st = some .draining ∧ p.box.phase = some .grace) then p
      else if n ≤ 1 then p.graceEnds else { p with box := { p.box with grace := some (n - 1) } } := by
  have hzero : Part.tickDown n = 0 ↔ n ≤ 1 := by unfold Part.tickDown; omega
  have hgrace : (!p.inGrace) = true ↔ ¬(p.box.st = some .draining ∧ p.box.phase = some .grace) := by
    rw [not_and_or]
    simp [Part.inGrace]
  unfold Part.tickGrace
  rw [h]
  exact if_congr hgrace rfl (if_congr hzero rfl rfl)

theorem tickResume_of {p : Part} {n : Nat} (h : p.box.resumeCount = some n) :
    p.tickResume = if ¬(p.box.st = some .waking ∧ p.power.spRail = true) then p
      else if p.box.settings.resumeLimit ≤ n + 1 then p.resumeExpires
      else { p with box := { p.box with resumeCount := some (n + 1) } } := by
  have hcounts : (p.box.st ≠ some .waking ∨ (!p.power.spRail) = true) ↔ ¬(p.box.st = some .waking ∧ p.power.spRail = true) := by
    rw [not_and_or]
    simp
  unfold Part.tickResume
  rw [h]
  exact if_congr hcounts rfl rfl

/-- The timers of one bay (R79, R86, R87). -/
theorem bayTimers (p : Part) (b : Fin 4) :
    let x := p.bay b
    let set (y : Bay) : Part := { p with bays := p.bays.set b y }
    let n := if x.idle < 65535 then x.idle + 1 else x.idle
    (x.startLeft = none → p.tickStart b = p)
    ∧ (∀ k, x.startLeft = some k →
      ((1 < k ∨ x.power ≠ .starting) → p.tickStart b = set { x with startLeft := some (k - 1) })
      ∧ (k ≤ 1 → x.power = .starting → p.tickStart b = bayFaulted (set { x with startLeft := some (k - 1) }) b .start))
    ∧ (x.quiet = true →
      ((x.profile.idleStandby = 0 ∨ n < x.profile.idleStandby) → p.tickIdle b = set { x with idle := n })
      ∧ (x.profile.idleStandby ≠ 0 → x.profile.idleStandby ≤ n →
        let q := (set { x with idle := n, power := .stopping }).bayLeavesReady b
        p.tickIdle b = (if x.link = .locked
          then (q.modBay b fun y => { y with inFlight := .goStandby }).emit (.drive b .goStandby) else q)))
    ∧ (x.power = .standby →
      ((x.profile.mayPowerOff = false ∨ x.profile.idleOff = 0 ∨ n < x.profile.idleOff) → p.tickIdle b = set { x with idle := n })
      ∧ (x.profile.mayPowerOff = true → x.profile.idleOff ≠ 0 → x.profile.idleOff ≤ n →
        p.tickIdle b = set { x with idle := n, power := .off, link := .down }))
    ∧ (x.quiet = false → x.power ≠ .standby → p.tickIdle b = p) := by
  refine ⟨fun h => ?_, fun k h => ⟨fun hno => ?_, fun hk hp => ?_⟩, fun h => ⟨fun hno => ?_, fun hset hreach => ?_⟩,
    fun h => ⟨fun hno => ?_, fun hmay hset hreach => ?_⟩, fun hq hp => ?_⟩
  · unfold Part.tickStart
    rw [h]
  · refine (tickStart_of_running h).trans (if_neg ?_)
    rintro ⟨hk, hp⟩
    exact hno.elim (by omega) fun h => h hp
  · exact (tickStart_of_running h).trans (if_pos ⟨hk, hp⟩)
  · exact (tickIdle_of_quiet h rfl).trans (if_neg fun ⟨hset, hreach⟩ => hno.elim hset fun h => by omega)
  · exact (tickIdle_of_quiet h rfl).trans (if_pos ⟨hset, hreach⟩)
  · refine (tickIdle_of_standby h rfl).trans (if_neg ?_)
    rintro ⟨hmay, hset, hreach⟩
    rcases hno with hno | hno | hno
    · simp [hmay] at hno
    · exact hset hno
    · omega
  · exact (tickIdle_of_standby h rfl).trans (if_pos ⟨hmay, hset, hreach⟩)
  · exact (if_neg (by simp [hq])).trans (if_neg hp)

/-- Settles O45. -/
theorem clockAdvancesAndExpires : Obligations.ClockAdvancesAndExpires := by
  refine ⟨fun s => ⟨fun hh hs => ?_, fun hh hs => ?_, fun hh a l hl hdue => ?_, fun hh hlater => ?_⟩, fun via v s ht => ?_,
    fun p => ⟨fun a l hl hdue => ?_, fun h => ?_, fun hs => ?_, fun a l hl hi => ?_⟩, fun p a => ⟨fun hh => ⟨fun hu => ?_, fun hu => ?_⟩,
      fun hh => ⟨fun hst => ?_, fun hst => ?_, fun hsome hst => ?_⟩⟩, fun p => ⟨rfl, fun b => ?_, ?_, ?_, ?_, fun w => ?_⟩⟩
  · refine gives_of_clock rfl hh ?_
    rw [if_neg (by simp [Part.begin, hs]), if_neg (by simp [Part.begin, hh])]
    rfl
  · refine clock_of_held rfl hh ?_
    exact (if_neg (by simp [Part.begin, hs])).trans (if_pos hh)
  · refine gives_of_clock rfl hh (if_pos ?_)
    exact Part.alarmDue_iff.2 ⟨a, l, hl, hdue⟩
  · have hnone : s.part.begin.alarmDue = false := Part.alarmDue_eq_false_iff.2 hlater
    exact gives_of_clock rfl hh (if_neg (by simp [hnone]))
  · exact gives_command ht rfl rfl rfl rfl
  · exact Part.expiryPass_of_due (Part.alarmDue_iff.2 ⟨a, l, hl, hdue⟩)
  · exact Part.expiryPass_of_not_due (Part.alarmDue_eq_false_iff.2 h)
  · exact ⟨Part.expiryPass_counter .., Part.expiryPass_after hs⟩
  · exact Part.expireHead_of_rearm_none hl (if_pos hi)
  · exact (handAlarm_of_held a hh).trans (if_pos hu)
  · exact (handAlarm_of_held a hh).trans (if_neg fun ⟨u, hm, he⟩ => hu u hm he)
  · exact (handAlarm_of_running a hh).trans (if_pos hst)
  · exact (handAlarm_of_running a hh).trans ((if_neg (by simp [hst])).trans
      (congrArg (fun q : Part => q.requestStarts a.spins) (if_pos hst)))
  · exact (handAlarm_of_running a hh).trans ((if_neg fun h => by simp [h] at hsome).trans
      (congrArg (fun q : Part => q.requestStarts a.spins) (if_neg hst)))
  · exact bayTimers p b
  · refine ⟨fun h => ?_, fun n h => tickSp_of h⟩
    unfold Part.tickSp
    rw [h]
  · refine ⟨fun h => ?_, fun n h hcounts => ⟨fun hn => ?_, fun hn => ?_⟩⟩
    · cases hg : p.box.grace with
      | none => unfold Part.tickGrace; rw [hg]
      | some n => exact (tickGrace_of hg).trans (if_pos (h.resolve_left (by simp [hg])))
    · exact (tickGrace_of h).trans ((if_neg (not_not.2 hcounts)).trans (if_neg (by omega)))
    · exact (tickGrace_of h).trans ((if_neg (not_not.2 hcounts)).trans (if_pos hn))
  · refine ⟨fun h => ?_, fun n h hcounts => ⟨fun hn => ?_, fun hn => ?_⟩⟩
    · cases hg : p.box.resumeCount with
      | none => unfold Part.tickResume; rw [hg]
      | some n => exact (tickResume_of hg).trans (if_pos (h.resolve_left (by simp [hg])))
    · exact (tickResume_of h).trans ((if_neg (not_not.2 hcounts)).trans (if_neg (by omega)))
    · exact (tickResume_of h).trans ((if_neg (not_not.2 hcounts)).trans (if_pos hn))
  · refine ⟨fun h => if_neg fun hr => h ((patrolRuns_iff _).1 hr), fun h hn => ?_, fun h hn => ?_⟩
    · exact (if_pos ((patrolRuns_iff _).2 h)).trans (if_neg (by omega))
    · refine (if_pos ((patrolRuns_iff _).2 h)).trans ((if_pos hn).trans ?_)
      obtain ⟨hwake, hstay⟩ := patrolFallsDue_of h.1
      split
      next hw => exact hwake hw
      next hw => exact hstay hw

end Sys2Proof.Machine
end

section
/-! PROOFS. Answers and completions (O49), notices and modes (O50), what the ports answer by themselves (O51), the management
port's transactions (O52), the set-up words and notices (O53), the fetch of records (O54). -/

namespace Sys2Proof.Machine

open Sys2Proof

/-! ## Answers and completions -/

theorem answer_mp_of_executing {p : Part} (st : Status) (ans : Answer) (h : p.mp.st = .executing) :
    p.answer .mp st ans =
      let r : Reply := {
        seq := p.mp.execSeq, status := st, length := (bytesOfAnswer ans).length, bytes := (bytesOfAnswer ans).take 4096 }
      let q : Part := { p with mp := { p.mp with st := .replyReady, execKind := none, reply := some r, readPos := 0 } }
      match p.mp.heldRead with
      | none => q
      | some n => q.sendReply n := if_pos h

/-- A reply is sent from its read position, and is consumed with its check byte (R191). -/
theorem sendReply_eq {p : Part} {r : Reply} (n : Nat) (hr : p.mp.reply = some r) :
    let rest := (replyFrame r).drop p.mp.readPos
    p.sendReply n = if rest.length ≤ n then { p with
        out := p.out ++ [.mpBytes rest]
        mp := { p.mp with st := .idle, reply := none, late := false, readPos := 0, heldRead := none } }
      else { p with
        out := p.out ++ [.mpBytes (rest.take n)]
        mp := { p.mp with readPos := p.mp.readPos + n, heldRead := none } } := by
  unfold Part.sendReply
  rw [hr]
  dsimp only
  split
  next hlen =>
    rw [List.take_of_length_le hlen]
    rfl
  · rfl

theorem sendReply_of_start {p : Part} {r : Reply} (n : Nat) (hr : p.mp.reply = some r) (hpos : p.mp.readPos = 0) :
    p.sendReply n = if (replyFrame r).length ≤ n then { p with
        out := p.out ++ [.mpBytes (replyFrame r)]
        mp := { p.mp with st := .idle, reply := none, late := false, readPos := 0, heldRead := none } }
      else { p with
        out := p.out ++ [.mpBytes ((replyFrame r).take n)]
        mp := { p.mp with readPos := n, heldRead := none } } := by
  rw [sendReply_eq n hr, hpos, List.drop_zero, Nat.zero_add]

theorem postOne_eq {p : Part} {c : Completion} {rest : List Completion} (h : p.pp.list = c :: rest) :
    let last : Prop := p.pp.compPos + 1 = p.pp.compSize
    p.postOne = { p with
      out := p.out ++ [.completion (p.pp.compBase + 16 * p.pp.compPos) (completionBytes c p.pp.phase false)]
      pp := { p.pp with
        list := rest
        compPos := if last then 0 else p.pp.compPos + 1
        phase := if last then !p.pp.phase else p.pp.phase
        owed := p.pp.owed - 1
        batch := true }
      box := if c.isSleep = true ∧ p.box.st = some .draining ∧ p.box.phase = some .grace ∧ p.box.grace = none
        then { p.box with grace := some p.box.settings.grace } else p.box } := by
  unfold Part.postOne
  rw [h]
  by_cases hlast : p.pp.compPos + 1 = p.pp.compSize <;>
    by_cases hgrace : c.isSleep = true ∧ p.box.st = some .draining ∧ p.box.phase = some .grace ∧ p.box.grace = none <;>
    simp [hlast, hgrace, Part.emit, Part.inGrace, Part.beginGrace, and_assoc]

/-- Settles O49. -/
theorem answersReachTheirPort : Obligations.AnswersReachTheirPort := by
  refine ⟨fun p st ans => ⟨fun h hread => ?_, fun n h hread => ⟨fun hlen => ?_, fun hlen => ?_⟩, fun tag addr len hset => ?_,
    fun tag hdp => if_pos hdp, rfl⟩, fun p c rest hlist hset hroom => ?_⟩
  · rw [answer_mp_of_executing st ans h, hread]
  · rw [answer_mp_of_executing st ans h, hread]
    exact (sendReply_of_start n rfl rfl).trans (if_pos hlen)
  · rw [answer_mp_of_executing st ans h, hread]
    exact (sendReply_of_start n rfl rfl).trans (if_neg (Nat.not_le.2 hlen))
  · unfold Part.answer Part.answerFrom Part.handPp
    dsimp only
    by_cases hbuf : inBuffer ans = true ∧ len ≠ 0
    · rw [if_pos hbuf, if_pos hbuf]
      exact if_neg hset
    · rw [if_neg hbuf, if_neg hbuf, List.append_nil]
      exact if_neg hset
  · have hpost : p.mayPost = true := by
      have hunread : p.unread + 1 < p.pp.compSize := by
        have : p.unread < p.pp.compSize - 1 := hroom
        omega
      simp [Part.mayPost, Part.ringRoom, hset, hlist, hunread]
    exact (if_pos hpost).trans (congrArg some (postOne_eq hlist))

/-! ## Notices and modes -/

theorem raise_eq (p : Part) (k : Notice) : p.raise k = { p with
    pp := { p.pp with notices := if k ∈ p.pp.notices then p.pp.notices else p.pp.notices ++ [k] }
    mp := { p.mp with notices := if k ∈ p.mp.notices then p.mp.notices else p.mp.notices ++ [k] }
    out := p.out ++ (if k ∉ p.pp.notices ∧ p.pp.setup = .set ∧ k ∉ p.pp.masked then [.noticeInterrupt] else []) } := by
  unfold Part.raise
  dsimp only
  split
  · rfl
  · rw [List.append_nil]

theorem noticesLeft (w : Word16) (l : List Notice) :
    (l.filter fun k => k ∉ noticesOfWord w) = l.filter fun k => !w.getLsbD (noticeBit k) := by
  have hall : ∀ k : Notice, k ∈ allNotices := by intro k; cases k <;> decide
  refine List.filter_congr fun k _ => ?_
  simp [noticesOfWord, hall]

/-- Settles O50. -/
theorem noticesAndMode : Obligations.NoticesAndMode := by
  refine ⟨raise_eq, fun via w s ht => ⟨?_, ?_⟩, fun seq s ht => ⟨fun m => ?_, ?_⟩⟩
  · rintro seq rfl
    refine givesQuietly_command ht rfl rfl rfl ?_
    dsimp only
    rw [← noticesLeft]
    rfl
  · rintro tag addr len rfl
    refine givesQuietly_command ht rfl rfl rfl ?_
    dsimp only
    rw [← noticesLeft]
    rfl
  · exact givesQuietly_command ht rfl rfl rfl rfl
  · exact givesQuietly_command ht rfl rfl rfl rfl

/-! ## What the ports answer by themselves -/

/-- A block request is no other command's kind. -/
theorem askOf_eq_none {c : Cmd} (h : isBlockRequest c = false) (port : ReqPort) (tag : Tag) : Part.askOf port tag c = none := by
  cases c <;> simp [isBlockRequest] at h <;> rfl

theorem askOf_isSome {c : Cmd} (h : isBlockRequest c = true) (port : ReqPort) (tag : Tag) :
    ∃ a, Part.askOf port tag c = some a := by
  cases c <;> simp [isBlockRequest] at h <;> exact ⟨_, rfl⟩

section
variable {p : Part} {via : Via} {c : Cmd}

/-- A port that may take a record or frame takes it and hands it on. -/
theorem issue_of_ready (h : portReady p via = true) : Part.issue via c { p with out := [] } = match via with
    | .pp tag addr len => (portTook p (cmdKind c) via).handOnPp tag addr len c
    | .dp tag => (portTook p (cmdKind c) via).handOnDp tag c
    | .mp _ => (portTook p (cmdKind c) via).handOnMp c := by
  cases via with
  | pp tag addr len => exact if_pos h
  | dp tag => exact if_pos h
  | mp seq => exact if_neg (by simpa [portReady] using h)

end

/-- The bytes of a whole frame reach the management port, which takes it and hands its command on or answers it. -/
theorem writeTransaction_of {p : Part} {f : List Byte} (hst : p.mp.st ≠ .executing) (hwhole : 5 + leField f 2 2 ≤ f.length) :
    Part.writeTransaction f { p with out := [] } =
      match askOfFrame f with
      | .command c => (portTook p (kindOfCode (byteAt f 0)) (.mp (byteAt f 1))).handOnMp c
      | .refuse st => (portTook p (kindOfCode (byteAt f 0)) (.mp (byteAt f 1))).reply .mp st :=
  (if_neg hst).trans (if_neg (by simp only [wholeFrame, frameOperands, hwhole]; decide))

/-- Settles O51. -/
theorem portsAnswerThemselves : Obligations.PortsAnswerThemselves := by
  refine ⟨fun via code s hh hready => ?_, fun bytes s hh hst => ?_, fun via c k p hk hready hmay hblock => ?_,
    fun seq c k p hk hst hbox hbusy => ?_, fun tag addr len c k p hk hblock hready hbox => ?_⟩
  · refine gives_of_quietEvent rfl hh ((issue_of_ready hready).trans ?_)
    cases via <;> rfl
  · intro n hlen hcheck
    refine gives_of_event rfl hh ((writeTransaction_of hst hlen).trans ?_)
    have hask : askOfFrame bytes = .refuse .badRequest := if_pos (.inl (by simpa [frameAgrees, frameOperands] using hcheck))
    rewrite [hask]
    rfl
  · rw [issue_of_ready hready, hk]
    have hnone : (∀ seq, via ≠ .mp seq) → isBlockRequest c = false := fun hvia => by
      rw [← Bool.not_eq_true]
      intro hb
      obtain ⟨seq, hseq⟩ := hblock hb
      exact hvia seq hseq
    cases via with
    | pp tag addr len =>
      have hask := askOf_eq_none (hnone nofun) .pp tag
      have hmay' : ppMayIssue k = false := hmay
      simp [Part.handOnPp, hask, hk, hmay', answererOf]
    | dp tag =>
      have hask := askOf_eq_none (hnone nofun) .dp tag
      have hmay' : dpMayIssue k = false := hmay
      simp [Part.handOnDp, hask, hk, hmay', answererOf]
    | mp seq =>
      have hmay' : mpMayIssue k = false := hmay
      simp [Part.handOnMp, hk, hmay', answererOf]
  · rw [issue_of_ready (via := .mp seq) (by simpa [portReady] using hst), hk]
    have hmay : mpMayIssue k = true ∧ Part.busyInLoad k = true := by
      simp only [List.mem_cons, List.not_mem_nil, or_false] at hbusy
      rcases hbusy with rfl | rfl | rfl | rfl | rfl | rfl | rfl | rfl | rfl | rfl <;> exact ⟨rfl, rfl⟩
    have hbox' : (portTook p (some k) (.mp seq)).box.st = none := hbox
    simp only [Part.handOnMp, hk, hmay, hbox']
    rfl
  · rw [issue_of_ready (via := .pp tag addr len) hready, hk]
    obtain ⟨a, ha⟩ := askOf_isSome hblock .pp tag
    have hbox' : (portTook p (some k) (.pp tag addr len)).box.st = some .waking := hbox
    simp only [Part.handOnPp, ha, hbox', if_pos]

/-! ## The management port's transactions -/

@[simp] theorem cmdKind_cmdOfOperands (k : Kind) (ops : List Byte) : cmdKind (cmdOfOperands k ops) = some k := by
  cases k <;> rfl

/-- Settles O52: a write by its bytes, the operands that the manual lays out, a read by the port's state. -/
theorem managementTransactions : Obligations.ManagementTransactions := by
  refine ⟨fun bytes s hh => ⟨fun hst => ?_, fun hst => ⟨fun hshort => ?_, fun hwhole hcheck => ?_⟩⟩, fun ops => ?_, fun s hh => ?_⟩
  · exact gives_of_event rfl hh (if_pos hst)
  · refine gives_of_event rfl hh ((if_neg hst).trans (if_pos ?_))
    simp only [wholeFrame, frameOperands, Nat.not_le.2 hshort]
    decide
  · have hagrees : frameAgrees bytes = true := by simpa [frameAgrees, frameOperands] using hcheck
    refine ⟨fun hbad => ?_, fun k hn hk => ?_⟩
    · refine gives_of_event rfl hh ((writeTransaction_of hst hwhole).trans ?_)
      have hask : askOfFrame bytes = .refuse .badRequest := by
        by_cases hlong : 1024 < leField bytes 2 2
        · exact if_pos (.inr hlong)
        · have hk : kindOfCode (byteAt bytes 0) = none := hbad.resolve_left hlong
          refine (if_neg (by rw [hagrees]; exact not_or.2 ⟨by decide, hlong⟩)).trans ?_
          rewrite [hk]
          rfl
      rewrite [hask]
      rfl
    · refine gives_of_event rfl hh ((writeTransaction_of hst hwhole).trans ?_)
      have hask : askOfFrame bytes = .command (cmdOfOperands k ((bytes.drop 4).take (leField bytes 2 2))) := by
        refine (if_neg (by rw [hagrees]; exact not_or.2 ⟨by decide, Nat.not_lt.2 hn⟩)).trans ?_
        rewrite [show kindOfCode (byteAt bytes 0) = some k from hk]
        rfl
      rewrite [hask, issue_of_ready (via := .mp _) (by simpa [portReady] using hst), cmdKind_cmdOfOperands,
        show kindOfCode (byteAt bytes 0) = some k from hk]
      rfl
  · refine ⟨rfl, ?_, fun h => ?_, fun h => ?_, fun h => ?_, fun h => ?_⟩
    · simp [cmdOfOperands, leField, byteAt, List.range_succ, leNat]
    · simp [cmdOfOperands, h]
    · simp [cmdOfOperands, h]
    · have h0 : byteAt ops 0 ≠ 0 := fun h0 => by simp [h0] at h
      have h1 : byteAt ops 0 ≠ 1 := fun h1 => by simp [h1] at h
      exact congrArg Cmd.mpMode ((if_neg h0).trans (if_neg h1))
    · have hclear : wakeOfBytes (ops.drop 1) = none := by
        refine if_neg ?_
        have hfirst : byteAt (ops.drop 1) 0 = byteAt ops 1 := by simp [byteAt]
        rw [hfirst, h]
        decide
      unfold cmdOfOperands
      dsimp only
      rw [hclear]
      rfl
  · refine ⟨fun hst => ?_, ?_, fun n => ⟨fun hst => ?_, fun hst hmode => ?_, fun hst hmode hread => ?_, fun hst hread => ?_,
      fun r hst hr => ⟨fun hn => ?_, fun hn => ?_⟩⟩⟩
    · exact gives_of_quietEvent rfl hh (if_pos hst)
    · exact gives_of_quietEvent rfl hh rfl
    · refine gives_of_quietEvent rfl hh ?_
      unfold Part.mpRead
      rewrite [show s.part.begin.mp.st = .idle from hst]
      rfl
    · refine gives_of_quietEvent rfl hh ?_
      unfold Part.mpRead
      rewrite [show s.part.begin.mp.st = .executing from hst, show s.part.begin.mp.mode = .notify from hmode]
      rfl
    · refine gives_of_quietEvent rfl hh ?_
      unfold Part.mpRead
      rewrite [show s.part.begin.mp.st = .executing from hst, show s.part.begin.mp.mode = .hold from hmode,
        show s.part.begin.mp.heldRead = none from hread]
      rfl
    · refine gives_of_quietEvent rfl hh ?_
      unfold Part.holdTimeout
      rewrite [show s.part.begin.mp.st = .executing from hst, show s.part.begin.mp.heldRead = some n from hread]
      rfl
    · refine gives_of_quietEvent rfl hh ?_
      unfold Part.mpRead
      rewrite [show s.part.begin.mp.st = .replyReady from hst]
      exact (sendReply_eq (p := s.part.begin) n hr).trans (if_neg (Nat.not_le.2 hn))
    · refine gives_of_quietEvent rfl hh ?_
      unfold Part.mpRead
      rewrite [show s.part.begin.mp.st = .replyReady from hst]
      exact (sendReply_eq (p := s.part.begin) n hr).trans (if_pos hn)

/-! ## The set-up words and the notices -/

theorem setupFits_iff (q : PpPort) : Part.setupFits q = true ↔
    q.subBase % 64 = 0 ∧ q.compBase % 16 = 0 ∧ 2 ≤ q.subSize ∧ q.subSize ≤ 1024 ∧ 2 ≤ q.compSize ∧ q.compSize ≤ 1024 := by
  simp [Part.setupFits, and_assoc]

theorem unmaskedNotice_iff (p : Part) : p.unmaskedNotice = true ↔ ∃ k ∈ p.pp.notices, k ∉ p.pp.masked := by
  simp [Part.unmaskedNotice]

/-- The ring start with values that can start the rings (R174). -/
theorem ringStart_of_fits {p : Part} (hset : p.pp.setup = .unset) (hfits : Part.setupFits p.pp = true) :
    p.ringStart 1 = { p with
      pp := { p.pp with setup := .set, tail := 0, fetchPos := 0, head := 0, compPos := 0, phase := true }
      out := p.out ++ if ∃ k ∈ p.pp.notices, k ∉ p.pp.masked then [.noticeInterrupt] else [] } := by
  refine (if_neg (by simp [hset])).trans ((if_pos hfits).trans ?_)
  by_cases hn : ∃ k ∈ p.pp.notices, k ∉ p.pp.masked
  · rw [if_pos hn]
    exact if_pos ((unmaskedNotice_iff _).2 hn)
  · rw [if_neg hn, List.append_nil]
    exact if_neg (mt (unmaskedNotice_iff _).1 hn)

theorem mem_noticesOfWord (w : Word16) (k : Notice) : k ∈ noticesOfWord w ↔ w.getLsbD (noticeBit k) = true := by
  have hall : k ∈ allNotices := by cases k <;> decide
  simp [noticesOfWord, hall]

/-- Settles O53. -/
theorem setUpAndNotices : Obligations.SetUpAndNotices := by
  refine ⟨fun p w => ⟨fun hoff => ?_, fun hon => ⟨?_, ?_⟩⟩,
    fun s v hh => ⟨fun hset => ⟨?_, ?_, ?_, ?_, fun hfits => ?_, fun hfits => ?_, fun hv => ?_, ?_, ?_⟩,
      fun hset => ⟨fun w => ?_, ?_⟩, fun hset => ⟨fun hv => ?_, fun hv => ?_⟩, fun hset => ⟨fun hc => ?_, fun hc => ?_⟩,
      fun w => ?_⟩⟩
  · simp [Part.readWord, hoff]
  · simp [Part.readWord, hon]
  · simp [Part.readWord, hon]
  · exact gives_of_quietEvent rfl hh (if_neg (not_not.2 hset))
  · exact gives_of_quietEvent rfl hh (if_neg (not_not.2 hset))
  · exact gives_of_quietEvent rfl hh (if_neg (not_not.2 hset))
  · exact gives_of_quietEvent rfl hh (if_neg (not_not.2 hset))
  · exact gives_of_quietEvent rfl hh (ringStart_of_fits hset ((setupFits_iff _).2 hfits))
  · refine gives_of_quietEvent rfl hh ((if_neg (by simpa [Part.begin] using hset)).trans (if_neg ?_))
    exact mt (setupFits_iff _).1 hfits
  · exact gives_of_quietEvent rfl hh (if_pos (.inr hv))
  · exact gives_of_quietEvent rfl hh (if_pos (by simp [Part.begin, hset]))
  · exact gives_of_event rfl hh (if_pos hset)
  · exact gives_of_quietEvent rfl hh (if_pos hset)
  · exact gives_of_quietEvent rfl hh (if_pos (.inl hset))
  · exact gives_of_quietEvent rfl hh ((if_neg (not_not.2 hset)).trans (if_pos hv))
  · exact gives_of_quietEvent rfl hh ((if_neg (not_not.2 hset)).trans (if_neg (Nat.not_lt.2 hv)))
  · exact gives_of_event rfl hh ((if_neg hset).trans (if_pos hc))
  · exact gives_of_event rfl hh ((if_neg hset).trans (if_neg hc))
  · refine gives_of_quietEvent rfl hh ?_
    have hunmasked : (s.part.pp.notices.any fun k => k ∈ s.part.pp.masked && k ∉ noticesOfWord w) = true ↔
        ∃ k ∈ s.part.pp.notices, k ∈ s.part.pp.masked ∧ w.getLsbD (noticeBit k) = false := by
      simp [mem_noticesOfWord]
    by_cases hn : ∃ k ∈ s.part.pp.notices, k ∈ s.part.pp.masked ∧ w.getLsbD (noticeBit k) = false
    · rw [if_pos hn]
      exact if_pos (hunmasked.2 hn)
    · rw [if_neg hn]
      exact if_neg (mt hunmasked.1 hn)

/-! ## The fetch of records -/

theorem isBlock_iff (k : Kind) : isBlock k = true ↔ k ∈ [Kind.read, .write, .flush] := by
  cases k <;> decide

/-- The records whose operands the port reads from SP memory (R202). -/
theorem operandRead_eq (bytes : List Byte) :
    operandRead bytes = if 24 < leField bytes 16 2 ∧ leField bytes 16 2 ≤ 1024
        ∧ ∃ k, kindOfCode (byteAt bytes 0) = some k ∧ ppMayIssue k = true ∧ k ∉ [Kind.read, .write, .flush]
      then some (leField bytes 8 8, leField bytes 16 2) else none := by
  unfold operandRead
  cases hk : kindOfCode (byteAt bytes 0) with
  | none => simp
  | some k =>
    dsimp only
    refine if_congr ?_ rfl rfl
    have hblock : (!isBlock k) = true ↔ k ∉ [Kind.read, .write, .flush] := by
      rw [← isBlock_iff, Bool.not_eq_true', Bool.not_eq_true]
    rw [hblock]
    constructor
    · rintro ⟨hmay, hb, hlo, hhi⟩
      exact ⟨hlo, hhi, k, rfl, hmay, hb⟩
    · rintro ⟨hlo, hhi, k', hk', hmay, hb⟩
      obtain rfl := Option.some.inj hk'
      exact ⟨hmay, hb, hlo, hhi⟩

/-- Settles O54. -/
theorem recordsAreFetched : Obligations.RecordsAreFetched := by
  intro s hh hfetch
  have hno : ¬(!s.part.begin.mayFetch) = true := by
    rw [show s.part.begin.mayFetch = true from hfetch]
    decide
  refine ⟨gives_of_event rfl hh (if_neg hno), gives_of_event rfl hh (if_neg hno), fun bytes ops => ?_⟩
  intro tag addr len n apart p taken
  have htaken : ∀ l ops, (s.part.begin.fetched.readOperands bytes = p l) →
      (∀ st, askOfRecord bytes ops = .refuse st →
        Part.fetchRecord (.record bytes ops) s.part.begin = (p l).reply (.pp tag addr len) st)
      ∧ ∀ c, askOfRecord bytes ops = .command c →
        Part.fetchRecord (.record bytes ops) s.part.begin = (p l).handOnPp tag addr len c := by
    intro l ops hl
    refine ⟨fun st hask => (if_neg hno).trans ?_, fun c hask => (if_neg hno).trans ?_⟩
    · dsimp only
      rewrite [hask, hl]
      rfl
    · dsimp only
      rewrite [hask, hl]
      rfl
  refine ⟨fun hapart => ?_, fun hapart => ?_⟩
  · have hread : operandRead bytes = some (leField bytes 8 8, n) := (operandRead_eq bytes).trans (if_pos hapart)
    have hl : s.part.begin.fetched.readOperands bytes = p [.spRead (leField bytes 8 8) n] := by
      unfold Part.readOperands
      rewrite [hread]
      rfl
    refine ⟨⟨fun st hask => gives_of_event rfl hh ((htaken _ ops hl).1 st hask),
      fun c hask => gives_of_event rfl hh ((htaken _ ops hl).2 c hask)⟩, ?_⟩
    obtain ⟨hlo, hhi, k, hk, hmay, hb⟩ := hapart
    have hask : askOfRecord bytes .error = .refuse .transferError := by
      have hblock : isBlock k = false := by
        rw [← Bool.not_eq_true, isBlock_iff]
        exact hb
      unfold askOfRecord
      rewrite [hk]
      dsimp only
      rewrite [hmay, hblock]
      exact (if_neg (by decide)).trans ((if_neg (by decide)).trans ((if_neg (Nat.not_lt.2 hhi)).trans
        (if_neg (Nat.not_le.2 hlo))))
    refine gives_of_event rfl hh ((if_pos (by rw [hread]; rfl)).trans ((htaken _ .error hl).1 _ hask))
  · have hread : operandRead bytes = none := (operandRead_eq bytes).trans (if_neg hapart)
    have hl : s.part.begin.fetched.readOperands bytes = p [] := by
      unfold Part.readOperands
      rewrite [hread]
      rfl
    refine ⟨⟨fun st hask => gives_of_event rfl hh ((htaken _ ops hl).1 st hask),
      fun c hask => gives_of_event rfl hh ((htaken _ ops hl).2 c hask)⟩, ?_⟩
    exact gives_of_event rfl hh (if_neg (by rw [hread]; decide))

end Sys2Proof.Machine
end

section
/-! PROOFS. The arrival of a frame and FRAME_FETCH (O48). -/

namespace Sys2Proof.Machine

open Sys2Proof

/-! ## The checks of a frame, each as the manual states it -/

theorem checkAgrees_iff (f : List Byte) : Part.checkAgrees f = true ↔
    4 ≤ f.length ∧ leNat (f.drop (f.length - 4)) = Part.frameCheck (f.take (f.length - 4)) := by
  simp [Part.checkAgrees, Part.frameData]

theorem addressField_toList {f : List Byte} (h : 6 ≤ f.length) : (addressField f 0).toList = f.take 6 := by
  refine List.ext_getElem (by simp; omega) fun i hi _ => ?_
  have hi6 : i < 6 := by simpa using hi
  have hif : i < f.length := by omega
  simp [addressField, byteAt, hif]

theorem addressField_eq_iff {f : List Byte} (h : 6 ≤ f.length) (a : Address) : addressField f 0 = a ↔ f.take 6 = a.toList := by
  rw [← addressField_toList h, Vector.toList_inj]

/-- The address filter (R149). -/
theorem passesFilter_iff {f : List Byte} (m : Matcher) (h : 6 ≤ f.length) :
    Part.passesFilter m (addressField f 0) = true ↔ f.take 6 = List.replicate 6 0xFF
      ∨ ∃ a : Address, (m.station = some a ∨ some a ∈ m.groups) ∧ f.take 6 = a.toList := by
  have hbroadcast : addressField f 0 = broadcast ↔ f.take 6 = List.replicate 6 0xFF := by
    rw [addressField_eq_iff h]
    rfl
  have hplace : (∃ a : Address, (m.station = some a ∨ some a ∈ m.groups) ∧ f.take 6 = a.toList)
      ↔ m.station = some (addressField f 0) ∨ some (addressField f 0) ∈ m.groups := by
    constructor
    · rintro ⟨a, ha, hf⟩
      rwa [(addressField_eq_iff h a).2 hf]
    · exact fun ha => ⟨_, ha, (addressField_toList h).symm⟩
  rw [hplace, ← hbroadcast]
  simp [Part.passesFilter, or_assoc]

theorem summonsPattern_length (a : Address) : (Part.summonsPattern a).length = 102 := by
  simp [Part.summonsPattern]

theorem holds_iff (pattern data : List Byte) : Part.holds pattern data = true ↔
    ∃ n, n + pattern.length ≤ data.length ∧ (data.drop n).take pattern.length = pattern := by
  simp only [Part.holds, List.any_eq_true, List.mem_range, Bool.and_eq_true, decide_eq_true_eq, beq_iff_eq]
  constructor
  · rintro ⟨n, -, hn, heq⟩
    exact ⟨n, hn, heq⟩
  · rintro ⟨n, hn, heq⟩
    exact ⟨n, by omega, hn, heq⟩

/-- The summons (R150). -/
theorem isSummons_iff (m : Matcher) (data : List Byte) : Part.isSummons m data = true ↔
    m.summons = true ∧ ∃ a : Address, m.station = some a ∧ ∃ n, n + 102 ≤ data.length
      ∧ (data.drop n).take 102 = List.replicate 6 0xFF ++ (List.replicate 16 a.toList).flatten := by
  unfold Part.isSummons
  cases hst : m.station with
  | none => simp
  | some a =>
    dsimp only
    rw [Bool.and_eq_true, holds_iff, summonsPattern_length]
    constructor
    · rintro ⟨hon, hn⟩
      exact ⟨hon, a, rfl, hn⟩
    · rintro ⟨hon, a', ha, hn⟩
      obtain rfl := Option.some.inj ha
      exact ⟨hon, hn⟩

/-- An enabled entry all of whose terms match (R151). -/
theorem entryMatches_iff (data : List Byte) (place : Option WakeEntry) : Part.entryMatches data place = true ↔
    ∃ e, place = some e ∧ e.enabled = true ∧ ∀ t ∈ e.terms, t.offset + t.len ≤ data.length
      ∧ Nat.land (Part.beNat ((data.drop t.offset).take t.len)) t.mask = Nat.land t.value t.mask := by
  cases place <;> simp [Part.entryMatches, Part.termMatches]

theorem allEntries_eq : Part.allEntries = List.finRange 24 := by decide

/-- The first of all entry numbers that a predicate holds of. -/
theorem find?_allEntries_eq_some {g : Fin 24 → Bool} {i : Fin 24} (hi : g i = true) (hbelow : ∀ j, j < i → g j = false) :
    Part.allEntries.find? g = some i := by
  rw [allEntries_eq, List.find?_eq_some_iff_getElem]
  refine ⟨hi, i.val, by simp, by simp, fun j hj => ?_⟩
  rw [List.getElem_finRange, hbelow _ (by simpa [Fin.lt_def] using hj)]
  decide

theorem find?_allEntries_eq_none {g : Fin 24 → Bool} (h : ∀ i, g i = false) : Part.allEntries.find? g = none := by
  simp [h]

/-! ## What a match does -/

theorem holdFrame_of_time {p : Part} {t : Nat} (h : p.clock.counter = t) (src : Option (Fin 24)) (f : List Byte) :
    p.holdFrame src f = { p with matcher :=
      if p.matcher.held.length < 8 then
        { p.matcher with held := p.matcher.held ++ [{ source := src, time := t, bytes := f }] }
      else { p.matcher with lostFrames := if p.matcher.lostFrames < 65535 then p.matcher.lostFrames + 1
        else p.matcher.lostFrames } } := by
  subst h
  rfl

section
variable {p : Part} {f : List Byte} {fromStart : Bool}

theorem frameArrives_of_agrees (hon : p.box.rxOn = true) (hagrees : Part.checkAgrees f = true) (hlo : 64 ≤ f.length)
    (hhi : f.length ≤ 1536) :
    p.frameArrives f true = if Part.passesFilter p.matcher (addressField f 0) then p.matchFrame f else p :=
  (if_neg (by rw [hon]; decide)).trans ((if_neg (by rw [hagrees]; decide)).trans
    ((if_neg (Nat.not_lt.2 hlo)).trans (if_neg (Nat.not_lt.2 hhi))))

/-- The winning entry (R152, R153). -/
theorem matchFrame_of_entry {i : Fin 24} {e : WakeEntry} (hs : Part.isSummons p.matcher (Part.frameData f) = false)
    (hi : p.matcher.table[i] = some e) (hm : Part.entryMatches (Part.frameData f) p.matcher.table[i] = true)
    (hbelow : ∀ j, j < i → Part.entryMatches (Part.frameData f) p.matcher.table[j] = false) :
    p.matchFrame f = p.entryHit i e f := by
  unfold Part.matchFrame
  refine (if_neg (by rw [hs]; decide)).trans ?_
  rewrite [find?_allEntries_eq_some hm hbelow]
  dsimp only
  rewrite [hi]
  rfl

end

/-- Settles O48: a frame goes by the first check it fails, the summons or its winning entry; FRAME_FETCH by its checks. -/
theorem framesArriveAndAreFetched : Obligations.FramesArriveAndAreFetched := by
  refine ⟨fun f fromStart s hh => ?_, fun tag addr len s ht => ?_, fun s t f rest hh htransfer hheld hset => ?_⟩
  · intro c m p with_ hold up data agrees passes summons hits
    have hgives : ∀ q, Part.frameArrives f fromStart p = q → Gives c s q := fun q hq => gives_of_event rfl hh hq
    refine ⟨fun hno => hgives _ (if_pos ?_), fun hon hfrom => ?_⟩
    · rcases hno with hno | hno
      · exact .inl (by rw [show p.box.rxOn = false from hno]; rfl)
      · exact .inr (by rw [hno]; rfl)
    obtain rfl := hfrom
    have hrun : ¬(!p.box.rxOn ∨ !true) := by
      rw [show p.box.rxOn = true from hon]
      decide
    have hiff : Part.checkAgrees f = true ↔ agrees := checkAgrees_iff f
    refine ⟨fun hbad => hgives _ ((if_neg hrun).trans (if_pos ?_)),
      fun hgood hshort => hgives _ ((if_neg hrun).trans ((if_neg ?_).trans (if_pos hshort))),
      fun hgood hlong => hgives _ ((if_neg hrun).trans ((if_neg ?_).trans ((if_neg (by omega)).trans (if_pos hlong)))),
      fun hgood hlo hhi => ?_⟩
    · rw [Bool.not_eq_true', ← Bool.not_eq_true, hiff]
      exact hbad
    · rw [hiff.2 hgood]
      decide
    · rw [hiff.2 hgood]
      decide
    have harrives := frameArrives_of_agrees (p := p) hon (hiff.2 hgood) hlo hhi
    have hpasses : Part.passesFilter p.matcher (addressField f 0) = true ↔ passes := passesFilter_iff m (by omega)
    have hsummons : Part.isSummons p.matcher (Part.frameData f) = true ↔ summons := isSummons_iff m data
    have hhits : ∀ j, Part.entryMatches (Part.frameData f) p.matcher.table[j] = true ↔ ∃ e, hits j e :=
      fun j => entryMatches_iff data _
    have hmatch : ∀ q, passes → p.matchFrame f = q → Gives c s q := fun q hp hq =>
      hgives _ (harrives.trans ((if_pos (hpasses.2 hp)).trans hq))
    refine ⟨fun hno => hgives _ (harrives.trans (if_neg (mt hpasses.1 hno))), fun hp hsum => hmatch _ hp ?_,
      fun hp hsum hnone => hmatch _ hp ?_, fun i e hp hsum hi hbelow => ?_⟩
    · refine (if_pos (hsummons.2 hsum)).trans ?_
      exact holdFrame_of_time (congrArg Clock.counter (Part.wakeEvent_clock _ _)) none f
    · refine (if_neg (mt hsummons.1 hsum)).trans ?_
      rewrite [find?_allEntries_eq_none fun j => by
        rw [← Bool.not_eq_true, hhits]
        rintro ⟨e, he⟩
        exact hnone j e he]
      rfl
    · intro q q1 q2
      have hentry : p.matchFrame f = p.entryHit i e f := by
        refine matchFrame_of_entry ?_ hi.1 ((hhits i).2 ⟨e, hi⟩) fun j hj => ?_
        · rw [← Bool.not_eq_true, hsummons]
          exact hsum
        · rw [← Bool.not_eq_true, hhits]
          rintro ⟨e', he'⟩
          exact hbelow j e' hj he'
      refine hmatch _ hp (hentry.trans ?_)
      have hq : p.setWake i.val (some { e with hits := bump 65535 e.hits, lastHit := some p.now }) = q := setWake_val _ _ _
      have hq2 : (match e.action with
          | .wake => q.wakeEvent (.wakeMatch i)
          | .wakeSpin => (q.wakeEvent (.wakeMatch i)).requestStarts e.bays
          | .ignore => q) = q2 := by
        simp only [q2, q1]
        cases e.action <;> rfl
      have hclock1 : q1.clock = s.part.clock := by
        simp only [q1]
        split
        · rfl
        · exact Part.wakeEvent_clock _ _
      have hclock : q2.clock = s.part.clock := by
        simp only [q2]
        split
        · exact (Part.requestStarts_clock _ _).trans hclock1
        · exact hclock1
      unfold Part.entryHit
      rewrite [hq]
      dsimp only
      refine if_congr Iff.rfl ?_ hq2
      exact (congrArg (Part.holdFrame (some i) f) hq2).trans (holdFrame_of_time (congrArg Clock.counter hclock) _ _)
  · intro p who c
    have hdo : ∀ q, p.frameFetch who = q → Gives c s q := fun q hq => gives_command ht rfl rfl rfl hq
    refine ⟨fun hlen => hdo _ (if_pos (by omega)), fun hlo hhi => ?_⟩
    have hlen : ¬(len < 1 ∨ 65535 < len) := by omega
    refine ⟨fun hbusy => hdo _ ((if_neg hlen).trans (if_pos hbusy)), fun hfree => ?_⟩
    have hgo : p.frameFetch who = _ := (if_neg hlen).trans (if_neg (by
      rw [show p.matcher.transfer = none from hfree]; decide))
    refine ⟨fun hempty => hdo _ (hgo.trans ?_), fun f rest hheld => ⟨fun hshort => hdo _ (hgo.trans ?_),
      fun hfits => hdo _ (hgo.trans ?_)⟩⟩
    · rewrite [show p.matcher.held = [] from hempty]
      rfl
    · rewrite [show p.matcher.held = f :: rest from hheld]
      exact if_pos hshort
    · rewrite [show p.matcher.held = f :: rest from hheld]
      exact if_neg (Nat.not_lt.2 hfits)
  · refine gives_of_event rfl hh ?_
    unfold Part.transferDone
    rewrite [show s.part.begin.matcher.transfer = some t from htransfer, show s.part.begin.matcher.held = f :: rest from hheld]
    exact if_neg hset

end Sys2Proof.Machine
end

section
/-! PROOFS. The direct port: attach and detach (O56), its pipes (O57). -/

namespace Sys2Proof.Machine

open Sys2Proof

/-! ## Attach and detach -/

theorem takeAttach_eq (p : Part) : p.takeAttach =
    if p.box.settings.attachWakes then (if p.box.st = some .dormant then p.enterSleep else p).wakeEvent .dpAttach
    else if p.box.st = some .dormant then p.enterSleep else p := by
  have hsettings : (if p.box.st = some .dormant then p.enterSleep else p).box.settings = p.box.settings := by
    split
    · rw [enterSleep_eq]
    · rfl
  exact congrArg (fun b : Bool => if b then _ else _) (congrArg BoxSettings.attachWakes hsettings)

/-- Settles O56. -/
theorem directPortAttachDetach : Obligations.DirectPortAttachDetach := by
  refine fun s hh => ⟨fun hd => ?_, fun hd => gives_of_event rfl hh (if_pos hd)⟩
  intro q
  have hbox : q.box = s.part.box := Part.raise_box _ _
  have hattach : Part.attach s.part.begin = if q.box.st.isNone then q.hold .attach else q.takeAttach :=
    if_neg (by rw [show s.part.begin.dp.attached = false from hd]; decide)
  refine ⟨fun hst => gives_of_event rfl hh (hattach.trans (if_pos ?_)),
    fun hst => gives_of_event rfl hh (hattach.trans ((if_neg ?_).trans ?_))⟩
  · rw [hbox, hst]
    rfl
  · rw [hbox]
    simpa [Option.isSome_iff_ne_none] using hst
  · rw [takeAttach_eq q, hbox]

/-! ## The out pipe -/

theorem out_of_mayTake {p : Part} (h : p.mayTake = true) : p.dp.out = .record := by
  simp only [Part.mayTake, Bool.and_eq_true, beq_iff_eq] at h
  exact h.1.2

section
variable {p : Part} {bytes : List Byte}

/-- A transfer in RECORD where the port takes a record (R183). -/
theorem dpUnit_of_mayTake (h : p.mayTake = true) :
    p.dpUnit bytes = if bytes.length = 64 then p.dpRecord bytes else p.framingError := by
  unfold Part.dpUnit
  rewrite [out_of_mayTake h]
  exact if_neg (by rw [h]; decide)

theorem dpUnit_of_data (h : p.dp.out = .data) : p.dpUnit bytes = p.dpData bytes := by
  unfold Part.dpUnit
  rewrite [h]
  rfl

theorem dpDiscard_of {n : Nat} (h : p.dp.out = .discard) : p.dpDiscard n = { p with dp := { p.dp with
    remaining := p.dp.remaining - n, out := if p.dp.remaining ≤ n then .record else .discard } } := by
  unfold Part.dpDiscard
  refine (if_neg (not_not.2 h)).trans ?_
  split
  next hn => rw [Nat.sub_eq_zero_of_le hn]
  · rw [← h]

section
variable {r : Request} (hout : p.dp.out = .data) (hw : p.dp.writing = some r.id) (hr : p.request? r.id = some r)
include hout hw hr

/-- Data for the WRITE that holds the pipe, short of its last byte (R183). -/
theorem dpData_of_more (hmore : bytes.length < p.dp.remaining) : p.dpData bytes = { p with
    router := { p.router with
      data := writeStream r.slots p.router.data (r.count * 4096 - p.dp.remaining) (bytes.take p.dp.remaining) }
    dp := { p.dp with remaining := p.dp.remaining - bytes.length } } := by
  have hreq : p.dp.writing.bind p.request? = some r := by rw [hw, Option.bind_some, hr]
  unfold Part.dpData
  refine (if_neg (not_not.2 hout)).trans ?_
  rewrite [hreq]
  dsimp only
  rewrite [if_neg (Nat.not_le.2 hmore), Nat.min_eq_left hmore.le, List.take_of_length_le hmore.le, List.take_length]
  rfl

/-- The last byte of the WRITE's data, and bytes beyond it (R183). -/
theorem dpData_of_last (hlast : p.dp.remaining ≤ bytes.length) : p.dpData bytes =
    ({ p with
      router := { p.router with
        data := writeStream r.slots p.router.data (r.count * 4096 - p.dp.remaining) (bytes.take p.dp.remaining) }
      dp := { p.dp with remaining := 0, out := .record, writing := none
                        framing := if p.dp.remaining < bytes.length
                          then if p.dp.framing < 255 then p.dp.framing + 1 else p.dp.framing
                          else p.dp.framing } } : Part).modRequest r.id fun x => { x with life := .routing } := by
  have hreq : p.dp.writing.bind p.request? = some r := by rw [hw, Option.bind_some, hr]
  unfold Part.dpData
  refine (if_neg (not_not.2 hout)).trans ?_
  rewrite [hreq]
  dsimp only
  rewrite [if_pos hlast, Nat.min_eq_right hlast, Nat.sub_self]
  by_cases hover : p.dp.remaining < bytes.length
  · rw [if_pos hover, if_pos hover]
    rfl
  · rw [if_neg hover, if_neg hover]
    rfl

end

end

/-! ## Records by their kind -/

theorem askOfDpRecord_of_block {k : Kind} {bytes : List Byte} (hk : kindOfCode (byteAt bytes 0) = some k)
    (hblock : k ∈ [Kind.read, .write, .flush]) : askOfDpRecord bytes = .command (blockOfRecord k bytes) := by
  unfold askOfDpRecord
  rewrite [hk]
  exact if_pos ((isBlock_iff k).2 hblock)

theorem askOfDpRecord_of_windowInfo {bytes : List Byte} (hk : kindOfCode (byteAt bytes 0) = some .windowInfo) :
    askOfDpRecord bytes = .command (.windowInfo none) := by
  unfold askOfDpRecord
  rewrite [hk]
  rfl

theorem askOfDpRecord_of_denied {k : Kind} {bytes : List Byte} (hk : kindOfCode (byteAt bytes 0) = some k)
    (hno : k ∉ [Kind.read, .write, .flush, .windowInfo]) : askOfDpRecord bytes = .refuse .denied := by
  have hmay : isBlock k = false ∧ dpMayIssue k = false := by
    cases k <;> simp_all [isBlock, dpMayIssue]
  unfold askOfDpRecord
  rewrite [hk]
  dsimp only
  rw [hmay.1, hmay.2]
  rfl

/-- Settles O57. -/
theorem directPortPipes : Obligations.DirectPortPipes := by
  intro s hh p d framed
  refine ⟨fun len htake hlen => ?_, fun len htake => ?_, fun bytes => ?_, fun bytes r hout hw hr => ?_, fun n hout => ?_,
    fun r rest hlist hr => ?_, fun ans c rest hlist => ?_⟩
  · exact gives_of_quietEvent rfl hh (if_pos ⟨htake, hlen⟩)
  · exact gives_of_quietEvent rfl hh (if_neg fun h => Bool.false_ne_true (htake.symm.trans h.1))
  · intro c tag kind
    have hdo : ∀ q, p.dpUnit bytes = q → Gives c s q := fun q hq => gives_of_event rfl hh hq
    refine ⟨fun hout hno => hdo _ ?_, fun htake => ⟨fun hlen => hdo _ ?_, fun hlen => ?_⟩, fun hout => hdo _ ?_,
      fun hout => hdo _ ?_⟩
    · unfold Part.dpUnit
      rewrite [show p.dp.out = .record from hout]
      exact if_pos (by rw [show p.mayTake = false from hno]; rfl)
    · exact (dpUnit_of_mayTake (p := p) htake).trans (if_neg hlen)
    · have hrecord : p.dpUnit bytes = p.dpRecord bytes := (dpUnit_of_mayTake (p := p) htake).trans (if_pos hlen)
      have hrefuse : ∀ st, askOfDpRecord bytes = .refuse st →
          p.dpUnit bytes = (portTook p none (.dp tag)).reply (.dp tag) st := by
        intro st hst
        refine hrecord.trans ?_
        unfold Part.dpRecord
        rewrite [hst]
        rfl
      have hissue : ∀ x, askOfDpRecord bytes = .command x → p.dpUnit bytes = Part.issue (.dp tag) x p := by
        intro x hx
        refine (hrecord.trans ?_).trans (if_pos htake).symm
        unfold Part.dpRecord
        rewrite [hx]
        rfl
      refine ⟨fun hk => hdo _ (hrefuse _ ?_), fun k hk => ⟨fun hb => hdo _ (hissue _ (askOfDpRecord_of_block hk hb)), ?_,
        fun hno => hdo _ (hrefuse _ (askOfDpRecord_of_denied hk hno))⟩⟩
      · unfold askOfDpRecord
        rewrite [show kindOfCode (byteAt bytes 0) = none from hk]
        rfl
      · rintro rfl
        exact hdo _ (hissue _ (askOfDpRecord_of_windowInfo hk))
    · unfold Part.dpUnit
      rewrite [show p.dp.out = .hold from hout]
      rfl
    · unfold Part.dpUnit
      rewrite [show p.dp.out = .discard from hout]
      exact dpDiscard_of (p := p) hout
  · intro data
    have hunit : p.dpUnit bytes = p.dpData bytes := dpUnit_of_data hout
    exact ⟨fun hmore => gives_of_event rfl hh (hunit.trans (dpData_of_more (p := p) hout hw hr hmore)),
      fun hlast => gives_of_event rfl hh (hunit.trans (dpData_of_last (p := p) hout hw hr hlast))⟩
  · refine ⟨fun hmore => gives_of_quietEvent rfl hh ((dpDiscard_of (p := p) hout).trans ?_),
      fun hlast => gives_of_quietEvent rfl hh ((dpDiscard_of (p := p) hout).trans ?_)⟩
    · rw [if_neg (Nat.not_le.2 hmore), ← show p.dp.out = .discard from hout]
    · rw [if_pos hlast, show p.dp.remaining - n = 0 from Nat.sub_eq_zero_of_le hlast]
  · intro st q done
    refine gives_of_event rfl hh ?_
    have hdp : q.dp = d := congrArg Prod.snd (removeRequest_boxDp r [] _)
    unfold Part.dpReadSent
    rewrite [show s.part.begin.dp.sendList = .readData r.id :: rest from hlist]
    dsimp only
    rewrite [show s.part.begin.request? r.id = some r from hr]
    rw [← hdp]
    rfl
  · refine gives_of_quietEvent rfl hh ?_
    unfold Part.dpCompletionSent
    rewrite [show s.part.begin.dp.sendList = .completion ans c :: rest from hlist]
    cases ans <;> rfl

end Sys2Proof.Machine
end

section
/-! PROOFS. The reset of the PCIe link and the drop of a port's requests (O55). -/

namespace Sys2Proof.Machine

open Sys2Proof

/-! ## The drop of a request -/

theorem freeSlotsOf_eq_mapIdx (h : Holder) (keep : List Nat) : ∀ (i : Nat) (l : List Holder),
    freeSlotsOf h keep i l = l.mapIdx fun j x => if x = h ∧ i + j ∉ keep then .free else x
  | _, [] => rfl
  | i, x :: l => by
    rw [freeSlotsOf, freeSlotsOf_eq_mapIdx h keep (i + 1) l, List.mapIdx_cons]
    simp only [Nat.add_zero, Nat.add_assoc, Nat.add_comm 1]

theorem releaseSlots_eq_mapIdx (h : Holder) (keep : List Nat) (p : Part) : p.releaseSlots h keep = { p with
    router := { p.router with pool := p.router.pool.mapIdx fun i x => if x = h ∧ i ∉ keep then .free else x } } := by
  unfold Part.releaseSlots
  rw [freeSlotsOf_eq_mapIdx]
  simp only [Nat.zero_add]

theorem fragInFlight_iff (p : Part) (id k : Nat) : p.fragInFlight id k = true ↔
    ∃ (b : Fin 4) (o : BayOp), (p.bay b).inFlight = .op o ∧ o.parent = .request id k := by
  unfold Part.fragInFlight
  rw [List.any_eq_true]
  constructor
  · rintro ⟨b, -, hb⟩
    cases hf : (p.bay b).inFlight with
    | op o =>
      rw [hf] at hb
      exact ⟨b, o, hf, by simpa using hb⟩
    | _ =>
      rw [hf] at hb
      exact absurd hb (by simp)
  · rintro ⟨b, o, hf, ho⟩
    exact ⟨b, mem_allBays b, by rw [hf]; simpa using ho⟩

/-- What the drop of its request makes of fragment `k`. -/
def droppedFragment (p : Part) (r : Request) (k : Nat) (f : Fragment) : Fragment :=
  if f.result.isSome ∨ p.fragInFlight r.id k then f
  else { f with result := some (if r.kind = .write then .media else .ok), removed := true }

theorem filterMap_range_eq_mapIdx {α β : Type} (g : Nat → α → β) (l : List α) :
    ((List.range l.length).filterMap fun k => (l[k]?).map (g k)) = l.mapIdx g := by
  induction l using List.reverseRecOn with
  | nil => rfl
  | append_singleton l a ih =>
    have hinit : ((List.range l.length).filterMap fun k => ((l ++ [a])[k]?).map (g k)) = l.mapIdx g := by
      rw [← ih]
      refine List.filterMap_congr fun k hk => ?_
      rw [List.getElem?_append_left (List.mem_range.1 hk)]
    rw [List.length_append, List.length_singleton, List.range_succ, List.filterMap_append, hinit, List.mapIdx_concat]
    simp

theorem dropFragments_eq (p : Part) (r : Request) : p.dropFragments r = r.frags.mapIdx (droppedFragment p r) :=
  filterMap_range_eq_mapIdx _ _

/-- The part with request `r` gone, its fragments `frags` kept aside where it had any (R43, R44). -/
def requestGone (p : Part) (r : Request) (frags : List Fragment) (kept : List Nat) : Part :=
  let v := p.window r.window
  { p with
    router := { p.router with
      requests := p.router.requests.filter fun x => x.id != r.id
      slotWait := p.router.slotWait.filter fun e => e.who != .request r.id
      pool := p.router.pool.mapIdx fun i h => if h = .request r.id ∧ i ∉ kept then .free else h
      ended := p.router.ended.filter fun x => x != r.id
      ppCount := if r.port = .pp then p.router.ppCount - 1 else p.router.ppCount
      dpCount := if r.port = .dp then p.router.dpCount - 1 else p.router.dpCount
      dropped := if r.routed = true ∧ r.frags ≠ []
        then p.router.dropped ++ [{ r with frags := frags, waits := [], second := [], pausedAt := none }]
        else p.router.dropped }
    bays := p.bays.map fun x => { x with
      queue := x.queue.filter fun o => !o.ofRequest r.id, roomWait := x.roomWait.filter fun y => y != .request r.id }
    windows := p.windows.set r.window { v with inFlight := v.inFlight - 1 }
    engine := { p.engine with log := p.engine.log.map fun e =>
      if e.window = r.window ∧ e.region ∈ r.waits then { e with flushes := e.flushes - 1 } else e } }

/-- What the removal of a request's record, slots and places on the lists leaves. -/
theorem removeRequest_eq (p : Part) (r : Request) (kept : List Nat) :
    let v := p.window r.window
    p.removeRequest r kept = { p with
      router := { p.router with
        requests := p.router.requests.filter fun x => x.id != r.id
        slotWait := p.router.slotWait.filter fun e => e.who != .request r.id
        pool := p.router.pool.mapIdx fun i h => if h = .request r.id ∧ i ∉ kept then .free else h
        ended := p.router.ended.filter fun x => x != r.id
        ppCount := if r.port = .pp then p.router.ppCount - 1 else p.router.ppCount
        dpCount := if r.port = .dp then p.router.dpCount - 1 else p.router.dpCount }
      bays := p.bays.map fun x => { x with roomWait := x.roomWait.filter fun y => y != .request r.id }
      windows := p.windows.set r.window { v with inFlight := v.inFlight - 1 } } := by
  unfold Part.removeRequest
  rw [Part.leaveRooms_eq, releaseSlots_eq_mapIdx]
  cases hport : r.port <;> rfl

/-- The operations in flight of a request keep their slots. -/
theorem slotsInFlight_congr {p q : Part} {id : Nat} (h : ∀ b, (q.bay b).inFlight = (p.bay b).inFlight) :
    q.slotsInFlight id = p.slotsInFlight id := by
  unfold Part.slotsInFlight
  simp only [h]

theorem dropRequest_eq (p : Part) (r : Request) : p.dropRequest r =
    if r.routed = true ∧ r.frags ≠ [] then
      (requestGone p r (p.dropFragments r) (p.slotsInFlight r.id)).dropTarget r (p.dropFragments r)
    else requestGone p r (p.dropFragments r) (p.slotsInFlight r.id) := by
  have hslots : (p.modBays fun x => { x with queue := x.queue.filter fun o => !o.ofRequest r.id }).slotsInFlight r.id
      = p.slotsInFlight r.id := slotsInFlight_congr fun b => by simp [Part.modBays_eq, Part.bay]
  have hcond : (r.routed = true ∧ (!r.frags.isEmpty) = true) ↔ (r.routed = true ∧ r.frags ≠ []) := by
    simp
  unfold Part.dropRequest
  dsimp only
  rw [hslots, Part.modBays_eq, removeRequest_eq]
  by_cases hrouted : r.routed = true ∧ r.frags ≠ []
  · rw [if_pos hrouted, if_pos (hcond.2 hrouted)]
    simp only [requestGone, if_pos hrouted, Part.unwait, Part.setLog, Vector.map_map, Function.comp_def, Part.window]
  · rw [if_neg hrouted, if_neg (mt hcond.1 hrouted)]
    simp only [requestGone, if_neg hrouted, Part.unwait, Part.setLog, Vector.map_map, Function.comp_def, Part.window]

/-- A removed write of `r` has left the target of a rebuild short of data that its survivor may hold. -/
def LeavesTargetShort (r : Request) (frags : List Fragment) (v : Window) : Prop :=
  r.kind = .write ∧ v.layout = .mirror ∧ v.cursor.isSome = true
    ∧ ∃ x, v.lost = some x ∧ (∃ g ∈ frags, g.removed = true ∧ g.member = sideIndex x)
      ∧ ∃ g ∈ frags, g.member ≠ sideIndex x ∧ g.removed = false ∧ (g.result = none ∨ g.result = some .ok)

section
variable {p : Part} {r : Request} {frags : List Fragment}

theorem dropTarget_of_short (h : LeavesTargetShort r frags (p.window r.window)) :
    p.dropTarget r frags = rebuildAbandoned p r.window := by
  obtain ⟨hkind, hlayout, hcursor, x, hlost, hgone, hkept⟩ := h
  unfold Part.dropTarget
  dsimp only
  rewrite [hlost, ← Part.abandonRebuild_eq]
  refine if_pos ⟨hkind, hlayout, hcursor, ?_, ?_⟩
  · simpa using hgone
  · simpa [and_assoc] using hkept

theorem dropTarget_of_not_short (h : ¬LeavesTargetShort r frags (p.window r.window)) : p.dropTarget r frags = p := by
  unfold Part.dropTarget
  dsimp only
  cases hlost : (p.window r.window).lost with
  | none => rfl
  | some x =>
    refine if_neg fun hshort => h ?_
    obtain ⟨hkind, hlayout, hcursor, hgone, hkept⟩ := hshort
    exact ⟨hkind, hlayout, hcursor, x, hlost, by simpa using hgone, by simpa [and_assoc] using hkept⟩

end

/-! ## The result of an operation of a dropped request -/

theorem setResult_eq (p : Part) (id k : Nat) (st : Status) : p.setResult id k st = p.modRequest id fun x => { x with
    frags := if k < x.frags.length then x.frags.set k { (x.frags[k]?).getD {} with result := some st } else x.frags } := by
  unfold Part.setResult Part.modFrag
  congr 1
  funext x
  by_cases hk : k < x.frags.length
  · rw [List.getElem?_eq_getElem hk, if_pos hk]
    rfl
  · rw [List.getElem?_eq_none (Nat.not_lt.1 hk), if_neg hk]

theorem slotsInFlight_eq (p : Part) (id : Nat) : p.slotsInFlight id = [(0 : Fin 4), 1, 2, 3].flatMap fun b =>
    match (p.bay b).inFlight with
    | .op o => (match o.parent with | .request i _ => if i = id then o.slots else [] | .chunk _ => [])
    | _ => [] := by
  refine List.flatMap_congr fun b _ => ?_
  cases (p.bay b).inFlight with
  | op o => cases h : o.parent <;> simp [BayOp.ofRequest, h]
  | _ => rfl

theorem portReset_box (p : Part) : (portReset p).box = p.box :=
  congrArg Prod.fst (foldl_keeps boxDp dropRequest_boxDp _ (batchEnded p))

/-- Settles O55. -/
theorem linkResetForgetsRings : Obligations.LinkResetForgetsRings := by
  refine ⟨fun p r => ?_, fun p port => rfl, fun p r k f o res block ho hlive hdropped hf hw => ?_, fun s hh => ?_⟩
  · intro mine flying kept frags hlen hfrags v gone short
    have hdrop : p.dropFragments r = frags := by
      rw [dropFragments_eq]
      refine List.ext_getElem (by simp [hlen]) fun k hk hk' => ?_
      rw [List.getElem_mapIdx]
      obtain ⟨hsame, hgone⟩ := hfrags k _ _ (List.getElem?_eq_getElem (by simpa using hk)) (List.getElem?_eq_getElem hk')
      unfold droppedFragment
      split
      next h =>
        refine (hsame ?_).symm
        rwa [fragInFlight_iff] at h
      next h =>
        rw [fragInFlight_iff, not_or, Option.not_isSome_iff_eq_none] at h
        exact (hgone h.1 h.2).symm
    have hslots : p.slotsInFlight r.id = kept := rfl
    have hgone : requestGone p r frags kept = gone := rfl
    have heq := dropRequest_eq p r
    rw [hdrop, hslots, hgone] at heq
    have hwindow : gone.window r.window = { v with inFlight := v.inFlight - 1 } := by simp [gone, Part.window]
    have hshort : short ↔ r.routed = true ∧ LeavesTargetShort r frags (gone.window r.window) := by
      rw [hwindow]
      exact Iff.rfl
    refine ⟨fun hs => heq.trans ?_, fun hs => heq.trans ?_⟩
    · obtain ⟨hrouted, htarget⟩ := hshort.1 hs
      have hfrags : r.frags ≠ [] := by
        obtain ⟨-, -, -, x, -, ⟨g, hg, -⟩, -⟩ := htarget
        rintro hnil
        rw [List.eq_nil_of_length_eq_zero (hlen.trans (by rw [hnil]; rfl))] at hg
        exact List.not_mem_nil hg
      exact (if_pos ⟨hrouted, hfrags⟩).trans (dropTarget_of_short htarget)
    · split
      next h => exact dropTarget_of_not_short fun htarget => hs (hshort.2 ⟨h.1, htarget⟩)
      · rfl
  · intro kept q
    have hresult : p.fragResult r.id k res block = q := by
      unfold Part.fragResult
      rewrite [hlive]
      dsimp only
      rewrite [hdropped]
      dsimp only
      rewrite [hf]
      exact (if_pos hw).trans (setResult_eq ..)
    have hnone : q.request? r.id = none := by
      refine (Part.request?_modRequest ?_ r.id).trans ?_
      · exact fun _ => rfl
      · rw [hlive, Option.map_none]
    have hslots : q.slotsInFlight r.id = kept := slotsInFlight_eq ..
    unfold Part.reportResult
    rewrite [ho]
    dsimp only
    rewrite [hresult]
    refine (if_neg (by rw [hnone]; decide)).trans ?_
    rw [releaseSlots_eq_mapIdx, hslots]
  · intro q
    have hbox : q.box = s.part.box := portReset_box _
    have hq : s.part.begin.ppReset = q := Part.ppReset_eq _
    have hdo : ∀ q', q.linkResetBox = q' → Gives .linkReset s q' := fun q' h =>
      gives_of_event (show exec .linkReset s = execLinkReset s from rfl) hh (by rw [hq]; exact h)
    refine ⟨fun hst => hdo _ (if_neg (by rw [hbox]; exact hst)), fun hst hphase => hdo _ ?_, fun hst hphase hgrace => hdo _ ?_⟩
    · refine (if_pos (by rw [hbox]; exact hst)).trans ?_
      rewrite [show q.box.phase = some .drain from hbox ▸ hphase]
      rfl
    · refine (if_pos (by rw [hbox]; exact hst)).trans ?_
      rewrite [show q.box.phase = some .grace from hbox ▸ hphase, show q.box.grace = none from hbox ▸ hgrace]
      rfl

end Sys2Proof.Machine
end

section
/-! PROOFS. Resets and supplies (O59). -/

namespace Sys2Proof.Machine

open Sys2Proof

theorem onEvent_of_held {s : State} (h : s.part.held = true) (f : Part → Part) : onEvent f s = .next s := by
  rw [onEvent, change, Part.event_of_held h]

theorem onQuiet_of_held {s : State} (h : s.part.held = true) (f : Part → Part) : onQuiet f s = .next s := by
  rw [onQuiet, change, Part.quietEvent_of_held h]

/-- While the POR line is held, only the box clock, its supply and the line itself act. -/
theorem exec_of_held {c : Instr} {s : State} (h : s.part.held = true) (hreset : ∀ i, c ≠ .powerOnReset i)
    (hc : c ∉ [Instr.boxClockTick, .alarmExpiry, .backupSupplyLoss, .backupDomainSupplyReturn, .porLineAsserted]) :
    exec c s = .next s := by
  cases c with
  | boxClockTick | alarmExpiry | backupSupplyLoss | backupDomainSupplyReturn | porLineAsserted => simp at hc
  | powerOnReset i => exact absurd rfl (hreset i)
  | windowDefine | windowInfo | bayInfo | wakeEntrySet | stationSet | alarmClear | status | noticeClear | configSave
  | configLoad | mpMode | unknownKindRecord | mpOverrun | mpShortFrame | mpRead | mpHoldTimeout | setupWordWrite
  | ringStart | submissionTailNotice | interruptMask | dpBadUnit | dpDiscardData | dpCompletionSent | buttonPress
  | saveReadbackEnd => exact onQuiet_of_held h _
  | _ => exact onEvent_of_held h _

/-! ## The start sequence (R195) -/

theorem modeOf_eq (i : ResetInputs) : Part.modeOf i =
    if i.strap1 then (if i.strap2 then .service else .defaults) else (if i.strap2 then .readOnly else .normal) := by
  unfold Part.modeOf
  cases i.strap1 <;> cases i.strap2 <;> rfl

/-- The main domain with every item at its reset value, the inputs read and the undelivered expiries held. -/
theorem readInputs_handUndelivered (p : Part) (i : ResetInputs) : (p.begin.mainAtReset.readInputs i).handUndelivered = {
    clock := { p.clock with undelivered := [] }
    router := { data := p.router.data, nextId := p.router.nextId }
    bays := Vector.ofFn fun b => Part.bayAtReset i b
    power := { lowAsserted := i.lowSupply }
    box := { heldEvents := p.clock.undelivered.map fun u => .alarm u.id u.spins }
    pp := { notices := if i.lowSupply then [.lowSupply] else [] }
    mp := { notices := if i.lowSupply then [.lowSupply] else [], addressStrap := i.addressStrap }
    loader := { mode := Part.modeOf i, configPresent := i.configPresent } } := by
  rw [Part.readInputs_eq]
  by_cases hlow : i.lowSupply = true
  · simp only [if_pos hlow]
    rfl
  · simp only [if_neg hlow]
    rfl

theorem loads_iff (p : Part) : p.loads = true ↔
    (p.loader.mode = .normal ∨ p.loader.mode = .readOnly) ∧ p.loader.configPresent = true := by
  simp [Part.loads]

/-- Settles O59. -/
theorem resetsAndSupplies : Obligations.ResetsAndSupplies := by
  refine ⟨fun c s h hreset hc => exec_of_held h hreset hc, fun s => ?_, fun i s => ?_⟩
  · intro kept
    refine ⟨rfl, fun h => ?_, fun h => ?_, fun h => ?_, fun h => ?_⟩
    · exact congrArg (fun q => Host.Outcome.next { s with part := q }) (if_pos h)
    · exact congrArg (fun q => Host.Outcome.next { s with part := q }) (if_neg (Bool.eq_false_iff.1 h))
    · exact congrArg (fun q => Host.Outcome.next { s with part := q }) (if_pos h)
    · exact congrArg (fun q => Host.Outcome.next { s with part := q }) (if_neg (Bool.eq_false_iff.1 h))
  · intro mode present clock fresh started
    have hmode : Part.modeOf i = mode := modeOf_eq i
    have hbay : ∀ b, Part.bayAtReset i b = {
        present := present b, power := if present b then .off else .absent, serviceHold := decide (mode = .service) } := by
      intro b
      unfold Part.bayAtReset
      rw [hmode, beq_eq_decide]
      rfl
    have hstart : ∀ p : Part, p.clock = clock → p.router = s.part.router → p.begin.startSequence i = started := by
      intro p hclock hrouter
      have hfresh : (p.begin.mainAtReset.readInputs i).handUndelivered = fresh := by
        rw [readInputs_handUndelivered, hclock, hrouter, hmode, funext hbay]
      unfold Part.startSequence
      rw [hfresh]
      exact if_congr (loads_iff fresh) rfl rfl
    refine ⟨?_, fun seq ht hsupplied => ?_⟩
    · refine congrArg (fun q => Host.Outcome.next { s with part := (Part.settle Config.cascadeLimit q).finish }) ?_
      by_cases hsupplied : s.part.clock.supplied = true
      · exact (congrArg (Part.startSequence i) (if_pos hsupplied)).trans (hstart s.part (if_pos hsupplied).symm rfl)
      · exact (congrArg (Part.startSequence i) (if_neg hsupplied)).trans
          (hstart s.part.clockRestored (if_neg hsupplied).symm rfl)
    · refine gives_command ht rfl rfl rfl ?_
      exact hstart (portTook s.part (some .restart) (.mp seq)) (if_pos hsupplied).symm rfl

end Sys2Proof.Machine
end

section
/-! PROOFS. The result of a fragment and the end of a request (O32). -/

namespace Sys2Proof.Machine

open Sys2Proof

/-! ## The result of a fragment -/

theorem modRequest_modRequest {p : Part} {id : Nat} {f g : Request → Request} (hf : ∀ r, (f r).id = r.id) :
    (p.modRequest id f).modRequest id g = p.modRequest id fun r => g (f r) := by
  have h : ∀ l : List Request, (l.map fun r => if r.id = id then f r else r).map (fun r => if r.id = id then g r else r)
      = l.map fun r => if r.id = id then g (f r) else r := by
    intro l
    rw [List.map_map]
    refine List.map_congr_left fun r _ => ?_
    by_cases hr : r.id = id <;> simp [hr, hf]
  simp only [Part.modRequest, h]

theorem failOffset_eq (v : Window) (m n : Nat) : failOffset v m n =
    if (v.member m).base ≤ n ∧ n < (v.member m).base + v.extentLen then reverseMap v m n else Config.strayOffset n :=
  if_congr (by simp [inExtent]) rfl rfl

/-- What the result `res` of fragment `k`, at block `block` where it names one, makes of its request's record (R39). -/
def withResult (v : Window) (f : Fragment) (k : Nat) (res : Status) (block : Option Nat) (x : Request) : Request :=
  { x with
    frags := if k < x.frags.length then x.frags.set k { (x.frags[k]?).getD {} with result := some res } else x.frags
    failing := match if res = .media then block.map (failOffset v f.member) else none with
      | none => x.failing
      | some n => lowerOffset x.failing n }

theorem withResult_id (v : Window) (f : Fragment) (k : Nat) (res : Status) (block : Option Nat) (x : Request) :
    (withResult v f k res block x).id = x.id := rfl

/-- The failing offset kept, and the result recorded. -/
theorem noteFailing_setResult (p : Part) (r : Request) (k : Nat) (f : Fragment) (res : Status) (block : Option Nat) :
    (if res = .media then p.noteFailing r f block else p).setResult r.id k res
      = p.modRequest r.id (withResult (p.window r.window) f k res block) := by
  rw [setResult_eq]
  by_cases hm : res = .media
  · rw [if_pos hm]
    subst hm
    cases block with
    | none => rfl
    | some n => exact modRequest_modRequest fun _ => rfl
  · rw [if_neg hm]
    congr 1
    funext x
    simp only [withResult, if_neg hm]

section
variable {p : Part} {r : Request} {k : Nat} {f : Fragment} {o : BayOp} {res : Status} {block : Option Nat}

/-- The result of an operation of a live request is its fragment's. -/
theorem reportResult_of_live (ho : o.parent = .request r.id k) (hr : p.request? r.id = some r) (hf : r.frags[k]? = some f)
    (hkeep : ((p.liveResult r k f res block).markEnded.request? r.id).isSome = true) :
    p.reportResult res block o = (p.liveResult r k f res block).markEnded := by
  have hresult : p.fragResult r.id k res block = (p.liveResult r k f res block).markEnded := by
    unfold Part.fragResult
    rewrite [hr]
    dsimp only
    rewrite [hf]
    rfl
  unfold Part.reportResult
  rewrite [ho]
  dsimp only
  rewrite [hresult]
  exact if_pos hkeep

theorem liveResult_of_not_mirror (hw : (p.window r.window).layout ≠ .mirror) :
    p.liveResult r k f res block = p.modRequest r.id (withResult (p.window r.window) f k res block) := by
  unfold Part.liveResult
  dsimp only
  rewrite [if_neg fun h => hw h.1, noteFailing_setResult]
  exact if_neg fun h => hw h.2.1

end

/-! ## Requests that leave AT_BAYS -/

theorem markEnded_request? (p : Part) (id : Nat) : p.markEnded.request? id = p.request? id := rfl

theorem leavesBays_eq (r : Request) : leavesBays r = ((r.life == .atBays || r.life == .routing) && r.routed
    && r.frags.all (fun f => f.result.isSome) && r.waits.isEmpty && r.second.isEmpty) := by
  simp only [leavesBays, allResults, Bool.and_assoc]

theorem advanceRequests_of_ended {p : Part} {id : Nat} {rest : List Nat} (h : p.router.ended = id :: rest) :
    let q : Part := { p with router := { p.router with ended := rest } }
    p.advanceRequests = some (match (q.request? id).filter leavesBays with | some r => q.leaveBays r | none => q) := by
  unfold Part.advanceRequests
  rewrite [h]
  rfl

theorem okClass_iff (st : Status) : Part.okClass st = true ↔ st ∈ [Status.ok, .okRecovered, .okDegraded] := by
  cases st <;> decide

/-! ## A completed request -/

/-- A request that leaves no slot of an operation in flight behind. -/
theorem removeRequest_nil (p : Part) (r : Request) :
    let v := p.window r.window
    p.removeRequest r [] = { p with
      router := { p.router with
        requests := p.router.requests.filter fun x => x.id != r.id
        slotWait := p.router.slotWait.filter fun e => e.who != .request r.id
        pool := p.router.pool.map fun h => if h = .request r.id then .free else h
        ended := p.router.ended.filter fun x => x != r.id
        ppCount := if r.port = .pp then p.router.ppCount - 1 else p.router.ppCount
        dpCount := if r.port = .dp then p.router.dpCount - 1 else p.router.dpCount }
      bays := p.bays.map fun x => { x with roomWait := x.roomWait.filter fun y => y != .request r.id }
      windows := p.windows.set r.window { v with inFlight := v.inFlight - 1 } } := by
  unfold Part.removeRequest
  rw [Part.leaveRooms_eq, Part.releaseSlots_eq]
  cases hport : r.port <;> rfl

theorem complete_eq (p : Part) (r : Request) (st : Status) : p.complete r st =
    (p.removeRequest r []).handCompletion r.port r.tag st (if st = .media then r.failing.getD 0 else 0) := rfl

/-- Settles O32: the fragment's result, the requests that have ended in their order, and what a completed request leaves. -/
theorem requestEndsWithItsResults : Obligations.RequestEndsWithItsResults := by
  refine ⟨fun p r k f o res block ho hr hf hw => ?_, fun p => ⟨?_, fun id rest hended => ⟨fun r hr hdone => ?_, fun hdone => ?_⟩⟩,
    fun p r => ⟨fun hg => ?_, fun hno => ?_, fun hread hok => ⟨fun hport => ?_, fun hport => ?_⟩⟩, fun p r st => ?_⟩
  · intro v at_
    have hat : (if res = .media then block.map (failOffset v f.member) else none) = at_ := by
      rw [funext (failOffset_eq v f.member)]
    have hlive : p.liveResult r k f res block = p.modRequest r.id (withResult v f k res block) := liveResult_of_not_mirror hw
    have hkeep : ((p.liveResult r k f res block).markEnded.request? r.id).isSome = true := by
      rw [hlive, markEnded_request?, Part.request?_modRequest (withResult_id v f k res block), hr]
      rfl
    rw [reportResult_of_live ho hr hf hkeep, hlive]
    unfold withResult
    rewrite [hat]
    rfl
  · simp only [Part.markEnded, leavesBays_eq]
  · have hleaves : leavesBays r = true := (leavesBays_eq r).trans hdone
    refine (advanceRequests_of_ended hended).trans ?_
    rewrite [show Part.request? { p with router := { p.router with ended := rest } } id = some r from hr,
      Option.filter_eq_some_iff.2 ⟨rfl, hleaves⟩]
    rfl
  · have hnone : (p.request? id).filter leavesBays = none := by
      refine Option.filter_eq_none_iff.2 fun r hr => ?_
      rw [leavesBays_eq]
      exact Bool.eq_false_iff.1 (hdone r hr)
    refine (advanceRequests_of_ended hended).trans ?_
    rewrite [show (Part.request? { p with router := { p.router with ended := rest } } id).filter leavesBays = none from hnone]
    rfl
  · unfold Part.gathered
    rewrite [hg]
    exact ⟨rfl, rfl⟩
  · exact if_neg fun h => hno.elim (fun hk => hk h.1) fun hst => hst ((okClass_iff _).1 h.2)
  · refine (if_pos ⟨hread, (okClass_iff _).2 hok⟩).trans ?_
    rewrite [hport]
    rfl
  · refine (if_pos ⟨hread, (okClass_iff _).2 hok⟩).trans ?_
    rewrite [hport]
    rfl
  · intro c v gone
    have hgone : p.removeRequest r [] = gone := removeRequest_nil p r
    refine ⟨fun hport hset => ?_, fun hport hset => ?_, fun hport hatt => ?_, fun hport hatt => ?_⟩
    · rw [complete_eq, hgone, hport]
      exact if_neg hset
    · rw [complete_eq, hgone, hport]
      exact if_pos hset
    · rw [complete_eq, hgone, hport]
      exact if_pos hatt
    · rw [complete_eq, hgone, hport]
      exact if_neg (Bool.eq_false_iff.1 hatt)

end Sys2Proof.Machine
end

section
/-! PROOFS. The bring-up of a bay and the judging of its members (O35). -/

namespace Sys2Proof.Machine

open Sys2Proof

/-! ## A bay enters READY -/

/-- The window as bay `b`'s entry into READY leaves it: the rebuild of a LOST member there that is not foreign begins (R110). -/
def rebuildBegun (mode : BootMode) (b : Fin 4) (v : Window) : Window :=
  if v.st = .opened ∧ v.cursor = none ∧ mode ≠ .readOnly
      ∧ (v.lost.any fun x => (v.copy x).bay == b && !(v.copy x).isForeign) = true
  then { v with cursor := some 0, rebuildChunk := 0 } else v

/-- The rebuild of window `w` begins where its LOST member lies on bay `b`, is not foreign and is not being rebuilt. -/
def rebuildOn (b : Fin 4) (q : Part) (w : Fin 16) : Part :=
  match (q.window w).lost with
  | none => q
  | some s => if ((q.window w).copy s).bay = b ∧ !((q.window w).copy s).isForeign then q.startRebuild w else q

theorem Part.modWindow_of_fixed {q : Part} {w : Fin 16} {f : Window → Window} (h : f (q.window w) = q.window w) :
    q.modWindow w f = q := by
  unfold Part.modWindow
  rw [h]
  simp [Part.window]

theorem rebuildOn_seekNext (b : Fin 4) (q : Part) (w : Fin 16) :
    (rebuildOn b q w).seekNext = q.seekNext.modWindow w (rebuildBegun q.loader.mode b) := by
  have hread : (!q.readOnly) = true ↔ q.loader.mode ≠ .readOnly := by simp [Part.readOnly]
  have hcur : (q.window w).cursor.isNone = true ↔ (q.window w).cursor = none := by simp
  by_cases hbegins : (q.window w).st = .opened ∧ (q.window w).cursor = none ∧ q.loader.mode ≠ .readOnly
      ∧ ((q.window w).lost.any fun x => ((q.window w).copy x).bay == b && !((q.window w).copy x).isForeign) = true
  · obtain ⟨hst, hnone, hmode, hlost⟩ := hbegins
    have hbegun : rebuildBegun q.loader.mode b (q.window w) = { q.window w with cursor := some 0, rebuildChunk := 0 } :=
      if_pos ⟨hst, hnone, hmode, hlost⟩
    have hon : rebuildOn b q w = q.startRebuild w := by
      unfold rebuildOn
      cases hl : (q.window w).lost with
      | none => simp [hl] at hlost
      | some x => exact if_pos (by simpa [hl] using hlost)
    have hsome : (q.window w).lost.isSome = true := by
      cases hl : (q.window w).lost with
      | none => simp [hl] at hlost
      | some x => rfl
    rw [hon, startRebuild_eq hst hsome hnone (by simpa [Part.readOnly] using hmode)]
    unfold Part.modWindow
    rw [show q.seekNext.window w = q.window w from rfl, hbegun]
    rfl
  · have hfixed : rebuildBegun q.loader.mode b (q.seekNext.window w) = q.seekNext.window w := if_neg hbegins
    rw [Part.modWindow_of_fixed hfixed]
    unfold rebuildOn
    cases hlost : (q.window w).lost with
    | none => rfl
    | some x =>
      dsimp only
      split
      next hon =>
        rw [Part.startRebuild, if_neg]
        rintro ⟨hst, -, hnone, hmode⟩
        refine hbegins ⟨hst, hcur.1 hnone, hread.1 hmode, ?_⟩
        rw [hlost]
        simpa using hon
      · rfl

theorem rebuildOn_loader (b : Fin 4) (q : Part) (w : Fin 16) : (rebuildOn b q w).loader = q.loader := by
  unfold rebuildOn Part.startRebuild
  dsimp only
  split
  · rfl
  · split
    · split <;> rfl
    · rfl

theorem foldl_rebuildOn {mode : BootMode} (b : Fin 4) : ∀ (l : List (Fin 16)) (q : Part), q.loader.mode = mode →
    (l.foldl (rebuildOn b) q).seekNext = l.foldl (fun q w => q.modWindow w (rebuildBegun mode b)) q.seekNext
  | [], _, _ => rfl
  | w :: l, q, h => by
    rw [List.foldl_cons, foldl_rebuildOn b l _ ((congrArg _ (rebuildOn_loader b q w)).trans h), List.foldl_cons,
      rebuildOn_seekNext, h]

theorem bayEntersReady_eq (p : Part) (b : Fin 4) : p.bayEntersReady b = { p with
    windows := Vector.ofFn fun w => rebuildBegun p.loader.mode b (p.window w)
    engine := { p.engine with seek := true } } :=
  (foldl_rebuildOn b allWindows p rfl).trans (Part.modWindowsBy_eq (fun _ => rebuildBegun p.loader.mode b) p.seekNext)

/-! ## The judging of members (R17, R18) -/

theorem fits_iff (v : Window) (m : Member) (capacity : Nat) : fits v m capacity = true ↔
    (v.layout = .whole → m.base = 0 ∧ v.length = capacity) ∧ (v.layout ≠ .whole → m.base + v.extentLen ≤ capacity) := by
  cases h : v.layout <;> simp [fits, h]

section
variable {v : Window} {i : Identity} {m : Member}

theorem judgeMember_of_bound (hs : m.serial = some i.serial) (hfit : fits v m i.capacity = true) :
    Part.judgeMember v i m = { m with isForeign := false } := by
  simp [Part.judgeMember, hs, hfit]

theorem judgeMember_of_unbound (hs : m.serial = none) (hfit : fits v m i.capacity = true) :
    Part.judgeMember v i m = { m with serial := some i.serial, isForeign := false } := by
  simp [Part.judgeMember, hs, hfit]

theorem judgeMember_of_foreign (h : (∃ t, m.serial = some t ∧ t ≠ i.serial) ∨ ¬fits v m i.capacity = true) :
    Part.judgeMember v i m = { m with isForeign := true } := by
  unfold Part.judgeMember
  cases hs : m.serial with
  | none =>
    have hno : ¬fits v m i.capacity = true := h.resolve_left (by simp [hs])
    exact if_neg hno
  | some t =>
    have hbad : (t == i.serial && fits v m i.capacity) = false := by
      rcases h with ⟨t', ht', hne⟩ | hno
      · obtain rfl : t' = t := by simpa [hs] using ht'.symm
        simp [hne]
      · simp [hno]
    simp [hbad]

end

theorem judge_of_kept {p : Part} {w : Fin 16} {k : Nat} {i : Identity} {m : Member}
    (hm : Part.judgeMember (p.window w) i ((p.window w).member k) = m) (hf : m.isForeign = false) :
    p.judge w k i = p.modWindow w fun v => { v with members := v.members.set k m } := by
  unfold Part.judge
  dsimp only
  rw [hm]
  exact if_neg (by simp [hf])

theorem judge_of_foreign {p : Part} {w : Fin 16} {k : Nat} {i : Identity} {m : Member}
    (hm : Part.judgeMember (p.window w) i ((p.window w).member k) = m) (hf : m.isForeign = true) :
    let q := p.modWindow w fun v => { v with members := v.members.set k m }
    p.judge w k i = if (p.window w).layout = .mirror then
      match (p.window w).lost with
      | none => q.markLost w (sideOf k)
      | some s => if s = sideOf k then q.abandonRebuild w else q
    else q := by
  unfold Part.judge
  dsimp only
  rw [hm]
  exact if_congr (by simp [hf]) rfl rfl

/-! ## The queue's foreign operations (R53 step 7) -/

theorem usesForeign_eq (p : Part) (o : BayOp) : p.usesForeign o = match o.parent with
    | .request id k => ((p.request? id).map fun r =>
        ((p.window r.window).member ((r.frags[k]?).getD {}).member).isForeign).getD false
    | .chunk x => (p.engine.chunk.map fun c => ((p.window c.window).copy x).isForeign).getD false := by
  unfold Part.usesForeign
  cases o.parent with
  | request id k =>
    dsimp only
    cases p.request? id <;> rfl
  | chunk x =>
    dsimp only
    cases p.engine.chunk <;> rfl

theorem identityOf_eq (sectors : Nat) (serial : List Byte) : Part.identityOf sectors serial =
    { capacity := if sectors / 8 < 2 ^ 40 then sectors / 8 else 2 ^ 40 - 1, serial := serial } := by
  have hcap : min (sectors / 8) (2 ^ 40 - 1) = if sectors / 8 < 2 ^ 40 then sectors / 8 else 2 ^ 40 - 1 := by
    split <;> omega
  exact congrArg (fun n => ({ capacity := n, serial := serial } : Identity)) hcap

/-- A housekeeping command issued again is put out again, and nothing else changes. -/
theorem issue_again {p : Part} {b : Fin 4} {y : InFlight} (h : (p.bay b).inFlight = y) (c : DriveCmd) :
    (p.modBay b fun x => { x with inFlight := y }).emit (.drive b c)
      = { p with bays := p.bays.set b (p.bay b), out := p.out ++ [.drive b c] } := by
  subst h
  rfl

/-- Settles O35: the bring-up by its phases, the judging, the queue's foreign operations, the entry into READY. -/
theorem bayComesUp : Obligations.BayComesUp := by
  refine ⟨fun b s hh hpow => ?_, fun p b i => ?_, fun p w k i => ?_, fun p b => ⟨?_, bayEntersReady_eq p b⟩⟩
  · intro x p put ready
    have hx : s.part.bay b = x := rfl
    have hidentify : ∀ a, exec (.identifyAnswer b a) s = execIdentifyAnswer b a s := fun _ => rfl
    have hspin : ∀ a, exec (.spinUpAnswer b a) s = execSpinUpAnswer b a s := fun _ => rfl
    refine ⟨fun hfrom hlink => ?_, fun hlink => ?_, fun hfrom hlink hfly => ?_, fun hlink hfly => ⟨fun sectors serial => ?_, ?_⟩,
      fun hlink hfly => ⟨?_, ?_⟩⟩
    · refine gives_of_bayEvent (show exec (.supplySettleEnd b) s = execSupplySettleEnd b s from rfl) hh ?_ rfl
      simp [hx, hpow, hfrom, hlink, x]
    · refine gives_of_bayEvent (show exec (.bringupTrainingTimeout b) s = execBringupTrainingTimeout b s from rfl) hh ?_ ?_
      · simp [hx, hpow, hlink, x]
      · refine Part.modBay_of_fixed (p := s.part.begin) ?_
        rw [show s.part.begin.bay b = x from rfl, ← hlink]
    · refine gives_of_bayEvent (show exec (.driveReadyReport b) s = execDriveReadyReport b s from rfl) hh ?_ rfl
      simp [hx, hpow, hfrom, hlink, hfly, x]
    · refine gives_of_bayEvent (hidentify _) hh ?_ ?_
      · simp [hx, hpow, hlink, hfly, x]
      · dsimp only
        rw [identityOf_eq]
        rfl
    · have hcond : (x.power == .starting && x.link == .locked && x.inFlight == .identify) = true := by
        simp [show x.power = .starting from hpow, hlink, hfly]
      have hagain : s.part.begin.issueIdentify b = put x [.identify] := issue_again (p := s.part.begin) hfly _
      rintro a (rfl | rfl)
      · exact gives_of_bayEvent (hidentify _) hh hcond hagain
      · exact gives_of_bayEvent (hidentify _) hh hcond hagain
    · refine gives_of_bayEvent (hspin _) hh ?_ ?_
      · simp [hx, hpow, hlink, hfly, x]
      · have hcleared : (s.part.begin.clearFlight b).clearRun b = put { x with inFlight := .nothing, timeoutRun := false } [] :=
          Part.modBay_modBay ..
        exact congrArg ready hcleared
    · have hcond : (x.power == .starting && x.link == .locked && x.inFlight == .spinUp) = true := by
        simp [show x.power = .starting from hpow, hlink, hfly]
      have hagain : s.part.begin.issueSpinUp b = put x [.spinUp] := issue_again (p := s.part.begin) hfly _
      rintro a (rfl | rfl)
      · exact gives_of_bayEvent (hspin _) hh hcond hagain
      · exact gives_of_bayEvent (hspin _) hh hcond hagain
  · unfold Part.foreignCheck
    congr 1
    funext q w
    by_cases hfree : (q.window w).st = .free
    · rw [if_pos hfree, if_neg (by simp [Window.inUse, hfree])]
    · rw [if_neg hfree, if_pos (by simp [Window.inUse, hfree])]
      rfl
  · intro v m fit becomes foreign
    have hfit : fits v m i.capacity = true ↔ fit := fits_iff v m i.capacity
    refine ⟨fun hs hf => ?_, fun hs hf => ?_, fun hbad => ?_⟩
    · exact judge_of_kept (judgeMember_of_bound hs (hfit.2 hf)) rfl
    · exact judge_of_kept (judgeMember_of_unbound hs (hfit.2 hf)) rfl
    · have hjudge := judge_of_foreign (p := p) (w := w) (k := k)
        (judgeMember_of_foreign (v := v) (i := i) (m := m) (hbad.imp_right (mt hfit.1))) rfl
      refine ⟨fun hlay => hjudge.trans (if_neg hlay), fun hlay => ⟨fun hlost => ?_, fun hlost => ?_, fun hlost => ?_⟩⟩
      · refine (hjudge.trans (if_pos hlay)).trans ?_
        rewrite [show (p.window w).lost = none from hlost]
        rfl
      · refine (hjudge.trans (if_pos hlay)).trans ?_
        rewrite [show (p.window w).lost = some (sideOf k) from hlost]
        exact (if_pos rfl).trans (Part.abandonRebuild_eq _ _)
      · refine (hjudge.trans (if_pos hlay)).trans ?_
        rewrite [show (p.window w).lost = some (otherSide (sideOf k)) from hlost]
        exact if_neg (by cases sideOf k <;> decide)
  · have hforeign : p.usesForeign = _ := funext (usesForeign_eq p)
    unfold Part.removeForeign
    rw [hforeign]
    rfl

end Sys2Proof.Machine
end

section
/-! PROOFS. The resync log, the high mark, LOST marks and the repair queue (O19). -/

namespace Sys2Proof.Machine

open Sys2Proof

/-! ## The high mark (R94) -/

section
variable {p : Part}

theorem followMark_of_below (h : p.engine.log.length < 48) :
    p.followMark = { p with engine := { p.engine with above := false } } := by
  have hbelow : decide (Config.highMark ≤ p.engine.log.length) = false := decide_eq_false (Nat.not_le.2 h)
  unfold Part.followMark
  rw [hbelow]
  rfl

theorem followMark_of_above (h : 48 ≤ p.engine.log.length) (habove : p.engine.above = true) : p.followMark = p := by
  have hhigh : decide (Config.highMark ≤ p.engine.log.length) = true := decide_eq_true h
  unfold Part.followMark
  dsimp only
  rw [hhigh, if_neg (by simp [habove]), ← habove]

theorem followMark_of_rise (h : 48 ≤ p.engine.log.length) (habove : p.engine.above = false) :
    p.followMark = (({ p with engine := { p.engine with above := true } } : Part).raise .resyncHigh).markStarts := by
  have hhigh : decide (Config.highMark ≤ p.engine.log.length) = true := decide_eq_true h
  unfold Part.followMark
  dsimp only
  rw [hhigh]
  exact if_pos (by simp [habove])

/-- The starts asked for at the rise (R94). -/
theorem markStarts_eq (p : Part) : p.markStarts =
    if p.loader.mode = .readOnly then p
    else match p.engine.log.find? fun e => !e.unreadable && (p.window e.window).st != .free with
      | none => p
      | some e =>
        (p.wakeBay ((p.window e.window).copy .primary).bay).wakeBay ((p.window e.window).copy .secondary).bay :=
  if_congr (by simp [Part.readOnly]) rfl rfl

end

/-- What the rise of the mark leaves as it was. -/
def MarkKeeps (p q : Part) : Prop :=
  q.engine = p.engine ∧ q.windows = p.windows ∧ q.router = p.router ∧ q.box = p.box ∧ q.clock = p.clock ∧ q.matcher = p.matcher
    ∧ q.loader = p.loader

theorem markStarts_keeps (p : Part) : MarkKeeps p p.markStarts := by
  rw [markStarts_eq]
  split
  · exact ⟨rfl, rfl, rfl, rfl, rfl, rfl, rfl⟩
  · split
    · exact ⟨rfl, rfl, rfl, rfl, rfl, rfl, rfl⟩
    · simp [MarkKeeps]

/-- The mark follows the log, and nothing else of the engine moves. -/
theorem followMark_keeps (p : Part) :
    MarkKeeps { p with engine := { p.engine with above := decide (48 ≤ p.engine.log.length) } } p.followMark := by
  by_cases hlen : 48 ≤ p.engine.log.length
  · rw [decide_eq_true hlen]
    cases habove : p.engine.above with
    | true =>
      rw [followMark_of_above hlen habove, ← habove]
      exact ⟨rfl, rfl, rfl, rfl, rfl, rfl, rfl⟩
    | false =>
      rw [followMark_of_rise hlen habove]
      obtain ⟨he, hw, hr, hb, hc, hm, hl⟩ :=
        markStarts_keeps (({ p with engine := { p.engine with above := true } } : Part).raise .resyncHigh)
      exact ⟨he.trans (Part.raise_engine _ _), hw.trans (Part.raise_windows _ _), hr.trans (Part.raise_router _ _),
        hb.trans (Part.raise_box _ _), hc.trans (Part.raise_clock _ _), hm.trans (Part.raise_matcher _ _),
        hl.trans (Part.raise_loader _ _)⟩
  · rw [decide_eq_false hlen, followMark_of_below (Nat.not_le.1 hlen)]
    exact ⟨rfl, rfl, rfl, rfl, rfl, rfl, rfl⟩

/-! ## Logging (R93) -/

section
variable {p : Part} {w : Fin 16} {gs : List Nat} {good : Side}

/-- The regions of `gs` without an entry. -/
def freshRegions (p : Part) (w : Fin 16) (gs : List Nat) : List Nat :=
  gs.filter fun g => !(p.engine.log.any fun e => e.window == w && e.region == g)

/-- The log once the regions of `gs` are logged. -/
def loggedWith (p : Part) (w : Fin 16) (gs : List Nat) (good : Side) : List LogEntry :=
  (p.engine.log.map fun e => if e.window = w ∧ e.region ∈ gs ∧ e.copying = true then { e with redirtied := true } else e)
    ++ (freshRegions p w gs).map fun g =>
      ({ window := w, region := g, good := good, logged := p.clock.counter } : LogEntry)

theorem tryLog_of_lost (h : (p.window w).lost.isSome = true) : p.tryLog w gs good = some p := if_pos h

theorem tryLog_of_full (h : (p.window w).lost = none) (hfull : 64 - p.engine.log.length < (freshRegions p w gs).length) :
    p.tryLog w gs good = none :=
  (if_neg (by simp [h])).trans (if_neg (mt of_decide_eq_true (Nat.not_le.2 hfull)))

theorem tryLog_of_room (h : (p.window w).lost = none) (hroom : (freshRegions p w gs).length ≤ 64 - p.engine.log.length) :
    let q := ({ p with engine := { p.engine with log := loggedWith p w gs good } } : Part).followMark
    p.tryLog w gs good = some (if (freshRegions p w gs).isEmpty then q else q.seekNext) :=
  (if_neg (by simp [h])).trans (if_pos (decide_eq_true hroom))

end

/-! ## LOST marks (R95) -/

theorem withdrawChunk_of_none {p : Part} (w : Fin 16) (h : p.engine.chunk = none) : p.withdrawChunk w = p := by
  unfold Part.withdrawChunk
  rewrite [h]
  rfl

/-- What a LOST mark does to the chunk leaves the log and the mark as they were. -/
theorem withdrawChunk_mark (p : Part) (w : Fin 16) :
    (p.withdrawChunk w).engine.log = p.engine.log ∧ (p.withdrawChunk w).engine.above = p.engine.above := by
  cases hc : p.engine.chunk with
  | none => rw [withdrawChunk_of_none w hc]; exact ⟨rfl, rfl⟩
  | some c =>
    rw [Part.withdrawChunk_eq w hc]
    split
    · exact ⟨rfl, rfl⟩
    · split <;> exact ⟨rfl, rfl⟩

/-! ## The repair queue (R104) -/

section
variable {p : Part} {w : Fin 16} {x : Side} {o n : Nat}

/-- A repair entry that has the blocks already, from its next block on. -/
def HoldsRepair (w : Fin 16) (x : Side) (o n : Nat) (e : RepairEntry) : Prop :=
  e.window = w ∧ e.copy = x ∧ e.next ≤ o ∧ o + n ≤ e.offset + e.count

/-- The size of a repair entry that takes the blocks. -/
def unionSize (o n : Nat) (e : RepairEntry) : Nat := max (o + n) (e.offset + e.count) - min o e.offset

/-- A repair entry that can take the blocks. -/
def TakesRepair (w : Fin 16) (x : Side) (o n : Nat) (e : RepairEntry) : Prop :=
  e.window = w ∧ e.copy = x ∧ e.busy = false ∧ o ≤ e.offset + e.count ∧ e.offset ≤ o + n ∧ unionSize o n e ≤ 256

theorem holdsRepair_iff (w : Fin 16) (x : Side) (o n : Nat) (e : RepairEntry) :
    (e.isFor w x && decide (e.next ≤ o ∧ o + n ≤ e.offset + e.count)) = true ↔ HoldsRepair w x o n e := by
  simp [RepairEntry.isFor, HoldsRepair, and_assoc]

theorem takesRepair_iff (w : Fin 16) (x : Side) (o n : Nat) (e : RepairEntry) :
    (e.isFor w x && !e.busy && decide (o ≤ e.offset + e.count ∧ e.offset ≤ o + n)
      && decide (max (o + n) (e.offset + e.count) - min o e.offset ≤ Config.repairBlocks)) = true
      ↔ TakesRepair w x o n e := by
  simp [RepairEntry.isFor, TakesRepair, unionSize, and_assoc, Config.repairBlocks]

theorem tryRepair_of_held (h : ∃ e ∈ p.engine.repairs, HoldsRepair w x o n e) : p.tryRepair w x o n = some p := by
  obtain ⟨e, he, hholds⟩ := h
  exact if_pos (List.any_eq_true.2 ⟨e, he, (holdsRepair_iff w x o n e).2 hholds⟩)

theorem not_any_holdsRepair (h : ∀ e ∈ p.engine.repairs, ¬HoldsRepair w x o n e) :
    ¬(p.engine.repairs.any fun e => e.isFor w x && decide (e.next ≤ o ∧ o + n ≤ e.offset + e.count)) = true := by
  rw [List.any_eq_true]
  rintro ⟨e, he, hholds⟩
  exact h e he ((holdsRepair_iff w x o n e).1 hholds)

theorem tryRepair_of_taken {before after : List RepairEntry} {e : RepairEntry}
    (h : ∀ e ∈ p.engine.repairs, ¬HoldsRepair w x o n e) (hl : p.engine.repairs = before ++ e :: after)
    (hbefore : ∀ y ∈ before, ¬TakesRepair w x o n y) (he : TakesRepair w x o n e) :
    p.tryRepair w x o n = some { p with engine := { p.engine with repairs := before
      ++ { e with offset := min o e.offset, count := unionSize o n e, next := min e.next o } :: after } } := by
  have hfind : p.engine.repairs.findIdx? (fun e => e.isFor w x && !e.busy
      && decide (o ≤ e.offset + e.count ∧ e.offset ≤ o + n)
      && decide (max (o + n) (e.offset + e.count) - min o e.offset ≤ Config.repairBlocks)) = some before.length := by
    rw [hl, List.findIdx?_append, List.findIdx?_eq_none_iff.2 fun y hy => by
      rw [← Bool.not_eq_true, takesRepair_iff]
      exact hbefore y hy, List.findIdx?_cons, if_pos ((takesRepair_iff w x o n e).2 he)]
    simp
  have hget : p.engine.repairs[before.length]? = some e := by rw [hl]; simp
  unfold Part.tryRepair
  refine (if_neg (not_any_holdsRepair h)).trans ?_
  rewrite [hfind]
  dsimp only
  rewrite [hget]
  dsimp only
  rewrite [hl, List.set_append_right _ _ (Nat.le_refl _), Nat.sub_self]
  rfl

theorem tryRepair_of_new (h : ∀ e ∈ p.engine.repairs, ¬HoldsRepair w x o n e)
    (hno : ∀ e ∈ p.engine.repairs, ¬TakesRepair w x o n e) :
    p.tryRepair w x o n = if p.engine.repairs.length < 8 then some { p with engine := { p.engine with
      repairs := p.engine.repairs ++ [{ window := w, copy := x, offset := o, count := n, next := o }], seek := true } }
    else none := by
  unfold Part.tryRepair
  refine (if_neg (not_any_holdsRepair h)).trans ?_
  rewrite [List.findIdx?_eq_none_iff.2 fun y hy => by
    rw [← Bool.not_eq_true, takesRepair_iff]
    exact hno y hy]
  rfl

theorem repairOrLog_of_some {q : Part} (h : p.tryRepair w x o n = some q) : p.repairOrLog w x o n = q := by
  unfold Part.repairOrLog
  rewrite [h]
  rfl

theorem logOrLose_eq (p : Part) (w : Fin 16) (gs : List Nat) (good : Side) :
    p.logOrLose w gs good = (p.tryLog w gs good).getD (p.markLost w (otherSide good)) := by
  unfold Part.logOrLose
  cases p.tryLog w gs good <;> rfl

theorem otherSide_otherSide (x : Side) : otherSide (otherSide x) = x := by cases x <;> rfl

theorem repairOrLog_of_none (h : p.tryRepair w x o n = none) :
    p.repairOrLog w x o n = (p.tryLog w (touched o n) (otherSide x)).getD (p.markLost w x) := by
  unfold Part.repairOrLog
  rewrite [h]
  dsimp only
  rw [logOrLose_eq, otherSide_otherSide]

end

/-- Settles O19. -/
theorem loggingRegions : Obligations.LoggingRegions := by
  refine ⟨fun p w gs good => ⟨tryLog_of_lost, tryLog_of_full, fun h hroom => ?_⟩, fun p => ⟨followMark_of_below, followMark_of_above,
    fun hlen habove => ?_⟩, fun p w x => ?_, fun p w x o n => ?_⟩
  · obtain ⟨he, hw, hr, hb, hc, hm, -⟩ :=
      followMark_keeps { p with engine := { p.engine with log := loggedWith p w gs good } }
    refine ⟨_, tryLog_of_room h hroom, ?_⟩
    generalize hf : ({ p with engine := { p.engine with log := loggedWith p w gs good } } : Part).followMark = f at *
    have hlog : f.engine.log = loggedWith p w gs good := (congrArg Engine.log he :)
    have habove : f.engine.above = decide (48 ≤ f.engine.log.length) := by
      rw [hlog]
      exact (congrArg Engine.above he :)
    have hseek : f.engine.seek = p.engine.seek := (congrArg Engine.seek he :)
    have hrepairs : f.engine.repairs = p.engine.repairs := (congrArg Engine.repairs he :)
    have hchunk : f.engine.chunk = p.engine.chunk := (congrArg Engine.chunk he :)
    rw [← hlog] at hf
    cases hfresh : (freshRegions p w gs).isEmpty with
    | true =>
      refine ⟨hlog, habove, hseek.trans ?_, hw, hr, hb, hc, hm, hrepairs, hchunk, ?_⟩
      · exact ((congrArg (fun b => p.engine.seek || !b) hfresh).trans (Bool.or_false _)).symm
      · exact (congrArg (fun r : Part => { r with engine := f.engine }) hf).symm
    | false =>
      refine ⟨hlog, habove, ?_, hw, hr, hb, hc, hm, hrepairs, hchunk, ?_⟩
      · exact ((congrArg (fun b => p.engine.seek || !b) hfresh).trans (Bool.or_true _)).symm
      · exact (congrArg (fun r : Part => { r with engine := f.seekNext.engine }) hf).symm
  · intro q
    have hloader : q.loader = p.loader := Part.raise_loader _ _
    have hengine : q.engine = { p.engine with above := true } := Part.raise_engine _ _
    have hlog : q.engine.log = p.engine.log := (congrArg Engine.log hengine :)
    have hwindow : q.window = p.window := funext fun w => Part.raise_window _ _ w
    have heq : p.followMark = q.markStarts := followMark_of_rise hlen habove
    rw [markStarts_eq, hloader, hlog, hwindow] at heq
    refine ⟨fun hmode => heq.trans (if_pos hmode), fun hmode => ⟨fun hnone => (heq.trans (if_neg hmode)).trans ?_,
      fun e he => (heq.trans (if_neg hmode)).trans ?_⟩⟩
    · rewrite [hnone]
      rfl
    · rewrite [he]
      rfl
  · intro v gone log told
    refine ⟨fun h => if_pos h, fun hlost hrise => ?_⟩
    intro q1 q2 q3 q4 unlisted stopped q5
    have hengine : q2.engine = q1.engine := foldl_keeps Part.engine (f := told) (fun _ _ => rfl) gone q1
    have hchunk : q4.engine.chunk = p.engine.chunk := (congrArg Engine.chunk hengine :)
    have hwithdraw : q4.withdrawChunk w = match p.engine.chunk with | some c => stopped c | none => q4 := by
      cases hc : p.engine.chunk with
      | none => exact withdrawChunk_of_none w (hchunk.trans hc)
      | some c => exact Part.withdrawChunk_eq w (hchunk.trans hc)
    have hmark : p.markLost w x = ((q4.withdrawChunk w).raise .memberLost).followMark := if_neg (by simp [hlost, v])
    have hq5 : (q4.withdrawChunk w).raise .memberLost = q5 := by
      rewrite [hwithdraw]
      rfl
    obtain ⟨hlog4, habove4⟩ := withdrawChunk_mark q4 w
    have hlog5 : q5.engine.log = log := by
      rw [← hq5, Part.raise_engine, hlog4]
      exact (congrArg Engine.log hengine :)
    have habove5 : q5.engine.above = p.engine.above := by
      rw [← hq5, Part.raise_engine, habove4]
      exact (congrArg Engine.above hengine :)
    rw [hmark, hq5, followMark_of_no_rise (by rw [hlog5, habove5]; exact hrise), hlog5]
  · intro holds size takes put
    refine ⟨tryRepair_of_held, fun hno => ⟨fun before e after hl hb he => tryRepair_of_taken hno hl hb he, fun hnew => ⟨fun hlen => ?_,
      fun hlen => ?_⟩⟩, fun q hq => repairOrLog_of_some hq, repairOrLog_of_none⟩
    · exact (tryRepair_of_new hno hnew).trans (if_pos hlen)
    · exact (tryRepair_of_new hno hnew).trans (if_neg (Nat.not_lt.2 hlen))

end Sys2Proof.Machine
end

section
/-! PROOFS. The copy a READ of a MIRROR window goes to and what its results do (O17). -/

namespace Sys2Proof.Machine

open Sys2Proof

/-! ## Routing -/

theorem recordRoute_nil (p : Part) (id : Nat) (frags : List Fragment) (g : Gather) :
    p.recordRoute id frags g [] = p.modRequest id fun r => { r with routed := true, gather := g, frags := frags } := by
  simp only [Part.recordRoute, List.append_nil]

/-- The log entries of the regions `gs` of window `w`. -/
def Touched (p : Part) (w : Fin 16) (gs : List Nat) (e : LogEntry) : Prop := e ∈ p.engine.log ∧ e.window = w ∧ e.region ∈ gs

section
variable {p : Part} {w : Fin 16} {gs : List Nat}

theorem mem_loggedAmong {e : LogEntry} : e ∈ p.loggedAmong w gs ↔ Touched p w gs e := by
  simp [Part.loggedAmong, Touched]

theorem loggedAmong_eq_nil (h : ∀ e, ¬Touched p w gs e) : p.loggedAmong w gs = [] :=
  List.eq_nil_iff_forall_not_mem.2 fun e he => h e (mem_loggedAmong.1 he)

theorem isEmpty_loggedAmong_of_touched {e : LogEntry} (h : Touched p w gs e) : (p.loggedAmong w gs).isEmpty = false := by
  cases hl : p.loggedAmong w gs with
  | nil => exact absurd (mem_loggedAmong.2 h) (by simp [hl])
  | cons x l => rfl

theorem agreedGood_eq_some {l : List LogEntry} {g : Side} (hne : l ≠ []) (h : ∀ e ∈ l, e.good = g) :
    Part.agreedGood l = some g := by
  cases l with
  | nil => exact absurd rfl hne
  | cons x l =>
    have hx : x.good = g := h x List.mem_cons_self
    refine (if_pos (List.all_eq_true.2 fun y hy => ?_)).trans (congrArg some hx)
    rw [h y (List.mem_cons_of_mem _ hy), hx]
    exact beq_self_eq_true g

theorem agreedGood_eq_none {l : List LogEntry} {e e' : LogEntry} (he : e ∈ l) (he' : e' ∈ l) (h : e.good ≠ e'.good) :
    Part.agreedGood l = none := by
  cases l with
  | nil => rfl
  | cons x l =>
    refine if_neg fun hall => h ?_
    have hx : ∀ y ∈ x :: l, y.good = x.good := by
      intro y hy
      rcases List.mem_cons.1 hy with rfl | hy
      · rfl
      · simpa using List.all_eq_true.1 hall y hy
    exact (hx e he).trans (hx e' he').symm

/-- The entries of the touched regions all name copy `g` as good. -/
theorem agreedGood_of_touched {g : Side} (hsome : ∃ e, Touched p w gs e) (h : ∀ e, Touched p w gs e → e.good = g) :
    Part.agreedGood (p.loggedAmong w gs) = some g := by
  obtain ⟨e, he⟩ := hsome
  exact agreedGood_eq_some (List.ne_nil_of_mem (mem_loggedAmong.2 he)) fun y hy => h y (mem_loggedAmong.1 hy)

/-- The entries of the touched regions disagree. -/
theorem agreedGood_of_disagree {e e' : LogEntry} (he : Touched p w gs e) (he' : Touched p w gs e') (h : e.good ≠ e'.good) :
    Part.agreedGood (p.loggedAmong w gs) = none :=
  agreedGood_eq_none (mem_loggedAmong.2 he) (mem_loggedAmong.2 he') h

end

/-! ## The copy a READ goes to (R96) -/

section
variable {p : Part} {w : Fin 16} {o n : Nat}

theorem repairOverlaps_iff (x : Side) : p.repairOverlaps w x o n = true ↔ ∃ e ∈ p.engine.repairs,
    e.window = w ∧ e.copy = x ∧ e.offset < o + n ∧ o < e.offset + e.count := by
  simp [Part.repairOverlaps, RepairEntry.isFor, sharesBlock, overlap, and_assoc]

theorem readChoice_of_lost {x : Side} (h : (p.window w).lost = some x) : p.readChoice w o n = some (otherSide x) := by
  unfold Part.readChoice
  dsimp only
  rewrite [h]
  rfl

theorem readChoice_of_touched (h : (p.window w).lost = none) {e : LogEntry} (he : Touched p w (touched o n) e) :
    p.readChoice w o n = (Part.agreedGood (p.loggedAmong w (touched o n))).bind fun g => if p.usable w g then some g else none := by
  unfold Part.readChoice
  dsimp only
  rewrite [h]
  refine (if_pos (by rw [isEmpty_loggedAmong_of_touched he]; rfl)).trans ?_
  cases Part.agreedGood (p.loggedAmong w (touched o n)) <;> rfl

theorem readChoice_of_unlogged (h : (p.window w).lost = none) (hno : ∀ e, ¬Touched p w (touched o n) e) :
    p.readChoice w o n = match p.usable w .primary, p.usable w .secondary with
      | true, false => some .primary
      | false, true => some .secondary
      | false, false => some .primary
      | true, true => match p.repairOverlaps w .primary o n, p.repairOverlaps w .secondary o n with
        | true, false => some .secondary
        | false, true => some .primary
        | _, _ => some (p.readByBays w) := by
  unfold Part.readChoice
  dsimp only
  rewrite [h]
  refine (if_neg (by rw [loggedAmong_eq_nil hno]; decide)).trans ?_
  cases p.usable w .primary <;> cases p.usable w .secondary <;> rfl

end

theorem route_of_mirror_read {p : Part} {r : Request} (hl : (p.window r.window).layout = .mirror) (hk : r.kind = .read) :
    p.route r = p.routeMirrorRead r := by
  unfold Part.route
  dsimp only
  rewrite [hl, hk]
  rfl

theorem routeMirrorRead_of_some {p : Part} {r : Request} {x : Side} (h : p.readChoice r.window r.offset r.count = some x) :
    p.routeMirrorRead r = p.modRequest r.id fun q => { q with
      routed := true, gather := .worst, frags := [Part.copyFragment (p.window r.window) x r.offset r.count] } := by
  unfold Part.routeMirrorRead
  rewrite [h]
  exact recordRoute_nil ..

theorem routeMirrorRead_of_none {p : Part} {r : Request} (h : p.readChoice r.window r.offset r.count = none) :
    p.routeMirrorRead r = p.modRequest r.id fun q => { q with
      routed := true, gather := .worst, frags := [], notes := q.notes ++ [.staleCopy] } := by
  unfold Part.routeMirrorRead
  rewrite [h]
  rfl

/-! ## The result of a READ fragment (R97, R112) -/

theorem fragResult_of_live {p : Part} {r : Request} {k : Nat} {f : Fragment} (hr : p.request? r.id = some r)
    (hf : r.frags[k]? = some f) (res : Status) (block : Option Nat) :
    p.fragResult r.id k res block = (p.liveResult r k f res block).markEnded := by
  unfold Part.fragResult
  rewrite [hr]
  dsimp only
  rewrite [hf]
  rfl

theorem liveResult_of_mirror_read {p : Part} {r : Request} (hl : (p.window r.window).layout = .mirror) (hk : r.kind = .read)
    (k : Nat) (f : Fragment) (res : Status) (block : Option Nat) : p.liveResult r k f res block =
      ((if res = .media then p.noteFailing r f block else p).mirrorReadResult r k f res).targetResult r f res := by
  unfold Part.liveResult
  dsimp only
  rw [if_pos ⟨hl, hk⟩]

section
variable {p q : Part} {r : Request} {f : Fragment} {k : Nat} {res : Status}

theorem targetResult_of_ok (q : Part) (r : Request) (f : Fragment) : q.targetResult r f .ok = q := by
  unfold Part.targetResult
  exact if_neg fun h => h.1 rfl

theorem targetResult_of_not_lost (h : (q.window r.window).lost = none) : q.targetResult r f res = q :=
  if_neg fun ⟨_, _, _, hlost⟩ => by simp [h] at hlost

theorem targetResult_of_mirror {v : Window} (hv : q.window r.window = v) (hl : v.layout = .mirror) : q.targetResult r f res =
    if res ≠ .ok ∧ v.cursor.isSome = true ∧ v.lost = some (sideOf f.member) then q.abandonRebuild r.window else q := by
  subst hv
  exact if_congr (by simp [hl]) rfl rfl

theorem cleanFor_iff {w : Fin 16} {x : Side} {o n : Nat} : p.cleanFor w x o n = true ↔ (p.window w).lost = none
    ∧ (∀ e ∈ p.engine.log, ¬(e.window = w ∧ e.region ∈ touched o n)) ∧ p.usable w x = true
    ∧ ¬∃ e ∈ p.engine.repairs, e.window = w ∧ e.copy = x ∧ e.offset < o + n ∧ o < e.offset + e.count := by
  rw [← repairOverlaps_iff, Bool.not_eq_true]
  simp [Part.cleanFor, Part.loggedAmong, and_assoc]

theorem mirrorReadResult_of_retried (h : f.retry = true) : p.mirrorReadResult r k f .ok =
    (p.setResult r.id k .okRecovered).repairOrLog r.window (otherSide (sideOf f.member)) f.first f.count :=
  (if_pos h).trans (if_pos rfl)

theorem mirrorReadResult_of_retry_failed (h : f.retry = true) (hres : res ≠ .ok) :
    p.mirrorReadResult r k f res = p.setResult r.id k (worse .media res) := (if_pos h).trans (if_neg hres)

theorem mirrorReadResult_of_clean (h : f.retry = false)
    (hclean : p.cleanFor r.window (otherSide (sideOf f.member)) f.first f.count = true) :
    p.mirrorReadResult r k f .media = p.modFrag r.id k fun f => Part.retryFragment (p.window r.window) f :=
  (if_neg (by simp [h])).trans (if_pos ⟨rfl, hclean⟩)

theorem mirrorReadResult_of_result (h : f.retry = false)
    (hno : res = .media → p.cleanFor r.window (otherSide (sideOf f.member)) f.first f.count = false) :
    p.mirrorReadResult r k f res = p.setResult r.id k res :=
  (if_neg (by simp [h])).trans (if_neg fun ⟨hres, hclean⟩ => by simp [hno hres] at hclean)

end

/-- Settles O17. -/
theorem mirrorReadCopyAndRetry : Obligations.MirrorReadCopyAndRetry := by
  refine ⟨fun p r hlayout hkind => ?_, fun p r k f hr hf hkind hlayout => ?_⟩
  · intro w v touchedBy unlogged repairing ready load goes stale
    have hroute : p.route r = p.routeMirrorRead r := route_of_mirror_read hlayout hkind
    have hgoes : ∀ x, p.readChoice w r.offset r.count = some x → goes x := fun x hx =>
      hroute.trans (routeMirrorRead_of_some hx)
    have hstale : p.readChoice w r.offset r.count = none → stale := fun h => hroute.trans (routeMirrorRead_of_none h)
    refine ⟨fun x hx => hgoes _ (readChoice_of_lost hx), fun hlost => ⟨fun g hsome hall => ?_, fun e he e' he' ht ht' hne => hstale ?_,
      fun hno => ?_⟩⟩
    · obtain ⟨e, he, ht⟩ := hsome
      have hchoice : p.readChoice w r.offset r.count = if p.usable w g then some g else none := by
        rw [readChoice_of_touched hlost ⟨he, ht⟩, agreedGood_of_touched ⟨e, he, ht⟩ fun y hy => hall y hy.1 hy.2]
        rfl
      exact ⟨fun hu => hgoes _ (hchoice.trans (if_pos hu)), fun hu => hstale (hchoice.trans (if_neg (Bool.eq_false_iff.1 hu)))⟩
    · rw [readChoice_of_touched hlost ⟨he, ht⟩, agreedGood_of_disagree ⟨he, ht⟩ ⟨he', ht'⟩ hne]
      rfl
    · have hchoice := readChoice_of_unlogged (o := r.offset) (n := r.count) hlost fun e he => hno e he.1 he.2
      have hrepair : ∀ x, p.repairOverlaps w x r.offset r.count = true ↔ repairing x := repairOverlaps_iff
      have hready : ∀ x, p.copyReady w x = true ↔ ready x := fun x => beq_iff_eq
      have hunrepaired : ∀ x, ¬repairing x → p.repairOverlaps w x r.offset r.count = false := fun x hx =>
        Bool.eq_false_iff.2 (mt (hrepair x).1 hx)
      have hunready : ∀ x, ¬ready x → p.copyReady w x = false := fun x hx => Bool.eq_false_iff.2 (mt (hready x).1 hx)
      refine ⟨fun x hu hu' => ?_, fun hu hu' => ?_, fun hu hu' => ?_⟩
      · cases x with
        | primary =>
          rw [hu, show p.usable w .secondary = false from hu'] at hchoice
          exact hgoes _ hchoice
        | secondary =>
          rw [hu, show p.usable w .primary = false from hu'] at hchoice
          exact hgoes _ hchoice
      · rw [hu, hu'] at hchoice
        exact hgoes _ hchoice
      · rw [hu, hu'] at hchoice
        refine ⟨fun x hx hx' => ?_, fun hx hx' => ?_⟩
        · cases x with
          | primary =>
            rw [(hrepair _).2 hx, hunrepaired .secondary hx'] at hchoice
            exact hgoes _ hchoice
          | secondary =>
            rw [(hrepair _).2 hx, hunrepaired .primary hx'] at hchoice
            exact hgoes _ hchoice
        · rw [hunrepaired _ hx, hunrepaired _ hx'] at hchoice
          have hbays : ∀ y, p.readByBays w = y → goes y := fun y hy => hgoes _ (hchoice.trans (congrArg some hy))
          refine ⟨fun hr hr' hle => hbays _ ?_, fun hr hr' hlt => hbays _ ?_, fun x hr hr' => ?_, fun hr hr' => hbays _ ?_⟩
          · unfold Part.readByBays
            rewrite [(hready _).2 hr, (hready _).2 hr']
            exact if_pos hle
          · unfold Part.readByBays
            rewrite [(hready _).2 hr, (hready _).2 hr']
            exact if_neg (Nat.not_le.2 hlt)
          · cases x with
            | primary =>
              refine hbays _ ?_
              unfold Part.readByBays
              rewrite [(hready _).2 hr, hunready .secondary hr']
              rfl
            | secondary =>
              refine hbays _ ?_
              unfold Part.readByBays
              rewrite [(hready _).2 hr, hunready .primary hr']
              rfl
          · unfold Part.readByBays
            rewrite [hunready _ hr, hunready _ hr']
            rfl
  · intro v failed clean after noted resolved
    have hfrag : ∀ res block, p.fragResult r.id k res block =
        (((if res = .media then p.noteFailing r f block else p).mirrorReadResult r k f res).targetResult r f res).markEnded :=
      fun res block => (fragResult_of_live hr hf res block).trans
        (congrArg Part.markEnded (liveResult_of_mirror_read hlayout hkind k f res block))
    have hclean : p.cleanFor r.window (otherSide failed) f.first f.count = true ↔ clean := cleanFor_iff
    have htarget : ∀ (q : Part) res, q.window r.window = v → (q.targetResult r f res).markEnded = after q res :=
      fun q res hq => congrArg Part.markEnded (targetResult_of_mirror hq hlayout)
    have hnoted : ∀ block, p.noteFailing r f (some block) = noted block := fun _ => rfl
    refine ⟨fun block hretry hc => (hfrag _ _).trans ?_, fun block hretry hc => (hfrag _ _).trans ?_,
      fun hretry res hres => (hfrag _ _).trans ?_, fun hretry => (hfrag _ _).trans ?_, fun block hretry => (hfrag _ _).trans ?_,
      fun hretry res hok hmedia => (hfrag _ _).trans ?_⟩
    · rewrite [if_pos rfl, hnoted, mirrorReadResult_of_clean (p := noted block) hretry (hclean.2 hc)]
      exact congrArg Part.markEnded (targetResult_of_not_lost hc.1)
    · rewrite [if_pos rfl, hnoted, mirrorReadResult_of_result (p := noted block) hretry fun _ => Bool.eq_false_iff.2 (mt hclean.1 hc)]
      exact htarget _ _ rfl
    · rewrite [if_neg hres, mirrorReadResult_of_result hretry fun h => absurd h hres]
      exact htarget _ _ rfl
    · rewrite [if_neg (by decide), mirrorReadResult_of_retried hretry, targetResult_of_ok]
      rfl
    · rewrite [if_pos rfl, hnoted, mirrorReadResult_of_retry_failed hretry (by decide)]
      exact htarget _ _ rfl
    · rewrite [if_neg hmedia, mirrorReadResult_of_retry_failed hretry hok]
      exact htarget _ _ rfl

end Sys2Proof.Machine
end

section
/-! PROOFS. The copies a WRITE and a FLUSH of a MIRROR window go to, and what the results of a WRITE do (O18). -/

namespace Sys2Proof.Machine

open Sys2Proof

/-! ## What logging and a LOST mark leave of the windows -/

theorem followMark_windows (p : Part) : p.followMark.windows = p.windows := (followMark_keeps p).2.1

theorem followMark_clock (p : Part) : p.followMark.clock = p.clock := (followMark_keeps p).2.2.2.2.1

theorem tryLog_keeps {p q : Part} {w : Fin 16} {gs : List Nat} {good : Side} (h : p.tryLog w gs good = some q) :
    q.windows = p.windows ∧ q.clock = p.clock := by
  cases hlost : (p.window w).lost with
  | some x =>
    obtain rfl := Option.some.inj ((tryLog_of_lost (by rw [hlost]; rfl)).symm.trans h)
    exact ⟨rfl, rfl⟩
  | none =>
    by_cases hroom : (freshRegions p w gs).length ≤ 64 - p.engine.log.length
    · have hq := Option.some.inj ((tryLog_of_room (good := good) hlost hroom).symm.trans h)
      rw [← hq]
      split
      · exact ⟨followMark_windows _, followMark_clock _⟩
      · exact ⟨followMark_windows _, followMark_clock _⟩
    · rw [tryLog_of_full hlost (Nat.not_le.1 hroom)] at h
      exact absurd h nofun

theorem withdrawChunk_keeps (p : Part) (w : Fin 16) :
    (p.withdrawChunk w).windows = p.windows ∧ (p.withdrawChunk w).clock = p.clock := by
  cases hc : p.engine.chunk with
  | none =>
    rw [withdrawChunk_of_none w hc]
    exact ⟨rfl, rfl⟩
  | some c =>
    rw [Part.withdrawChunk_eq w hc]
    split
    · exact ⟨rfl, rfl⟩
    · split <;> exact ⟨rfl, rfl⟩

/-- A LOST mark writes its window's record alone, and of it the lost member and the orphaned count. -/
theorem markLost_windows (p : Part) (w : Fin 16) (x : Side) : ∃ lost orphaned, (p.markLost w x).windows
    = p.windows.set w { p.window w with lost := lost, orphaned := orphaned } := by
  cases hlost : (p.window w).lost with
  | some y =>
    refine ⟨(p.window w).lost, (p.window w).orphaned, ?_⟩
    rw [Part.markLost, if_pos (by rw [hlost]; rfl)]
    change p.windows = p.windows.set w (p.window w)
    simp [Part.window]
  | none =>
    refine ⟨some x, min 65535 ((p.window w).orphaned
      + ((p.engine.log.filter fun e => e.window == w).filter fun e => e.good == x).length), ?_⟩
    unfold Part.markLost
    rw [if_neg (by simp [hlost])]
    dsimp only
    rw [followMark_windows, Part.raise_windows, (withdrawChunk_keeps _ w).1]
    exact foldl_keeps Part.windows (f := fun q (e : LogEntry) => q.tellFlushes w e.region .okDegraded none none) (fun _ _ => rfl) _ _

theorem markLost_clock (p : Part) (w : Fin 16) (x : Side) : (p.markLost w x).clock = p.clock := by
  unfold Part.markLost
  split
  · rfl
  · dsimp only
    rw [followMark_clock, Part.raise_clock, (withdrawChunk_keeps _ w).2]
    exact foldl_keeps Part.clock (f := fun q (e : LogEntry) => q.tellFlushes w e.region .okDegraded none none) (fun _ _ => rfl) _ _

theorem markLost_copy (p : Part) (w : Fin 16) (x y : Side) : ((p.markLost w x).window w).copy y = (p.window w).copy y := by
  obtain ⟨lost, orphaned, h⟩ := markLost_windows p w x
  rw [Part.window, h]
  simp [Window.copy, Window.member, Part.window]

/-! ## Fragments on a list of copies -/

/-- The fragment of a request on copy `x` of the window `v` (R20). -/
def fragmentOn (v : Window) (o n : Nat) (x : Side) : Fragment :=
  { member := sideIndex x, bay := (v.copy x).bay, block := (v.copy x).base + o, count := n, first := o }

/-- Request `r` routed to the copies `l` of the window `v`. -/
def goesTo (v : Window) (r : Request) (l : List Side) (g : Gather) (q : Part) : Part :=
  q.modRequest r.id fun x => { x with routed := true, gather := g, frags := l.map (fragmentOn v r.offset r.count) }

section
variable {q : Part} {v : Window} {r : Request} (hv : ∀ x, (q.window r.window).copy x = v.copy x)
include hv

theorem copyFragment_eq (o n : Nat) (x : Side) : Part.copyFragment (q.window r.window) x o n = fragmentOn v o n x := by
  unfold fragmentOn
  rw [← hv]
  rfl

theorem writeOne_eq (x : Side) (g : Gather) : q.writeOne r x g = goesTo v r [x] g q := by
  unfold Part.writeOne
  rw [copyFragment_eq hv, recordRoute_nil]
  rfl

/-- The chunk in progress runs again where a write shares a block with it (R101, R109, R121). -/
def runsAgain (r : Request) (both : Bool) (q : Part) : Part := { q with engine := { q.engine with
  chunk := q.engine.chunk.map fun c =>
    if c.window = r.window ∧ c.offset < r.offset + r.count ∧ r.offset < c.offset + c.count
        ∧ (c.kind = .rebuild ∨ (both = true ∧ (c.kind = .repair ∨ c.kind = .patrol))) then { c with again := true } else c } }

omit hv in
theorem markAgain_eq (r : Request) (both : Bool) (q : Part) :
    q.markAgain r.window r.offset r.count both = runsAgain r both q := by
  simp only [Part.markAgain, Part.modChunk, runsAgain, sharesBlock, overlap, Bool.and_eq_true, decide_eq_true_eq, and_assoc]

theorem writeBoth_eq (g : Gather) :
    q.writeBoth r g = runsAgain r true (goesTo v r [.primary, .secondary] g q) := by
  unfold Part.writeBoth
  dsimp only
  rw [copyFragment_eq hv, copyFragment_eq hv, recordRoute_nil, markAgain_eq]
  rfl

end

/-! ## The copies of a WRITE (R98, R101) -/

theorem redirty_eq (q : Part) (w : Fin 16) (gs : List Nat) : q.redirty w gs = { q with engine := { q.engine with
    log := q.engine.log.map fun e =>
      if e.window = w ∧ e.region ∈ gs then { e with redirtied := e.redirtied || e.copying, unreadable := false } else e
    seek := q.engine.seek || q.engine.log.any fun e => decide (e.window = w ∧ e.region ∈ gs) && e.unreadable } } := by
  have hcleared : ((q.loggedAmong w gs).any fun e => e.unreadable)
      = q.engine.log.any fun e => decide (e.window = w ∧ e.region ∈ gs) && e.unreadable := by
    unfold Part.loggedAmong
    rw [List.any_filter]
    congr 1
    funext e
    by_cases hw : e.window = w <;> by_cases hg : e.region ∈ gs <;> simp [hw, hg]
  unfold Part.redirty
  dsimp only
  rw [hcleared]
  cases q.engine.log.any fun e => decide (e.window = w ∧ e.region ∈ gs) && e.unreadable
  · simp [Part.setLog]
  · simp [Part.setLog, Part.seekNext]

section
variable {p : Part} {r : Request}

theorem route_of_mirror_write (hl : (p.window r.window).layout = .mirror) (hk : r.kind = .write) :
    p.route r = p.routeMirrorWrite r := by
  unfold Part.route
  dsimp only
  rewrite [hl, hk]
  rfl

theorem routeMirrorWrite_of_lost {x : Side} (h : (p.window r.window).lost = some x)
    (hcur : (p.window r.window).cursor = none) : p.routeMirrorWrite r = p.writeOne r (otherSide x) (.survivor (otherSide x)) := by
  unfold Part.routeMirrorWrite
  dsimp only
  rewrite [h, hcur]
  rfl

theorem routeMirrorWrite_of_rebuild {x : Side} {g : Nat} (h : (p.window r.window).lost = some x)
    (hcur : (p.window r.window).cursor = some g) : p.routeMirrorWrite r =
      if ((touched r.offset r.count).all fun y => decide (g < y)) = true then
        (p.writeOne r (otherSide x) (.survivor (otherSide x))).markAgain r.window r.offset r.count false
      else p.writeBoth r (.survivor (otherSide x)) := by
  unfold Part.routeMirrorWrite
  dsimp only
  rewrite [h, hcur]
  rfl

/-- The write of a window without a LOST member goes by which of its copies are usable. -/
theorem routeMirrorWrite_of_whole (h : (p.window r.window).lost = none) {a b : Bool}
    (ha : p.usable r.window .primary = a) (hb : p.usable r.window .secondary = b) : p.routeMirrorWrite r =
      if a = true then
        if b = true then p.routeUsableWrite r else (p.markLost r.window .secondary).writeOne r .primary (.survivor .primary)
      else if b = true then (p.markLost r.window .primary).writeOne r .secondary (.survivor .secondary)
        else p.writeOne r .primary .worst := by
  subst ha hb
  unfold Part.routeMirrorWrite
  dsimp only
  rewrite [h]
  cases p.usable r.window .primary <;> cases p.usable r.window .secondary <;> rfl

theorem routeUsableWrite_of_touched {e : LogEntry} (he : Touched p r.window (touched r.offset r.count) e) :
    p.routeUsableWrite r =
      match Part.agreedGood (p.loggedAmong r.window (touched r.offset r.count)) with
      | some g => match p.tryLog r.window (touched r.offset r.count) g with
        | some q => (q.redirty r.window (touched r.offset r.count)).writeOne r g .worst
        | none => (p.redirty r.window (touched r.offset r.count)).writeBoth r .both
      | none => (p.redirty r.window (touched r.offset r.count)).writeBoth r .both := by
  unfold Part.routeUsableWrite
  dsimp only
  refine (if_pos (by rw [isEmpty_loggedAmong_of_touched he]; rfl)).trans ?_
  cases Part.agreedGood (p.loggedAmong r.window (touched r.offset r.count)) with
  | none => rfl
  | some g => rfl

theorem routeUsableWrite_of_unlogged (hno : ∀ e, ¬Touched p r.window (touched r.offset r.count) e) :
    p.routeUsableWrite r =
      if (!p.copyReady r.window .secondary) = true ∧ (p.window r.window).lazyAttr = true then
        match p.tryLog r.window (touched r.offset r.count) .primary with
        | some q => q.writeOne r .primary .worst
        | none => p.writeBoth r .both
      else p.writeBoth r .both := by
  unfold Part.routeUsableWrite
  dsimp only
  refine (if_neg (by rw [loggedAmong_eq_nil hno]; decide)).trans ?_
  rfl

end

/-! ## The copies of a FLUSH (R102, R103) -/

section
variable {p : Part} {r : Request}

theorem route_of_mirror_flush (hl : (p.window r.window).layout = .mirror) (hk : r.kind = .flush) :
    p.route r = p.routeMirrorFlush r := by
  unfold Part.route
  dsimp only
  rewrite [hl, hk]
  rfl

/-- The fragment of a FLUSH on copy `x` of the window `v` (R42). -/
def flushOn (v : Window) (x : Side) : Fragment := { member := sideIndex x, bay := (v.copy x).bay }

/-- Request `r` routed to flush the copies `l` of the window `v`. -/
def flushesOn (v : Window) (r : Request) (l : List Side) (notes : List Status) (q : Part) : Part :=
  q.modRequest r.id fun x => { x with
    routed := true, gather := .worst, frags := l.map (flushOn v), notes := x.notes ++ notes }

theorem flushCopies_of_lost {x : Side} (h : (p.window r.window).lost = some x) : p.flushCopies r =
    flushesOn (p.window r.window) r (if (p.window r.window).cursor.isSome then [.primary, .secondary] else [otherSide x]) [] p := by
  unfold Part.flushCopies
  dsimp only
  rewrite [h]
  rfl

/-- The FLUSH of a window without a LOST member goes by which of its copies are usable. -/
theorem flushCopies_of_whole (h : (p.window r.window).lost = none) {a b : Bool}
    (ha : p.usable r.window .primary = a) (hb : p.usable r.window .secondary = b) : p.flushCopies r =
      if a = true then
        if b = true then
          flushesOn (p.window r.window) r ([Side.primary, Side.secondary].filter fun x => !p.asleepStale r.window x) [] p
        else flushesOn (p.window r.window) r [.primary] [.okDegraded] (p.markLost r.window .secondary)
      else if b = true then flushesOn (p.window r.window) r [.secondary] [.okDegraded] (p.markLost r.window .primary)
        else flushesOn (p.window r.window) r [.primary] [] p := by
  subst ha hb
  unfold Part.flushCopies
  dsimp only
  rewrite [h]
  cases p.usable r.window .primary <;> cases p.usable r.window .secondary <;> rfl

theorem flushesOn_window (v : Window) (l : List Side) (notes : List Status) (q : Part) (w : Fin 16) :
    (flushesOn v r l notes q).window w = q.window w := rfl

theorem flushCopies_copy (p : Part) (r : Request) (y : Side) :
    ((p.flushCopies r).window r.window).copy y = (p.window r.window).copy y := by
  cases hlost : (p.window r.window).lost with
  | some x => rw [flushCopies_of_lost hlost, flushesOn_window]
  | none =>
    rw [flushCopies_of_whole hlost rfl rfl]
    split
    · split
      · rw [flushesOn_window]
      · rw [flushesOn_window, markLost_copy]
    · split
      · rw [flushesOn_window, markLost_copy]
      · rw [flushesOn_window]

theorem asleepStale_eq (p : Part) (w : Fin 16) (x : Side) : (!p.asleepStale w x)
    = (p.copyReady w x || !(p.engine.log.any fun e => decide (e.window = w ∧ e.good = otherSide x))) := by
  have hstale : ∀ e : LogEntry, (e.window == w && e.stale == x) = decide (e.window = w ∧ e.good = otherSide x) := by
    intro e
    have hgood : (e.stale == x) = decide (e.good = otherSide x) := by
      unfold LogEntry.stale
      cases e.good <;> cases x <;> rfl
    rw [hgood, Bool.decide_and, beq_eq_decide]
  unfold Part.asleepStale
  rw [funext hstale, Bool.not_and, Bool.not_not]

/-- The entries of the request's window that are not marked unreadable. -/
def readableEntries (p : Part) (w : Fin 16) : List LogEntry := p.engine.log.filter fun e => e.window == w && !e.unreadable

/-- The entries a MIRROR_BOTH flush waits on are recorded (R103). -/
def entriesRecorded (p : Part) (r : Request) : Part :=
  let bad := p.engine.log.filter fun e => e.window == r.window && e.unreadable
  ({ p with engine := { p.engine with
      log := p.engine.log.map fun e =>
        if e.window = r.window ∧ e.unreadable = false then { e with flushes := e.flushes + 1 } else e
      seek := p.engine.seek || !(readableEntries p r.window).isEmpty } } : Part).modRequest r.id fun x => { x with
    waits := (readableEntries p r.window).map fun e => e.region
    notes := x.notes ++ bad.map fun _ => .media
    failing := if bad = [] then x.failing else match (p.window r.window).lastUnreadable with
      | none => x.failing
      | some o => lowerOffset x.failing o }

theorem recordEntries_eq (p : Part) (r : Request) : p.recordEntries r = entriesRecorded p r := by
  have hreadable : (p.engine.log.filter fun e => e.window == r.window).filter (fun e => !e.unreadable)
      = readableEntries p r.window := by
    rw [List.filter_filter]
    exact List.filter_congr fun e _ => Bool.and_comm ..
  have hbad : (p.engine.log.filter fun e => e.window == r.window).filter (fun e => e.unreadable)
      = p.engine.log.filter fun e => e.window == r.window && e.unreadable := by
    rw [List.filter_filter]
    exact List.filter_congr fun e _ => Bool.and_comm ..
  unfold Part.recordEntries entriesRecorded
  dsimp only
  rw [hreadable, hbad, List.isEmpty_map]
  cases hempty : (readableEntries p r.window).isEmpty with
  | true =>
    simp only [Bool.not_eq_true', List.isEmpty_iff, Bool.not_true, Bool.or_false, if_true]
    rfl
  | false =>
    simp only [Bool.not_eq_true', List.isEmpty_iff, Bool.not_false, Bool.or_true, Bool.false_eq_true, if_false]
    rfl

theorem routeMirrorFlush_of_both (hb : r.mirrorBoth = true) (hmode : p.loader.mode ≠ .readOnly) : p.routeMirrorFlush r =
    if readableEntries p r.window = [] then (entriesRecorded p r).flushCopies r
    else (((entriesRecorded p r).flushCopies r).wakeBay ((p.window r.window).copy .primary).bay).wakeBay
      ((p.window r.window).copy .secondary).bay := by
  have hcopy : ∀ y, (((entriesRecorded p r).flushCopies r).window r.window).copy y = (p.window r.window).copy y :=
    fun y => flushCopies_copy (entriesRecorded p r) r y
  have hany : (p.engine.log.any fun e => e.window == r.window && !e.unreadable) = true ↔ ¬readableEntries p r.window = [] := by
    rw [readableEntries, List.filter_eq_nil_iff, List.any_eq_true]
    push Not
    rfl
  unfold Part.routeMirrorFlush
  rw [if_pos ⟨hb, by simpa [Part.readOnly] using hmode⟩, recordEntries_eq]
  dsimp only
  rw [hcopy, hcopy]
  by_cases hnil : readableEntries p r.window = []
  · rw [if_pos hnil]
    exact if_neg (mt hany.1 (not_not.2 hnil))
  · rw [if_neg hnil]
    exact if_pos (hany.2 hnil)

theorem routeMirrorFlush_of_plain (h : r.mirrorBoth = false ∨ p.loader.mode = .readOnly) :
    p.routeMirrorFlush r = p.flushCopies r := by
  refine if_neg fun ⟨hb, hmode⟩ => ?_
  rcases h with h | h
  · simp [h] at hb
  · simp [Part.readOnly, h] at hmode

/-- The second FLUSH operations of a request whose every other operation has ended (R103). -/
theorem advance_of_second (hlife : r.life = .atBays) (hrouted : r.routed = true)
    (hfrags : ∀ f ∈ r.frags, f.result.isSome = true) (hwaits : r.waits = []) (hsecond : r.second ≠ []) :
    p.advance r = some (p.secondFlush r) := by
  have hnext : Part.nextFragment r = none := by
    refine List.findIdx?_eq_none_iff.2 fun f hf => ?_
    have hsome := hfrags f hf
    cases hres : f.result with
    | none => simp [hres] at hsome
    | some st => simp
  unfold Part.advance
  rw [if_neg (by simp [hlife]), if_neg (by simp [hlife, hnext]), if_pos (by simp [hrouted, hwaits, hsecond])]

end

/-! ## The status and the effect of a WRITE (R99, R100) -/

theorem oneCopyWritten_eq (p : Part) (w : Fin 16) (gs : List Nat) (x : Side) (res : Status) :
    p.oneCopyWritten w gs x res = if res = .media ∨ res = .timeout
      then (p.tryLog w gs x).getD (p.markLost w (otherSide x)) else p.markLost w (otherSide x) := by
  unfold Part.oneCopyWritten
  rw [logOrLose_eq]

theorem oneCopyStatus_of_held {p : Part} {w : Fin 16} {gs : List Nat} {x : Side} {res : Status}
    (h : ∃ e ∈ p.engine.log, e.window = w ∧ e.region ∈ gs ∧ e.good = otherSide x) : p.oneCopyStatus w gs x res = res := by
  obtain ⟨e, he, hw, hg, hgood⟩ := h
  exact if_pos (List.any_eq_true.2 ⟨e, mem_loggedAmong.2 ⟨he, hw, hg⟩, by simp [hgood]⟩)

theorem oneCopyStatus_of_not_held {p : Part} {w : Fin 16} {gs : List Nat} {x : Side} {res : Status}
    (h : ¬∃ e ∈ p.engine.log, e.window = w ∧ e.region ∈ gs ∧ e.good = otherSide x) :
    p.oneCopyStatus w gs x res = .okDegraded := by
  refine if_neg fun hany => h ?_
  obtain ⟨e, he, hgood⟩ := List.any_eq_true.1 hany
  obtain ⟨hl, hw, hg⟩ := mem_loggedAmong.1 he
  exact ⟨e, hl, hw, hg, by simpa using hgood⟩

section
variable {p : Part} {r : Request} {a b : Status}

theorem pairEnd_of_lost {x : Side} (h : (p.window r.window).lost = some x) : p.pairEnd r a b =
    (p, if (if x = .primary then b else a) = .ok then .okDegraded else if x = .primary then b else a) := by
  unfold Part.pairEnd
  dsimp only
  rewrite [h]
  rfl

/-- The pair of a window without a LOST member goes by which of the two writes ended OK. -/
theorem pairEnd_of_whole (h : (p.window r.window).lost = none) {x y : Bool} (ha : decide (a = .ok) = x) (hb : decide (b = .ok) = y) :
    p.pairEnd r a b =
      if x = true then
        if y = true then (p, .ok)
        else (p.oneCopyWritten r.window (touched r.offset r.count) .primary b,
          p.oneCopyStatus r.window (touched r.offset r.count) .primary b)
      else if y = true then (p.oneCopyWritten r.window (touched r.offset r.count) .secondary a,
          p.oneCopyStatus r.window (touched r.offset r.count) .secondary a)
        else (p, worse a b) := by
  subst ha hb
  unfold Part.pairEnd
  dsimp only
  rewrite [h]
  cases decide (a = .ok) <;> cases decide (b = .ok) <;> rfl

/-- The result of `r`'s write on copy `x`, OK where it has none. -/
def resultOn (r : Request) (x : Side) : Status := (Part.copyResult r x).getD .ok

/-- The survivor's result is the status, and nothing is done for the target. -/
theorem survivorEnd_of_kept {x : Side}
    (h : resultOn r x ≠ .ok ∨ resultOn r (otherSide x) = .ok ∨ (p.window r.window).lost.isSome = true) :
    p.survivorEnd r x = (p, if resultOn r x = .ok then .okDegraded else resultOn r x) := by
  unfold Part.survivorEnd
  dsimp only
  cases ht : Part.copyResult r (otherSide x) with
  | none => rfl
  | some t =>
    refine if_neg fun ⟨hok, hbad, hlost⟩ => ?_
    rcases h with h | h | h
    · exact h hok
    · exact hbad (by simpa [resultOn, ht] using h)
    · rw [Option.isNone_iff_eq_none.1 hlost] at h
      exact absurd h (by decide)

/-- A target that failed where its survivor was written, after the rebuild's end. -/
theorem survivorEnd_of_written {x : Side} (hok : resultOn r x = .ok) (hbad : resultOn r (otherSide x) ≠ .ok)
    (hlost : (p.window r.window).lost = none) : p.survivorEnd r x =
      (p.oneCopyWritten r.window (touched r.offset r.count) x (resultOn r (otherSide x)),
        if resultOn r x = .ok then .okDegraded else resultOn r x) := by
  unfold Part.survivorEnd
  dsimp only
  cases ht : Part.copyResult r (otherSide x) with
  | none => exact absurd (by simp [resultOn, ht]) hbad
  | some t =>
    have htarget : resultOn r (otherSide x) = t := by simp [resultOn, ht]
    rw [htarget] at hbad ⊢
    exact if_pos ⟨hok, hbad, by rw [hlost]; rfl⟩

theorem gathered_of_survivor {x : Side} (h : r.gather = .survivor x) : p.gathered r = p.survivorEnd r x := by
  unfold Part.gathered
  rewrite [h]
  rfl

end

/-- Settles O18. -/
theorem mirrorWriteCopiesAndPair : Obligations.MirrorWriteCopiesAndPair := by
  refine ⟨fun p r hlayout hkind => ?_, fun p r hlayout hkind => ?_, fun p r => ?_, fun p r a b => ?_⟩
  · intro w v gs on goes again both redirtied mine
    have hroute : p.route r = p.routeMirrorWrite r := route_of_mirror_write hlayout hkind
    have hone : ∀ (q : Part) x g, (∀ y, (q.window w).copy y = v.copy y) → q.writeOne r x g = goes q [x] g :=
      fun q x g hq => writeOne_eq hq x g
    have hboth : ∀ (q : Part) g, (∀ y, (q.window w).copy y = v.copy y) → q.writeBoth r g = both q g :=
      fun q g hq => writeBoth_eq hq g
    have hredirty : ∀ q : Part, q.redirty w gs = redirtied q := fun q => redirty_eq q w gs
    refine ⟨fun x hlost => ⟨fun hcur => ?_, fun g hcur => ⟨fun hall => ?_, fun hreached => ?_⟩⟩, fun hlost => ?_⟩
    · exact hroute.trans ((routeMirrorWrite_of_lost hlost hcur).trans (hone p _ _ fun _ => rfl))
    · refine hroute.trans ((routeMirrorWrite_of_rebuild hlost hcur).trans ((if_pos ?_).trans ?_))
      · exact List.all_eq_true.2 fun y hy => decide_eq_true (hall y hy)
      · rw [hone p _ _ fun _ => rfl]
        exact markAgain_eq r false _
    · refine hroute.trans ((routeMirrorWrite_of_rebuild hlost hcur).trans ((if_neg ?_).trans (hboth p _ fun _ => rfl)))
      obtain ⟨y, hy, hyg⟩ := hreached
      exact fun hall => absurd (of_decide_eq_true (List.all_eq_true.1 hall y hy)) (Nat.not_lt.2 hyg)
    refine ⟨fun x hu hu' => ?_, fun hu hu' => ?_, fun hu hu' => ?_⟩
    · have hmarked := hone (p.markLost w (otherSide x)) x (.survivor x) fun y => markLost_copy p w (otherSide x) y
      cases x with
      | primary => exact hroute.trans ((routeMirrorWrite_of_whole hlost hu hu').trans hmarked)
      | secondary => exact hroute.trans ((routeMirrorWrite_of_whole hlost hu' hu).trans hmarked)
    · exact hroute.trans ((routeMirrorWrite_of_whole hlost hu hu').trans (hone p _ _ fun _ => rfl))
    have husable : p.route r = p.routeUsableWrite r := hroute.trans (routeMirrorWrite_of_whole hlost hu hu')
    have hlogged : ∀ q g, p.tryLog w gs g = some q → q.window w = v := fun q g hq => by
      unfold Part.window
      rw [(tryLog_keeps hq).1]
      rfl
    have hbothRedirtied : (p.redirty w gs).writeBoth r .both = both (redirtied p) .both :=
      (hboth _ _ fun y => by rw [hredirty]; rfl).trans (by rw [hredirty])
    refine ⟨fun g hsome hall => ?_, fun e e' he he' hne => ?_, fun hno => ⟨fun hready => ?_, fun hready hlazy => ?_⟩⟩
    · obtain ⟨e, he⟩ := hsome
      have hgood := agreedGood_of_touched (p := p) (w := w) (gs := gs) ⟨e, he⟩ hall
      have hto := husable.trans (routeUsableWrite_of_touched he)
      refine ⟨fun q hq => hto.trans ?_, fun hfull => hto.trans ?_⟩
      · rewrite [hgood]
        dsimp only
        rewrite [hq]
        refine (hone _ _ _ fun y => ?_).trans (by rw [hredirty])
        rw [hredirty]
        exact congrArg (fun v : Window => v.copy y) (hlogged q g hq)
      · rewrite [hgood]
        dsimp only
        rewrite [hfull]
        exact hbothRedirtied
    · have hto := husable.trans (routeUsableWrite_of_touched he)
      refine hto.trans ?_
      rewrite [agreedGood_of_disagree he he' hne]
      exact hbothRedirtied
    · refine husable.trans ((routeUsableWrite_of_unlogged hno).trans ((if_neg ?_).trans (hboth p _ fun _ => rfl)))
      rintro ⟨hr, hlazy⟩
      rcases hready with h | h
      · rw [show p.copyReady r.window .secondary = true from h] at hr
        exact absurd hr (by decide)
      · rw [show (p.window r.window).lazyAttr = false from h] at hlazy
        exact absurd hlazy (by decide)
    · have hto := husable.trans ((routeUsableWrite_of_unlogged hno).trans (if_pos
        ⟨by rw [show p.copyReady r.window .secondary = false from hready]; rfl, hlazy⟩))
      refine ⟨fun hfull => hto.trans ?_, fun q hq => hto.trans ?_⟩
      · rewrite [hfull]
        exact hboth p _ fun _ => rfl
      · rewrite [hq]
        exact hone q _ _ fun y => congrArg (fun v : Window => v.copy y) (hlogged q _ hq)
  · intro w v on goes waitedOn bad recorded
    have hgoes : ∀ (q : Part) l notes, flushesOn v r l notes q = goes q l notes := fun _ _ _ => rfl
    have hroute : p.route r = p.routeMirrorFlush r := route_of_mirror_flush hlayout hkind
    refine ⟨fun x hlost => ⟨fun hcur => ?_, fun hcur => ?_⟩, fun hlost => ⟨fun x hu hu' => ?_, fun hu hu' => ?_, fun hu hu' => ?_⟩,
      fun hplain => hroute.trans (routeMirrorFlush_of_plain hplain), fun hb hmode => ⟨fun hnil => ?_, fun hsome => ?_⟩,
      fun hlife hrouted hfrags hwaits hsecond => advance_of_second hlife hrouted hfrags hwaits hsecond⟩
    · rw [flushCopies_of_lost hlost, show (p.window r.window).cursor = none from hcur]
      rfl
    · refine (flushCopies_of_lost hlost).trans ?_
      rw [if_pos hcur]
      exact hgoes ..
    · cases x with
      | primary => exact flushCopies_of_whole hlost hu hu'
      | secondary => exact flushCopies_of_whole hlost hu' hu
    · exact flushCopies_of_whole hlost hu hu'
    · refine (flushCopies_of_whole hlost hu hu').trans ?_
      rw [funext (asleepStale_eq p r.window)]
      rfl
    · exact hroute.trans ((routeMirrorFlush_of_both hb hmode).trans (if_pos hnil))
    · exact hroute.trans ((routeMirrorFlush_of_both hb hmode).trans (if_neg hsome))
  · intro res
    refine ⟨fun hg => ?_, fun x hg => ?_⟩
    · unfold Part.gathered
      rewrite [hg]
      rfl
    · intro st
      have hgathered : p.gathered r = p.survivorEnd r x := gathered_of_survivor hg
      refine ⟨fun hend => hgathered.trans (survivorEnd_of_kept hend), fun hok hbad hlost => hgathered.trans ?_⟩
      rewrite [survivorEnd_of_written hok hbad hlost, oneCopyWritten_eq]
      rfl
  · intro w gs holds
    refine ⟨fun x hlost => pairEnd_of_lost hlost, fun hlost => ⟨fun ha hb => ?_, fun ha hb => ?_, fun ha hb => ?_, fun ha hb => ?_⟩⟩
    · exact pairEnd_of_whole hlost (decide_eq_true ha) (decide_eq_true hb)
    · exact pairEnd_of_whole hlost (decide_eq_false ha) (decide_eq_false hb)
    · have hpair : p.pairEnd r a b = (p.oneCopyWritten w gs .primary b, p.oneCopyStatus w gs .primary b) :=
        pairEnd_of_whole hlost (decide_eq_true ha) (decide_eq_false hb)
      rw [hpair, oneCopyWritten_eq]
      exact ⟨fun h => if_pos h, fun h h' => if_neg (not_or.2 ⟨h, h'⟩), fun h => oneCopyStatus_of_held h,
        fun h => oneCopyStatus_of_not_held h⟩
    · have hpair : p.pairEnd r a b = (p.oneCopyWritten w gs .secondary a, p.oneCopyStatus w gs .secondary a) :=
        pairEnd_of_whole hlost (decide_eq_false ha) (decide_eq_true hb)
      rw [hpair, oneCopyWritten_eq]
      exact ⟨fun h => if_pos h, fun h h' => if_neg (not_or.2 ⟨h, h'⟩), fun h => oneCopyStatus_of_held h,
        fun h => oneCopyStatus_of_not_held h⟩

end Sys2Proof.Machine
end

section
/-! PROOFS. PATROL_SET, the due of a compare chunk, and the end of one (O39). -/

namespace Sys2Proof.Machine

open Sys2Proof

/-! ## Slots compared by their listed cells -/

theorem mem_iff_readByte {m : List Host.Cell} (h : memWf m) (a : Nat) (v : Byte) : (a, v) ∈ m ↔ v ≠ 0 ∧ readByte m a = v := by
  induction m with
  | nil => simp only [List.not_mem_nil, readByte, false_iff, not_and]; exact fun hv => Ne.symm hv
  | cons c m ih =>
    obtain ⟨hhead, htail⟩ := List.pairwise_cons.1 h.1
    have hm : memWf m := ⟨htail, fun x hx => h.2 x (List.mem_cons_of_mem c hx)⟩
    rw [List.mem_cons, ih hm, readByte]
    split
    · next hca =>
      have habsent : readByte m a = 0 := readByte_of_lt m a fun x hx => hca ▸ hhead x hx
      rw [habsent]
      constructor
      · rintro (rfl | ⟨hv, h0⟩)
        · exact ⟨h.2 _ List.mem_cons_self, rfl⟩
        · exact absurd h0.symm hv
      · rintro ⟨-, rfl⟩
        exact .inl (by rw [← hca])
    · next hca =>
      constructor
      · rintro (rfl | h)
        · exact absurd rfl hca
        · exact h
      · exact .inr

theorem mem_slotCells (m : List Host.Cell) (s i : Nat) (v : Byte) :
    (i, v) ∈ slotCells m s ↔ i < 4096 ∧ (4096 * s + i, v) ∈ m := by
  refine List.mem_map.trans ⟨?_, fun ⟨hi, hmem⟩ => ⟨(4096 * s + i, v), List.mem_filter.2 ⟨hmem, ?_⟩, ?_⟩⟩
  · rintro ⟨⟨a, b⟩, hmem, heq⟩
    obtain ⟨rfl, rfl⟩ := Prod.mk.inj heq
    obtain ⟨hmem, hrange⟩ := List.mem_filter.1 hmem
    obtain ⟨hlo, hhi⟩ := of_decide_eq_true hrange
    simp only [Config.blockBytes] at hlo hhi ⊢
    exact ⟨by omega, by rwa [Nat.add_sub_of_le hlo]⟩
  · exact decide_eq_true (by simp only [Config.blockBytes]; omega)
  · exact Prod.ext (Nat.add_sub_cancel_left ..) rfl

theorem slotCells_pairwise {m : List Host.Cell} (h : memWf m) (s : Nat) :
    (slotCells m s).Pairwise fun x y => x.1 < y.1 := by
  refine List.pairwise_map.2 ((h.1.filter _).imp_of_mem fun {x y} hx _ hxy => ?_)
  have hlo : 4096 * s ≤ x.1 := (of_decide_eq_true (List.mem_filter.1 hx).2).1
  simp only [Config.blockBytes]
  omega

/-- Two lists of cells in rising order that hold the same cells are equal. -/
theorem cells_ext {l k : List Host.Cell} (hl : l.Pairwise fun x y => x.1 < y.1) (hk : k.Pairwise fun x y => x.1 < y.1)
    (h : ∀ c, c ∈ l ↔ c ∈ k) : l = k := by
  have hnodup : ∀ {r : List Host.Cell}, (r.Pairwise fun x y => x.1 < y.1) → r.Nodup :=
    fun hr => hr.imp fun {x y} hxy heq => absurd (congrArg Prod.fst heq) (Nat.ne_of_lt hxy)
  exact ((List.perm_ext_iff_of_nodup (hnodup hl) (hnodup hk)).2 h).eq_of_pairwise
    (fun x y _ _ hxy hyx => absurd hxy (Nat.lt_asymm hyx)) hl hk

theorem slotCells_eq_iff {m : List Host.Cell} (h : memWf m) (s t : Nat) :
    slotCells m s = slotCells m t ↔ readSlot m s = readSlot m t := by
  have hread : readSlot m s = readSlot m t ↔ ∀ i < 4096, readByte m (4096 * s + i) = readByte m (4096 * t + i) := by
    simp [readSlot, Config.blockBytes]
  rw [hread]
  constructor
  · intro heq i hi
    have hsame : ∀ v : Byte, v ≠ 0 → (readByte m (4096 * s + i) = v ↔ readByte m (4096 * t + i) = v) := fun v hv => by
      have hmem : (i, v) ∈ slotCells m s ↔ (i, v) ∈ slotCells m t := by rw [heq]
      simp only [mem_slotCells, mem_iff_readByte h] at hmem
      exact ⟨fun hs => (hmem.1 ⟨hi, hv, hs⟩).2.2, fun ht => (hmem.2 ⟨hi, hv, ht⟩).2.2⟩
    by_cases hz : readByte m (4096 * s + i) = 0
    · by_cases hz' : readByte m (4096 * t + i) = 0
      · rw [hz, hz']
      · exact (hsame _ hz').2 rfl
    · exact ((hsame _ hz).1 rfl).symm
  · intro hbytes
    refine cells_ext (slotCells_pairwise h s) (slotCells_pairwise h t) fun ⟨i, v⟩ => ?_
    simp only [mem_slotCells, mem_iff_readByte h]
    exact and_congr_right fun hi => by rw [hbytes i hi]

theorem copiesAgree_iff {p : Part} {c : Chunk} (h : memWf p.router.data) : p.copiesAgree c = true ↔
    ∀ i < c.count, readSlot p.router.data ((c.slots[i]?).getD 0) = readSlot p.router.data ((c.slots[64 + i]?).getD 0) := by
  simp only [Part.copiesAgree, Part.copiesAgree.byIndex, List.all_eq_true, List.mem_range, beq_iff_eq, slotCells_eq_iff h]

/-! ## Patrol cursors -/

/-- The part with window `w`'s patrol record changed. -/
def patrolPut (w : Fin 16) (f : PatrolRecord → PatrolRecord) (p : Part) : Part :=
  p.modWindow w fun v => { v with patrol := v.patrol.map f }

/-- The patrol record at the end of a pass, at counter `t` (R123). -/
def passEnded (t : Nat) (y : PatrolRecord) : PatrolRecord :=
  { y with passes := bump 65535 y.passes, lastEnd := some t, region := 0, chunk := 0 }

/-- The cursor of window `w`, `n` blocks long, moved past region `g` at counter `t` (R122). -/
def regionPassed (n t : Nat) (w : Fin 16) (g : Nat) (p : Part) : Part :=
  if g < (n - 1) / 4096 then patrolPut w (fun y => { y with region := g + 1, chunk := 0 }) p else patrolPut w (passEnded t) p

/-- The cursor of window `w`, `n` blocks long, moved past chunk `k` of region `g` at counter `t` (R123). -/
def chunkPassed (n t : Nat) (w : Fin 16) (g k : Nat) (p : Part) : Part :=
  if k + 1 = 64 ∨ n ≤ g * 4096 + (k + 1) * 64 then regionPassed n t w g p
  else patrolPut w (fun y => { y with region := g, chunk := k + 1 }) p

section
variable {p : Part} {w : Fin 16} {n t : Nat} (hn : (p.window w).length = n) (ht : p.clock.counter = t)
include hn ht

theorem cursorPast_eq (g : Nat) : p.cursorPast w g = regionPassed n t w g p := by
  have hend : g + 1 > (p.window w).lastRegion ↔ ¬g < (n - 1) / 4096 := by
    rw [Window.lastRegion, hn, Config.regionBlocks]
    omega
  unfold Part.cursorPast regionPassed
  by_cases hg : g < (n - 1) / 4096
  · rw [if_neg (fun h => hend.1 h hg), if_pos hg]
    rfl
  · rw [if_pos (hend.2 hg), if_neg hg, ← ht]
    rfl

theorem cursorAdvance_eq (g k : Nat) : p.cursorAdvance w g k = chunkPassed n t w g k p := by
  rw [Part.cursorAdvance, cursorPast_eq hn ht, hn]
  rfl

end

/-! ## What a log or a repair keeps of the windows and the clock -/

theorem markLost_length (p : Part) (w : Fin 16) (x : Side) : ((p.markLost w x).window w).length = (p.window w).length := by
  obtain ⟨lost, orphaned, h⟩ := markLost_windows p w x
  rw [Part.window, h]
  simp [Part.window]

theorem logOrLose_keeps (p : Part) (w : Fin 16) (gs : List Nat) (good : Side) :
    ((p.logOrLose w gs good).window w).length = (p.window w).length ∧ (p.logOrLose w gs good).clock = p.clock := by
  rw [logOrLose_eq]
  cases h : p.tryLog w gs good with
  | none => exact ⟨markLost_length p w _, markLost_clock p w _⟩
  | some q =>
    obtain ⟨hwindows, hclock⟩ := tryLog_keeps h
    exact ⟨congrArg Window.length (congrArg (·[w]) hwindows), hclock⟩

theorem tryRepair_keeps {p q : Part} {w : Fin 16} {x : Side} {o n : Nat} (h : p.tryRepair w x o n = some q) :
    q.windows = p.windows ∧ q.clock = p.clock := by
  unfold Part.tryRepair at h
  dsimp only at h
  split at h
  · obtain rfl := Option.some.inj h
    exact ⟨rfl, rfl⟩
  · split at h
    · split at h
      · exact absurd h nofun
      · obtain rfl := Option.some.inj h
        exact ⟨rfl, rfl⟩
    · split at h
      · obtain rfl := Option.some.inj h
        exact ⟨rfl, rfl⟩
      · exact absurd h nofun

/-! ## The end of a compare chunk -/

/-- A compare chunk once the READ on copy `x` has ended, `media` saying how (R120). -/
def readHeard (c : Chunk) (x : Side) (media : Bool) : Chunk := { c with
  resPrimary := if x = .primary then some media else c.resPrimary
  resSecondary := if x = .secondary then some media else c.resSecondary }

/-- The part once the READ of chunk `c` on copy `x` has ended. -/
def partHeard (p : Part) (c : Chunk) (x : Side) (media : Bool) : Part :=
  { p with engine := { p.engine with chunk := some (readHeard c x media) } }

section
variable {p : Part} {c : Chunk} (hc : p.engine.chunk = some c)
include hc

theorem reportResult_of_patrol {o : BayOp} {x : Side} {res : Status} {block : Option Nat} (hk : c.kind = .patrol)
    (ha : c.abandoned = false) (ho : o.parent = .chunk x) (hres : res = .ok ∨ res = .media) :
    p.reportResult res block o = p.patrolRead x (decide (res = .media)) := by
  unfold Part.reportResult
  rw [ho]
  change p.chunkResult x o.kind res block = _
  unfold Part.chunkResult
  rw [hc]
  dsimp only
  rw [if_neg (by simp [ha])]
  obtain rfl | rfl := hres
  · exact if_pos hk
  · exact if_pos hk

theorem patrolRead_of_first {x : Side} (media : Bool) (h : (if x = .primary then c.resSecondary else c.resPrimary) = none) :
    p.patrolRead x media = partHeard p c x media := by
  cases x <;> simp_all [Part.patrolRead, Part.modChunk, partHeard, readHeard]

theorem patrolRead_of_both {x : Side} {y : Bool} (media : Bool)
    (h : (if x = .primary then c.resSecondary else c.resPrimary) = some y) : p.patrolRead x media
      = (partHeard p c x media).patrolEnd (readHeard c x media) (if x = .primary then media else y)
        (if x = .primary then y else media) := by
  cases x <;> simp_all [Part.patrolRead, Part.modChunk, partHeard, readHeard]

end

section
variable {p : Part} {c : Chunk}

theorem patrolEnd_of_gone (a b : Bool) (h : (p.window c.window).st ≠ .opened) : p.patrolEnd c a b = chunkEnded p :=
  (if_pos h).trans (Part.endChunk_eq p)

theorem patrolEnd_of_lost (a b : Bool) (hst : (p.window c.window).st = .opened) (h : (p.window c.window).lost.isSome = true) :
    p.patrolEnd c a b = chunkEnded (p.modWindow c.window fun v => { v with due := true }) :=
  (if_neg (not_not.2 hst)).trans ((if_pos h).trans (Part.endChunk_eq _))

variable (hst : (p.window c.window).st = .opened) (hlost : (p.window c.window).lost = none)
include hst hlost

theorem patrolEnd_of_logged (a b : Bool) (h : p.logged c.window (c.offset / 4096) = true) :
    p.patrolEnd c a b = chunkEnded (p.cursorPast c.window (c.offset / 4096)) :=
  (if_neg (not_not.2 hst)).trans ((if_neg (by simp [hlost])).trans ((if_pos h).trans (Part.endChunk_eq _)))

variable (hlog : p.logged c.window (c.offset / 4096) = false)
include hlog

theorem patrolEnd_of_again (a b : Bool) (h : c.again = true) : p.patrolEnd c a b = p.chunkAgain :=
  (if_neg (not_not.2 hst)).trans ((if_neg (by simp [hlost])).trans ((if_neg (Bool.not_eq_true _ ▸ hlog)).trans (if_pos h)))

/-- What the end of a compare chunk that is judged on its two READs does (R123 to R125). -/
theorem patrolEnd_of_judged (h : c.again = false) :
    (p.patrolEnd c true true = chunkEnded ((p.modWindow c.window fun v => { v with
      unrepairable := bump 65535 v.unrepairable }).cursorAdvance c.window (c.offset / 4096) (c.offset % 4096 / 64)))
    ∧ (∀ z, p.patrolEnd c (decide (z = Side.primary)) (decide (z = Side.secondary))
      = chunkEnded (p.patrolRepair c.window (c.offset / 4096) (c.offset % 4096 / 64) c.offset c.count z))
    ∧ p.patrolEnd c false false = if p.copiesAgree c then chunkEnded (p.cursorAdvance c.window (c.offset / 4096)
        (c.offset % 4096 / 64)) else chunkEnded (p.mismatch c.window (c.offset / 4096)) := by
  have hend (a b : Bool) : p.patrolEnd c a b = match a, b with
      | true, true => ((p.modWindow c.window fun v => { v with
          unrepairable := bump 65535 v.unrepairable }).cursorAdvance c.window (c.offset / 4096) (c.offset % 4096 / 64)).endChunk
      | true, false => (p.patrolRepair c.window (c.offset / 4096) (c.offset % 4096 / 64) c.offset c.count .primary).endChunk
      | false, true => (p.patrolRepair c.window (c.offset / 4096) (c.offset % 4096 / 64) c.offset c.count .secondary).endChunk
      | false, false => if p.copiesAgree c then (p.cursorAdvance c.window (c.offset / 4096) (c.offset % 4096 / 64)).endChunk
        else (p.mismatch c.window (c.offset / 4096)).endChunk :=
    (if_neg (not_not.2 hst)).trans ((if_neg (by simp [hlost])).trans ((if_neg (Bool.not_eq_true _ ▸ hlog)).trans
      (if_neg (by simp [h]))))
  refine ⟨(hend true true).trans (Part.endChunk_eq _), fun z => ?_, (hend false false).trans ?_⟩
  · cases z
    · exact (hend true false).trans (Part.endChunk_eq _)
    · exact (hend false true).trans (Part.endChunk_eq _)
  · simp only [← Part.endChunk_eq]

end

section
variable {p : Part} {w : Fin 16} {n t : Nat} (hn : (p.window w).length = n) (ht : p.clock.counter = t)
include hn ht

theorem patrolRepair_of_queued {r : Part} {x : Side} {o count : Nat} (g k : Nat) (h : p.tryRepair w x o count = some r) :
    p.patrolRepair w g k o count x = chunkPassed n t w g k r := by
  obtain ⟨hwindows, hclock⟩ := tryRepair_keeps h
  unfold Part.patrolRepair
  rewrite [h]
  exact cursorAdvance_eq ((congrArg (fun v => Window.length v[w]) hwindows :).trans hn)
    ((congrArg Clock.counter hclock :).trans ht) g k

theorem patrolRepair_of_full {x : Side} {o count : Nat} (g k : Nat) (h : p.tryRepair w x o count = none) :
    p.patrolRepair w g k o count x = regionPassed n t w g (p.logOrLose w [g] (otherSide x)) := by
  obtain ⟨hlength, hclock⟩ := logOrLose_keeps p w [g] (otherSide x)
  unfold Part.patrolRepair
  rewrite [h]
  exact cursorPast_eq (hlength.trans hn) ((congrArg Clock.counter hclock :).trans ht) g

theorem mismatch_eq (g : Nat) : p.mismatch w g = regionPassed n t w g
    (((patrolPut w (fun y => { y with mismatches := bump 65535 y.mismatches }) p).logOrLose w [g] .primary).raise
      .patrolMismatch) := by
  have hput : ((patrolPut w (fun y => { y with mismatches := bump 65535 y.mismatches }) p).window w).length
      = (p.window w).length := by simp [patrolPut, Part.modWindow, Part.window]
  obtain ⟨hlength, hclock⟩ := logOrLose_keeps (patrolPut w (fun y => { y with mismatches := bump 65535 y.mismatches }) p) w
      [g] .primary
  refine cursorPast_eq (Eq.trans ?_ (hlength.trans (hput.trans hn))) (Eq.trans ?_ ((congrArg Clock.counter hclock :).trans ht)) g
  · exact congrArg (fun v : Vector Window 16 => Window.length v[w]) (Part.raise_windows ..)
  · exact congrArg Clock.counter (Part.raise_clock ..)

end

theorem logged_iff (p : Part) (w : Fin 16) (g : Nat) :
    p.logged w g = true ↔ ∃ e ∈ p.engine.log, e.window = w ∧ e.region = g := by
  simp [Part.logged, LogEntry.isFor]

/-! ## PATROL_SET -/

theorem abandonPatrol_of_chunk {p : Part} {c : Chunk} {w : Fin 16} (h : p.engine.chunk = some c) (hw : c.window = w)
    (hk : c.kind = .patrol) : p.abandonPatrol w = p.abandonChunk := by
  unfold Part.abandonPatrol
  rewrite [h]
  exact if_pos ⟨hw, hk⟩

theorem abandonPatrol_of_none {p : Part} {w : Fin 16} (h : ∀ c, p.engine.chunk = some c → ¬(c.window = w ∧ c.kind = .patrol)) :
    p.abandonPatrol w = p := by
  unfold Part.abandonPatrol
  split
  · next c hc => exact if_neg (h c hc)
  · rfl

/-- The checks of PATROL_SET after the index, in order (R115). -/
theorem patrolChecks_eq (p : Part) (w : Fin 16) (a : PatrolArgs) : firstRefusal (p.patrolChecks w a) =
    if 65535 < a.interval then some .badRequest
    else if (p.window w).st = .free then some .noWindow
    else if (p.window w).st = .closing then some .busy
    else if (p.window w).layout = .mirror ∧ (p.window w).patrolAttr = true then none else some .badRequest := by
  simp only [Part.patrolChecks, firstRefusal, Window.inUse, decide_eq_true_eq, ← Nat.not_le, ite_not]
  cases (p.window w).st <;> simp

theorem patrolApplied_eq (a : PatrolArgs) (v : Window) : Part.patrolApplied a v =
    let i := if 3600 < a.interval then 3600 else a.interval
    { v with
      interval := i, timer := 0, due := decide (v.due = true ∧ i ≠ 0)
      patrol := v.patrol.map fun r => {
        region := if a.restartPass then 0 else r.region, chunk := if a.restartPass then 0 else r.chunk
        passes := if a.clearCounts then 0 else r.passes, mismatches := if a.clearCounts then 0 else r.mismatches
        lastEnd := if a.clearCounts then none else r.lastEnd } } := by
  have hclamp : clampInterval a.interval = if 3600 < a.interval then 3600 else a.interval := by
    unfold clampInterval
    split <;> omega
  have hdue (i : Nat) : (if i = 0 then false else v.due) = decide (v.due = true ∧ i ≠ 0) := by
    by_cases h : i = 0 <;> simp [h]
  unfold Part.patrolApplied
  dsimp only
  rw [hclamp, hdue]
  cases a.restartPass <;> cases a.clearCounts <;> rfl

/-- Settles O39: a compare chunk's end is taken apart in the order of R122, the checks of PATROL_SET in the order of R115. -/
theorem patrolSetAndDue : Obligations.PatrolSetAndDue := by
  unfold Obligations.PatrolSetAndDue
  refine ⟨fun p c o x res block hc hk ha ho hwf hres => ?_, fun via a s ht => ?_, fun p c hc hk hphase ha => ?_,
      fun w s hheld => ?_⟩
  · intro w g k other d q put up patrolled past advanced logged gives
    have hread : p.reportResult res block o = p.patrolRead x (decide (res = .media)) :=
      reportResult_of_patrol hc hk ha ho hres
    have hpast (r : Part) : past r = regionPassed (p.window w).length p.clock.counter w g r := rfl
    have hlogged (r : Part) (good : Side) : r.logOrLose w [g] good = logged r good := logOrLose_eq r w [g] good
    refine ⟨fun h => hread.trans (patrolRead_of_first hc _ h), fun y hy => ?_⟩
    intro a b v
    have hend : p.reportResult res block o = q.patrolEnd d a b := hread.trans (patrolRead_of_both hc _ hy)
    refine ⟨fun hst => hend.trans (patrolEnd_of_gone a b hst), fun hst hl => hend.trans (patrolEnd_of_lost a b hst hl),
      fun hst hl => ⟨fun hlog => ?_, fun hlog => ?_⟩⟩
    · refine (hend.trans (patrolEnd_of_logged (p := q) (c := d) hst hl a b ((logged_iff ..).2 hlog))).trans (congrArg chunkEnded ?_)
      exact cursorPast_eq (p := q) rfl rfl g
    · have hno : q.logged d.window (d.offset / 4096) = false :=
        Bool.eq_false_iff.2 fun h => by
          obtain ⟨e, he, hfor⟩ := (logged_iff ..).1 h
          exact hlog e he hfor
      refine ⟨fun hagain => (hend.trans (patrolEnd_of_again (p := q) (c := d) hst hl hno a b hagain)).trans ?_, fun hagain => ?_⟩
      · simp [Part.chunkAgain, Part.modChunk, q, d, hk]
      · obtain ⟨hboth, hone, hnone⟩ := patrolEnd_of_judged (p := q) (c := d) hst hl hno hagain
        refine ⟨fun ha hb => ?_, fun z hz => ?_, fun ha hb => ?_⟩
        · rw [ha, hb, hboth] at hend
          refine hend.trans (congrArg chunkEnded ?_)
          exact cursorAdvance_eq (by simp [Part.modWindow, Part.window, q, w, d]) rfl g k
        · have hz' : a = decide (z = .primary) ∧ b = decide (z = .secondary) := by
            obtain ⟨rfl, ha, hb⟩ | ⟨rfl, ha, hb⟩ := hz <;> exact ⟨ha, hb⟩
          rw [hz'.1, hz'.2, hone] at hend
          refine ⟨fun r hr => hend.trans (congrArg chunkEnded ?_), fun hfull => hend.trans (congrArg chunkEnded ?_)⟩
          · exact patrolRepair_of_queued (p := q) rfl rfl g k hr
          · rw [hpast, ← hlogged]
            exact patrolRepair_of_full (p := q) rfl rfl g k hfull
        · rw [ha, hb, hnone] at hend
          refine ⟨fun hsame => ?_, fun hdiffer => ?_⟩
          · rw [if_pos ((copiesAgree_iff (p := q) (c := d) hwf).2 hsame)] at hend
            exact hend.trans (congrArg chunkEnded (cursorAdvance_eq (p := q) rfl rfl g k))
          · rw [if_neg (fun h => hdiffer ((copiesAgree_iff (p := q) (c := d) hwf).1 h))] at hend
            refine hend.trans (congrArg chunkEnded ?_)
            rw [hpast, ← hlogged]
            exact mismatch_eq (p := q) rfl rfl g
  · intro q who c
    have hgives {r : Part} (hr : q.patrolSet a who = r) : Gives c s r := gives_command ht rfl rfl rfl hr
    refine ⟨fun hbad => hgives ?_, fun w hw hlen => ?_⟩
    · by_cases hn : 16 ≤ a.index
      · exact Part.onWindow_of_le hn
      · obtain ⟨w, hw⟩ : ∃ w : Fin 16, a.index = w.val := ⟨⟨a.index, Nat.not_le.1 hn⟩, rfl⟩
        unfold Part.patrolSet
        rw [hw, Part.onWindow_val]
        exact Part.checked_of_refused ((patrolChecks_eq ..).trans (if_pos (hbad.resolve_left hn)))
    · have hset : q.patrolSet a who = q.checked who (q.patrolChecks w a) fun p =>
          let q := p.modWindow w (Part.patrolApplied a)
          (if a.restartPass then q.abandonPatrol w else q).reply who .ok := by
        unfold Part.patrolSet
        rw [hw, Part.onWindow_val]
      have hcheck : firstRefusal (q.patrolChecks w a) = _ := (patrolChecks_eq q w a).trans (if_neg (Nat.not_lt.2 hlen))
      simp only [show q.window w = s.part.window w from portTook_window ..] at hcheck
      have hrefused {st : Status} (h : firstRefusal (q.patrolChecks w a) = some st) : Gives c s (q.reply who st) :=
        hgives (hset.trans (Part.checked_of_refused h))
      intro v i r
      refine ⟨fun hst => hrefused (hcheck.trans (if_pos hst)), fun hst => hrefused (hcheck.trans ?_),
        fun hst hno => hrefused (hcheck.trans ?_), fun hst hl hattr => ?_⟩
      · exact (if_neg (by simp [v] at hst; simp [hst])).trans (if_pos hst)
      · refine (if_neg (by simp [v] at hst; simp [hst])).trans ((if_neg (by simp [v] at hst; simp [hst])).trans (if_neg ?_))
        rintro ⟨hl, hattr⟩
        exact hno.elim (· hl) (fun h => by simp [v, hattr] at h)
      · have hpass : firstRefusal (q.patrolChecks w a) = none := by
          have hopen : (s.part.window w).st = .opened := hst
          refine hcheck.trans ((if_neg ?_).trans ((if_neg ?_).trans (if_pos ⟨hl, hattr⟩))) <;> simp [hopen]
        have hput : q.modWindow w (Part.patrolApplied a) = r := by
          have hwindow : q.window w = v := portTook_window ..
          unfold Part.modWindow
          rewrite [patrolApplied_eq, hwindow]
          rfl
        have hengine : r.engine = s.part.engine := portTook_engine ..
        rw [Part.checked_of_passed hpass] at hset
        dsimp only at hset
        rw [hput] at hset
        refine ⟨fun hno => hgives (hset.trans ?_), fun hrestart k hk hkw hkind => hgives (hset.trans ?_)⟩
        · split
          · next hrestart => rw [abandonPatrol_of_none fun k hk => hno hrestart k (hengine ▸ hk)]
          · rfl
        · rw [if_pos hrestart, abandonPatrol_of_chunk (hengine ▸ hk) hkw hkind]
  · intro v hlost
    unfold Part.advanceChunk
    rewrite [hc]
    dsimp only
    rw [if_neg (by simp [ha])]
    refine ⟨fun ⟨e, he, hwho⟩ htodo => ?_, fun hno => ?_⟩
    · have hlisted : (p.router.slotWait.any fun e => e.who == .engine) = true :=
        List.any_eq_true.2 ⟨e, he, beq_iff_eq.2 hwho⟩
      rw [if_neg (by simp [hlisted]), if_neg (by simp [htodo])]
    · have hunlisted : (p.router.slotWait.any fun e => e.who == .engine) = false :=
        List.any_eq_false.2 fun e he h => hno e he (beq_iff_eq.1 h)
      rw [if_pos ⟨hk, hphase, hlost, by simp [hunlisted]⟩]
      exact ⟨fun hst => congrArg some (patrolEnd_of_gone _ _ hst), fun hst => congrArg some (patrolEnd_of_lost _ _ hst hlost)⟩
  · intro v hst hpatrol hinterval q wakes
    obtain ⟨hwake, hstay⟩ := patrolFallsDue_of (p := s.part.begin) (w := w) hst
    refine gives_of_condition rfl hheld ((patrolRuns_iff _).2 ⟨hst, hpatrol, hinterval⟩) ?_
    split
    · next h => exact hwake h
    · next h => exact hstay h

end Sys2Proof.Machine

end

section
/-! PROOFS. The job the copy engine seeks (O20, its first half). -/

namespace Sys2Proof.Machine

open Sys2Proof

/-! ## The first of a list -/

theorem allWindows_split : ∀ w : Fin 16, allWindows = allWindows.take w ++ w :: allWindows.drop (w + 1)
    ∧ ∀ u ∈ allWindows.take w, u < w := by decide

theorem find?_allWindows {f : Fin 16 → Bool} {w : Fin 16} (hw : f w = true) (hlow : ∀ u, u < w → f u = false) :
    allWindows.find? f = some w := by
  obtain ⟨hsplit, hbefore⟩ := allWindows_split w
  refine List.find?_eq_some_iff_append.2 ⟨hw, allWindows.take w, allWindows.drop (w + 1), hsplit, fun u hu => ?_⟩
  simp [hlow u (hbefore u hu)]

theorem findSome?_allWindows {α : Type} {f : Fin 16 → Option α} {w : Fin 16} {x : α} (hw : f w = some x)
    (hlow : ∀ u, u < w → f u = none) : allWindows.findSome? f = some x := by
  obtain ⟨hsplit, hbefore⟩ := allWindows_split w
  exact List.findSome?_eq_some_iff.2
    ⟨allWindows.take w, w, allWindows.drop (w + 1), hsplit, hw, fun u hu => hlow u (hbefore u hu)⟩

theorem findIdx?_append_cons {α : Type} {f : α → Bool} {before after : List α} {x : α} (hbefore : ∀ y ∈ before, f y = false)
    (hx : f x = true) : (before ++ x :: after).findIdx? f = some before.length := by
  rw [List.findIdx?_append, List.findIdx?_eq_none_iff.2 hbefore, List.findIdx?_cons, if_pos hx]
  simp

/-! ## Repairs -/

/-- Whether both copies of window `w` are in READY bays with their foreign flags clear (R105). -/
def WindowWorks (p : Part) (w : Fin 16) : Prop :=
  ∀ x : Side, (p.bay ((p.window w).copy x).bay).power = .ready ∧ ((p.window w).copy x).isForeign = false

theorem workable_iff (p : Part) (w : Fin 16) : p.workable w = true ↔ WindowWorks p w := by
  have hsides : WindowWorks p w ↔ (((p.bay ((p.window w).copy .primary).bay).power = .ready
      ∧ ((p.window w).copy .primary).isForeign = false)
      ∧ (p.bay ((p.window w).copy .secondary).bay).power = .ready ∧ ((p.window w).copy .secondary).isForeign = false) :=
    ⟨fun h => ⟨h .primary, h .secondary⟩, fun h x => by cases x; exacts [h.1, h.2]⟩
  rw [hsides]
  simp [Part.workable, Part.copyReady, Part.copyBay]
  tauto

/-- Whether repair entry `e` can be worked (R105). -/
def CanRepair (p : Part) (e : RepairEntry) : Prop := (p.window e.window).st ≠ .free ∧ WindowWorks p e.window

theorem canRepair_iff (p : Part) (e : RepairEntry) :
    ((p.window e.window).inUse && p.workable e.window) = true ↔ CanRepair p e := by
  rw [Bool.and_eq_true, workable_iff]
  simp [Window.inUse, CanRepair]

theorem repairJob_of_none {p : Part} (h : ∀ e ∈ p.engine.repairs, ¬CanRepair p e) : p.repairJob = none := by
  have hfind : (p.engine.repairs.findIdx? fun e => (p.window e.window).inUse && p.workable e.window) = none :=
    List.findIdx?_eq_none_iff.2 fun e he => Bool.eq_false_iff.2 fun hcan => h e he ((canRepair_iff p e).1 hcan)
  rw [Part.repairJob, hfind, Option.bind_none]

section
variable {p : Part} {before after : List RepairEntry} {e : RepairEntry} (hl : p.engine.repairs = before ++ e :: after)
include hl

theorem repairJob_of_first (hbefore : ∀ y ∈ before, ¬CanRepair p y) (he : CanRepair p e) :
    p.repairJob = some (before.length, e) := by
  have hfind : (p.engine.repairs.findIdx? fun e => (p.window e.window).inUse && p.workable e.window) = some before.length := by
    rw [hl]
    exact findIdx?_append_cons (fun y hy => Bool.eq_false_iff.2 fun hcan => hbefore y hy ((canRepair_iff p y).1 hcan))
      ((canRepair_iff p e).2 he)
  rw [Part.repairJob, hfind, Option.bind_some, hl]
  simp

theorem takeRepair_of_logged (h : ∃ g ∈ touched e.offset e.count, p.logged e.window g = true) :
    p.takeRepair before.length e = { p with engine := { p.engine with repairs := before ++ after, seek := true } } := by
  refine (if_pos (List.any_eq_true.2 h)).trans ?_
  rw [hl, List.eraseIdx_append_of_length_le (Nat.le_refl _), Nat.sub_self]
  rfl

theorem takeRepair_of_unlogged (h : ∀ g ∈ touched e.offset e.count, ¬p.logged e.window g = true) :
    p.takeRepair before.length e = Part.beginChunk .repair e.window (otherSide e.copy) e.next
      (min 64 (e.offset + e.count - e.next)) { p with engine := { p.engine with
        repairs := before ++ { e with busy := true } :: after } } := by
  refine (if_neg fun hany => ?_).trans ?_
  · obtain ⟨g, hg, hlogged⟩ := List.any_eq_true.1 hany
    exact h g hg hlogged
  · rw [hl, List.set_append_right _ _ (Nat.le_refl _), Nat.sub_self]
    rfl

end

/-! ## Rebuilds -/

/-- Whether window `w` has a rebuild that can be worked (R105, R111). -/
def RebuildWorks (p : Part) (w : Fin 16) : Prop :=
  (p.window w).st = .opened ∧ (p.window w).lost.isSome = true ∧ (p.window w).cursor.isSome = true ∧ WindowWorks p w

/-- The rebuild job of window `w` (R105). -/
def rebuildOf (p : Part) (w : Fin 16) : Option (Fin 16 × Side × Nat) :=
  match (p.window w).lost, (p.window w).cursor with
  | some s, some g => if (p.window w).st = .opened ∧ p.workable w then some (w, s, g) else none
  | _, _ => none

theorem rebuildJob_eq (p : Part) : p.rebuildJob = allWindows.findSome? (rebuildOf p) := rfl

theorem rebuildOf_of_works {p : Part} {w : Fin 16} {x : Side} {g : Nat} (h : RebuildWorks p w) (hx : (p.window w).lost = some x)
    (hg : (p.window w).cursor = some g) : rebuildOf p w = some (w, x, g) := by
  obtain ⟨hst, -, -, hworks⟩ := h
  unfold rebuildOf
  rewrite [hx, hg]
  exact if_pos ⟨hst, (workable_iff p w).2 hworks⟩

theorem rebuildOf_of_not_works {p : Part} {w : Fin 16} (h : ¬RebuildWorks p w) : rebuildOf p w = none := by
  unfold rebuildOf
  split
  · next x g hx hg =>
    exact if_neg fun ⟨hst, hworks⟩ => h ⟨hst, by rw [hx]; rfl, by rw [hg]; rfl, (workable_iff p w).1 hworks⟩
  · rfl

/-! ## Patrols -/

/-- Whether window `w` has a patrol chunk that can be taken (R118). -/
def PatrolWorks (p : Part) (w : Fin 16) : Prop :=
  (p.window w).st = .opened ∧ (p.window w).layout = .mirror ∧ (p.window w).patrol.isSome = true ∧ (p.window w).interval ≠ 0
    ∧ (p.window w).due = true ∧ (p.window w).lost = none ∧ WindowWorks p w

theorem patrolReady_iff (p : Part) (w : Fin 16) : p.patrolReady w = true ↔ PatrolWorks p w := by
  simp only [Part.patrolReady, PatrolWorks, Bool.and_eq_true, workable_iff, beq_iff_eq, bne_iff_ne, Option.isNone_iff_eq_none,
    and_assoc]

theorem seekPatrol_of_none {p : Part} (h : ∀ w, ¬PatrolWorks p w) : p.seekPatrol = p := by
  have hfind : allWindows.find? p.patrolReady = none :=
    List.find?_eq_none.2 fun w _ hready => h w ((patrolReady_iff p w).1 hready)
  unfold Part.seekPatrol
  rewrite [hfind]
  rfl

theorem seekPatrol_of_first {p : Part} {w : Fin 16} (hw : PatrolWorks p w) (hlow : ∀ u, u < w → ¬PatrolWorks p u) :
    p.seekPatrol = p.takePatrol w := by
  have hfind : allWindows.find? p.patrolReady = some w := find?_allWindows ((patrolReady_iff p w).2 hw) fun u hu =>
    Bool.eq_false_iff.2 fun hready => hlow u hu ((patrolReady_iff p u).1 hready)
  unfold Part.seekPatrol
  rewrite [hfind]
  rfl

/-- A run of logged regions is no longer than the log. -/
theorem length_le_of_logged {p : Part} {w : Fin 16} {a n : Nat} (h : ∀ i < n, p.logged w (a + i) = true) :
    n ≤ p.engine.log.length := by
  have hsub : ((List.range n).map (a + ·)) ⊆ p.engine.log.map fun e => e.region := fun g hg => by
    obtain ⟨i, hi, rfl⟩ := List.mem_map.1 hg
    obtain ⟨e, he, -, hregion⟩ := (logged_iff ..).1 (h i (List.mem_range.1 hi))
    exact List.mem_map.2 ⟨e, he, hregion⟩
  have hnodup : ((List.range n).map (a + ·)).Nodup := List.nodup_range.map fun i j h => Nat.add_left_cancel h
  simpa using (hnodup.subperm hsub).length_le

theorem firstUnlogged_eq {p : Part} {w : Fin 16} {a g : Nat} (hle : a ≤ g) (h : ∀ j, a ≤ j → j < g → p.logged w j = true)
    (hg : p.logged w g = false) : p.firstUnlogged w a = g := by
  have hlen : g - a ≤ p.engine.log.length := length_le_of_logged fun i hi => h (a + i) (by omega) (by omega)
  have hfind : ((List.range (p.engine.log.length + 1)).find? fun i => !p.logged w (a + i)) = some (g - a) := by
    refine List.find?_range_eq_some.2 ⟨?_, List.mem_range.2 (by omega), fun j hj => ?_⟩
    · rw [Nat.add_sub_of_le hle, hg]
      rfl
    · rw [h (a + j) (by omega) (by omega)]
      rfl
  rw [Part.firstUnlogged, hfind]
  exact Nat.add_sub_of_le hle

/-! ## The order of the places -/

theorem resyncJob_eq (p : Part) : p.resyncJob = (p.flushEntries ++ p.engine.log).find? p.canResync := by
  rw [Part.resyncJob, List.find?_append]
  cases p.flushEntries.find? p.canResync <;> rfl

end Sys2Proof.Machine

end

section
/-! PROOFS. What the results of the copy engine's chunks lead to, and a bay that leaves READY (O20, its second half). -/

namespace Sys2Proof.Machine

open Sys2Proof

/-! ## Taking a patrol chunk -/

section
variable {p : Part} {w : Fin 16} {r : PatrolRecord} {g : Nat} (hr : (p.window w).patrol = some r) (hle : r.region ≤ g)
  (hlogged : ∀ j, r.region ≤ j → j < g → p.logged w j = true) (hg : p.logged w g = false)
include hr hle hlogged hg

theorem takePatrol_of_ended (h : ((p.window w).length - 1) / 4096 < g) : p.takePatrol w = { p with
    windows := p.windows.set w { p.window w with due := false, patrol := some (passEnded p.clock.counter r) }
    engine := { p.engine with seek := true } } := by
  unfold Part.takePatrol
  rewrite [hr]
  dsimp only
  rw [firstUnlogged_eq hle hlogged hg]
  refine (if_pos h).trans ?_
  have hpatrol : p.windows[(w : Nat)].patrol = some r := hr
  simp [Part.passEnd, Part.modWindow, Part.window, Part.seekNext, Part.now, passEnded, hpatrol]

theorem takePatrol_of_chunk (h : g ≤ ((p.window w).length - 1) / 4096) : p.takePatrol w =
    let k := if g = r.region then r.chunk else 0
    Part.beginChunk .patrol w .primary (g * 4096 + k * 64) (min 64 ((p.window w).length - (g * 4096 + k * 64))) { p with
      windows := p.windows.set w { p.window w with due := false, patrol := some { r with region := g, chunk := k } } } := by
  unfold Part.takePatrol
  rewrite [hr]
  dsimp only
  rw [firstUnlogged_eq hle hlogged hg]
  refine (if_neg (Nat.not_lt.2 h)).trans ?_
  simp [Part.modWindow, Part.window, chunkOffset, chunkCount, Config.regionBlocks, Config.chunkBlocks]

end

/-! ## Places of the order -/

/-- A chunk that is begun toward copy `x`. -/
theorem beginChunk_to (kind : ChunkKind) (w : Fin 16) (x : Side) (off n : Nat) (p : Part) :
    p.beginChunk kind w (otherSide x) off n = { p with
      engine := { p.engine with chunk := some {
        kind := kind, window := w, source := otherSide x, dest := x, offset := off, count := n } }
      router := { p.router with
        slotWait := p.router.slotWait ++ [{ who := .engine, need := if kind = .patrol then 128 else 64 }] } } := by
  unfold Part.beginChunk
  rewrite [otherSide_otherSide]
  rfl

theorem takeResync_eq (p : Part) (e : LogEntry) : p.takeResync e =
    let c := if e.copying then e.next else 0
    let off := e.region * 4096 + c * 64
    Part.beginChunk .resync e.window e.good off (min 64 ((p.window e.window).length - off))
      (p.modEntry e.window e.region fun x => { x with copying := true, next := c }) := rfl

theorem seekAfterResync_of_rebuild {p q : Part} (hq : (if p.engine.above then p.markStarts else p) = q) {w : Fin 16} {x : Side}
    {g : Nat} (h : q.rebuildJob = some (w, x, g)) : p.seekAfterResync = q.takeRebuild w x g := by
  unfold Part.seekAfterResync
  dsimp only
  rewrite [hq, h]
  rfl

theorem seekAfterResync_of_none {p q : Part} (hq : (if p.engine.above then p.markStarts else p) = q) (h : q.rebuildJob = none) :
    p.seekAfterResync = q.seekPatrol := by
  unfold Part.seekAfterResync
  dsimp only
  rewrite [hq, h]
  rfl

section
variable {p : Part} (hchunk : p.engine.chunk = none) (hbox : p.box.st ≠ some .dormant)
include hchunk hbox

theorem seekJob_of_readOnly (hmode : p.loader.mode = .readOnly) :
    p.seekJob = Part.seekPatrol { p with engine := { p.engine with seek := false } } :=
  (if_neg (by simp [hchunk, hbox])).trans (if_pos (by simp [Part.readOnly, hmode]))

variable (hmode : p.loader.mode ≠ .readOnly)
include hmode

theorem seekJob_of_repair {i : Nat} {e : RepairEntry}
    (h : Part.repairJob { p with engine := { p.engine with seek := false } } = some (i, e)) :
    p.seekJob = Part.takeRepair i e { p with engine := { p.engine with seek := false } } := by
  refine (if_neg (by simp [hchunk, hbox])).trans ((if_neg (by simp [Part.readOnly, hmode])).trans ?_)
  rewrite [h]
  rfl

variable (hrepair : Part.repairJob { p with engine := { p.engine with seek := false } } = none)
include hrepair

theorem seekJob_of_resync {e : LogEntry} (h : Part.resyncJob { p with engine := { p.engine with seek := false } } = some e) :
    p.seekJob = Part.takeResync e { p with engine := { p.engine with seek := false } } := by
  refine (if_neg (by simp [hchunk, hbox])).trans ((if_neg (by simp [Part.readOnly, hmode])).trans ?_)
  rewrite [hrepair]
  dsimp only
  rewrite [h]
  rfl

theorem seekJob_of_neither (h : Part.resyncJob { p with engine := { p.engine with seek := false } } = none) :
    p.seekJob = Part.seekAfterResync { p with engine := { p.engine with seek := false } } := by
  refine (if_neg (by simp [hchunk, hbox])).trans ((if_neg (by simp [Part.readOnly, hmode])).trans ?_)
  rewrite [hrepair]
  dsimp only
  rewrite [h]
  rfl

end

/-! ## The work a chunk's result touches -/

/-- The part once the flushes that wait on region `g` of window `w` are told (R103). -/
def flushesTold (w : Fin 16) (g : Nat) (p : Part) (note : Status) (failing : Option Nat) (stale : List Side) : Part :=
  ({ p with router := { p.router with requests := p.router.requests.map fun r =>
      if r.window = w ∧ r.kind = .flush ∧ g ∈ r.waits then { r with
        waits := r.waits.erase g, notes := r.notes ++ [note]
        failing := match failing with | none => r.failing | some n => lowerOffset r.failing n
        second := r.second ++ stale.filter fun y => y ∉ r.second } else r } } : Part).markEnded

theorem tellFlushes_eq (w : Fin 16) (g : Nat) (note : Status) (stale : Option Side) (failing : Option Nat) (p : Part) :
    p.tellFlushes w g note stale failing = flushesTold w g p note failing stale.toList := by
  cases stale with
  | none => cases failing <;> simp [Part.tellFlushes, flushesTold]
  | some s =>
    have howed (l : List Side) : (if s ∈ l then l else l ++ [s]) = l ++ [s].filter fun y => y ∉ l := by
      by_cases h : s ∈ l <;> simp [h]
    cases failing <;> simp only [Part.tellFlushes, flushesTold, howed, Option.toList]

/-- The part with the entry of region `g` of window `w` changed. -/
def entryPut (w : Fin 16) (g : Nat) (p : Part) (f : LogEntry → LogEntry) : Part := { p with engine := { p.engine with
  log := p.engine.log.map fun e => if e.window = w ∧ e.region = g then f e else e } }

theorem modEntry_eq (w : Fin 16) (g : Nat) (f : LogEntry → LogEntry) (p : Part) : p.modEntry w g f = entryPut w g p f := by
  simp [Part.modEntry, Part.setLog, entryPut, LogEntry.isFor]

theorem logEntry?_ended (p : Part) (w : Fin 16) (g : Nat) : (chunkEnded p).logEntry? w g = p.logEntry? w g := rfl

/-- Whether chunk `k` of region `g` is the last of a window `n` blocks long (R107). -/
def LastChunk (n g k : Nat) : Prop := k + 1 = 64 ∨ n ≤ g * 4096 + (k + 1) * 64

theorem not_lastChunk_iff {n g k : Nat} (hk : k < 64) :
    ¬LastChunk n g k ↔ k + 1 < Config.chunksPerRegion ∧ chunkOffset g (k + 1) < n := by
  simp only [LastChunk, Config.chunksPerRegion, chunkOffset, Config.regionBlocks, Config.chunkBlocks]
  omega

/-! ## A resync chunk (R107, R108) -/

section
variable {p : Part} {w : Fin 16} {g k : Nat}

theorem resyncAdvance_of_none (h : p.logEntry? w g = none) : p.resyncAdvance w g k = chunkEnded p := by
  unfold Part.resyncAdvance
  dsimp only
  rewrite [Part.endChunk_eq, logEntry?_ended, h]
  rfl

variable (hk : k < 64) {e : LogEntry} (h : p.logEntry? w g = some e)
include hk h

theorem resyncAdvance_of_more (hmore : ¬LastChunk (p.window w).length g k) :
    p.resyncAdvance w g k = chunkEnded (entryPut w g p fun y => { y with next := k + 1 }) := by
  unfold Part.resyncAdvance
  dsimp only
  rewrite [Part.endChunk_eq, logEntry?_ended, h]
  exact (if_pos ((not_lastChunk_iff hk).1 hmore)).trans (modEntry_eq ..)

theorem resyncAdvance_of_redirtied (hlast : LastChunk (p.window w).length g k) (hre : e.redirtied = true) :
    p.resyncAdvance w g k = chunkEnded (entryPut w g p fun y => { y with redirtied := false, next := 0 }) := by
  unfold Part.resyncAdvance
  dsimp only
  rewrite [Part.endChunk_eq, logEntry?_ended, h]
  exact (if_neg fun hmore => (not_lastChunk_iff hk).2 hmore hlast).trans ((if_pos hre).trans (modEntry_eq ..))

theorem resyncAdvance_of_clean (hlast : LastChunk (p.window w).length g k) (hre : e.redirtied = false)
    (hmark : 48 ≤ (p.engine.log.filter fun y => !(y.window == w && y.region == g)).length → p.engine.above = true) :
    p.resyncAdvance w g k = flushesTold w g { chunkEnded p with engine := { (chunkEnded p).engine with
      log := p.engine.log.filter fun y => !(y.window == w && y.region == g)
      above := decide (48 ≤ (p.engine.log.filter fun y => !(y.window == w && y.region == g)).length) } }
      .ok none [otherSide e.good] := by
  unfold Part.resyncAdvance
  dsimp only
  rewrite [Part.endChunk_eq, logEntry?_ended, h]
  refine (if_neg fun hmore => (not_lastChunk_iff hk).2 hmore hlast).trans ((if_neg (by simp [hre])).trans ?_)
  unfold Part.entryDone
  rw [tellFlushes_eq]
  exact followMark_of_no_rise hmark

end

/-! ## A repair piece (R109) -/

theorem filterMap_repairs (n : Nat) (l : List RepairEntry) : (l.filterMap fun e =>
      if e.busy then (if e.next + n < e.offset + e.count then some { e with next := e.next + n } else none) else some e)
    = (l.filter fun e => !e.busy || decide (e.next + n < e.offset + e.count)).map fun e =>
        if e.busy = true then { e with next := e.next + n } else e := by
  rw [← List.filterMap_eq_map, ← List.filterMap_eq_filter, List.filterMap_filterMap]
  refine congrArg (List.filterMap · l) (funext fun e => ?_)
  by_cases hb : e.busy = true <;> by_cases hn : e.next + n < e.offset + e.count <;> simp [hb, hn, Option.guard]

theorem repairFailed_of_busy {p : Part} {w : Fin 16} {src : Side} {e : RepairEntry}
    (h : (p.engine.repairs.find? fun e => e.busy) = some e) :
    p.repairFailed w src = chunkEnded (p.dropRepair.logOrLose w (touched e.offset e.count) src) := by
  unfold Part.repairFailed
  rewrite [h]
  exact Part.endChunk_eq _

/-! ## A rebuild chunk (R111) -/

section
variable {p : Part} {w : Fin 16} {g k : Nat} (hk : k < 64)
include hk

theorem rebuildAdvance_of_more (h : ¬LastChunk (p.window w).length g k) :
    p.rebuildAdvance w g k = (chunkEnded p).modWindow w fun v => { v with rebuildChunk := k + 1 } := by
  unfold Part.rebuildAdvance
  dsimp only
  rw [Part.endChunk_eq]
  exact if_pos ((not_lastChunk_iff hk).1 h)

theorem rebuildAdvance_of_region (h : LastChunk (p.window w).length g k) (hg : g < ((p.window w).length - 1) / 4096) :
    p.rebuildAdvance w g k = (chunkEnded p).modWindow w fun v => { v with cursor := some (g + 1), rebuildChunk := 0 } := by
  unfold Part.rebuildAdvance
  dsimp only
  rw [Part.endChunk_eq]
  exact (if_neg fun hmore => (not_lastChunk_iff hk).2 hmore h).trans (if_pos hg)

theorem rebuildAdvance_of_end (h : LastChunk (p.window w).length g k) (hg : ((p.window w).length - 1) / 4096 ≤ g) :
    p.rebuildAdvance w g k
      = ((chunkEnded p).modWindow w fun v => { v with lost := none, cursor := none, rebuildChunk := 0 }).raise .rebuildDone := by
  unfold Part.rebuildAdvance
  dsimp only
  rw [Part.endChunk_eq]
  exact (if_neg fun hmore => (not_lastChunk_iff hk).2 hmore h).trans (if_neg (Nat.not_lt.2 hg))

end

/-! ## A chunk's result by its kind (R106) -/

section
variable {p : Part} {c : Chunk} {o : BayOp} {x : Side} {block : Option Nat} (hc : p.engine.chunk = some c)
  (ho : o.parent = .chunk x)
include hc ho

theorem reportResult_of_abandoned (res : Status) (h : c.abandoned = true) : p.reportResult res block o = p := by
  unfold Part.reportResult
  rewrite [ho]
  change p.chunkResult x o.kind res block = _
  unfold Part.chunkResult
  rewrite [hc]
  exact if_pos h

variable (ha : c.abandoned = false)
include ha

theorem reportResult_of_other {res : Status} (hok : res ≠ .ok) (hmedia : res ≠ .media) :
    p.reportResult res block o = chunkStopped p c := by
  have hstop : p.stopChunk = chunkStopped p c := (Part.stopChunk_eq hc).trans (if_neg (by simp [ha]))
  unfold Part.reportResult
  rewrite [ho]
  change p.chunkResult x o.kind res block = _
  unfold Part.chunkResult
  rewrite [hc]
  refine (if_neg (by simp [ha])).trans ?_
  cases res
  case ok => exact absurd rfl hok
  case media => exact absurd rfl hmedia
  all_goals exact hstop

variable (hk : c.kind ≠ .patrol)
include hk

theorem reportResult_of_read (hread : o.kind = .read) : p.reportResult .ok block o = p.chunkToWriting := by
  unfold Part.reportResult
  rewrite [ho]
  change p.chunkResult x o.kind .ok block = _
  unfold Part.chunkResult
  rewrite [hc]
  exact (if_neg (by simp [ha])).trans ((if_neg hk).trans (if_neg (by simp [hread])))

theorem reportResult_of_written (hwrite : o.kind = .write) : p.reportResult .ok block o = p.chunkWritten c := by
  unfold Part.reportResult
  rewrite [ho]
  change p.chunkResult x o.kind .ok block = _
  unfold Part.chunkResult
  rewrite [hc]
  exact (if_neg (by simp [ha])).trans ((if_neg hk).trans (if_pos hwrite))

theorem reportResult_of_readMedia (hread : o.kind = .read) : p.reportResult .media block o = p.chunkReadMedia c x block := by
  unfold Part.reportResult
  rewrite [ho]
  change p.chunkResult x o.kind .media block = _
  unfold Part.chunkResult
  rewrite [hc]
  exact (if_neg (by simp [ha])).trans ((if_neg hk).trans (if_neg (by simp [hread])))

theorem reportResult_of_writeMedia (hwrite : o.kind = .write) : p.reportResult .media block o = p.chunkWriteMedia c := by
  unfold Part.reportResult
  rewrite [ho]
  change p.chunkResult x o.kind .media block = _
  unfold Part.chunkResult
  rewrite [hc]
  exact (if_neg (by simp [ha])).trans ((if_neg hk).trans (if_pos hwrite))

end

theorem chunkWritten_of_resync {p : Part} {c : Chunk} (hk : c.kind = .resync) (h : c.again = false) :
    p.chunkWritten c = p.resyncAdvance c.window (c.offset / 4096) (c.offset % 4096 / 64) := by
  refine (if_neg (by simp [h])).trans ?_
  rewrite [hk]
  rfl

theorem chunkWritten_of_rebuild {p : Part} {c : Chunk} (hk : c.kind = .rebuild) (h : c.again = false) :
    p.chunkWritten c = p.rebuildAdvance c.window (c.offset / 4096) (c.offset % 4096 / 64) := by
  refine (if_neg (by simp [h])).trans ?_
  rewrite [hk]
  rfl

/-! ## A bay that leaves READY (R108, R111, R126) -/

/-- The part once the region copies of bay `b`'s windows have gone back to their start (R108, R111). -/
def copiesRestarted (p : Part) (b : Fin 4) : Part := { p with
  engine := { p.engine with log := p.engine.log.map fun e =>
    if e.copying = true ∧ (p.window e.window).onBay b = true
      then { e with copying := false, next := 0, redirtied := false } else e }
  windows := p.windows.map fun v =>
    if v.cursor.isSome = true ∧ v.onBay b = true then { v with rebuildChunk := 0 } else v }

theorem restartCopies_of_none (p : Part) (b : Fin 4) : p.restartCopies b none = copiesRestarted p b := by
  rw [Part.restartCopies_eq]
  have hwindows : (Vector.ofFn fun w => if (p.window w).cursor.isSome = true ∧ (p.window w).onBay b = true
      then { p.window w with rebuildChunk := 0 } else p.window w)
      = p.windows.map fun v => if v.cursor.isSome = true ∧ v.onBay b = true then { v with rebuildChunk := 0 } else v :=
    Vector.ext fun i hi => by
      rewrite [Vector.getElem_ofFn, Vector.getElem_map]
      rfl
  simp only [Part.copiesEntry, Part.rebuildsWindow, Bool.not_false, and_true, copiesRestarted, ← hwindows]
  rfl

theorem copiesRestarted_onBay (p : Part) (b : Fin 4) (w : Fin 16) :
    ((copiesRestarted p b).window w).onBay b = (p.window w).onBay b := by
  simp only [copiesRestarted, Part.window, Fin.getElem_fin, Vector.getElem_map]
  split <;> rfl

theorem copiesEntry_iff (c : Chunk) (e : LogEntry) : (!Part.copiesEntry (some c) e) = true
    ↔ ¬(c.kind = .resync ∧ e.window = c.window ∧ e.region = c.offset / 4096) := by
  rw [Bool.not_eq_true', ← Bool.not_eq_true]
  simp only [Part.copiesEntry, LogEntry.isFor, regionOf, Config.regionBlocks, Bool.and_eq_true, beq_iff_eq]

theorem rebuildsWindow_iff (c : Chunk) (w : Fin 16) : (!Part.rebuildsWindow (some c) w) = true
    ↔ ¬(c.kind = .rebuild ∧ w = c.window) := by
  rw [Bool.not_eq_true', ← Bool.not_eq_true]
  simp only [Part.rebuildsWindow, Bool.and_eq_true, beq_iff_eq, eq_comm (a := w)]

section
variable {p : Part} {b : Fin 4}

theorem bayLeavesReady_of_idle (hc : p.engine.chunk = none) : p.bayLeavesReady b = copiesRestarted p b := by
  unfold Part.bayLeavesReady
  rw [restartCopies_of_none]
  dsimp only
  rewrite [show (copiesRestarted p b).engine.chunk = none from hc]
  rfl

variable {c : Chunk} (hc : p.engine.chunk = some c)
include hc

theorem bayLeavesReady_of_chunk : p.bayLeavesReady b = if (p.window c.window).onBay b ∧ c.abandoned = false
    then chunkStopped (copiesRestarted p b) c else copiesRestarted p b := by
  have hq : (copiesRestarted p b).engine.chunk = some c := hc
  unfold Part.bayLeavesReady
  rw [restartCopies_of_none]
  dsimp only
  rewrite [hq]
  dsimp only
  rewrite [copiesRestarted_onBay, Part.stopChunk_eq hq]
  cases (p.window c.window).onBay b <;> cases c.abandoned <;> rfl

theorem chunkWorksOn_eq : p.chunkWorksOn b = (!c.abandoned && (p.window c.window).onBay b) := by
  unfold Part.chunkWorksOn
  rewrite [hc]
  rfl

end

/-- Settles O20. -/
theorem copyJobOrder : Obligations.CopyJobOrder := by
  unfold Obligations.CopyJobOrder
  refine ⟨fun s hheld => ?_, fun p => ?_, fun p => ?_, fun p c o x res block hc ho => ?_, fun p b => ?_⟩
  · intro p
    have hgives {q : Part} (hq : s.part.begin.seekJob = q) : Gives .copyJobStart s q := gives_of_event rfl hheld hq
    refine ⟨fun h => hgives (if_pos h), fun hc hbox => ⟨fun hmode => hgives (seekJob_of_readOnly (p := s.part.begin) hc hbox hmode),
      fun hmode => ⟨fun i e h => hgives (seekJob_of_repair (p := s.part.begin) hc hbox hmode h), fun hr e h => ?_,
        fun hr h => hgives (seekJob_of_neither (p := s.part.begin) hc hbox hmode hr h)⟩⟩⟩
    exact hgives ((seekJob_of_resync (p := s.part.begin) hc hbox hmode hr h).trans (takeResync_eq p e))
  · intro asked
    have hasked : (if p.engine.above then p.markStarts else p) = asked := by
      by_cases habove : p.engine.above = true
      · rw [if_pos habove, markStarts_eq]
        exact if_congr (by simp [habove]) rfl rfl
      · rw [if_neg habove]
        exact (if_pos (.inl (Bool.eq_false_iff.2 habove))).symm
    exact ⟨seekAfterResync_of_none hasked, fun w x g h =>
      (seekAfterResync_of_rebuild hasked h).trans (beginChunk_to .rebuild w x _ _ asked)⟩
  · intro works joined can rebuilds patrols logged
    have hlogged (w : Fin 16) (g : Nat) : logged w g ↔ p.logged w g = true := (logged_iff p w g).symm
    refine ⟨repairJob_of_none, fun before e after hl hbefore he => ⟨repairJob_of_first hl hbefore he, fun hlog => ?_,
        fun hno => ?_⟩,
      resyncJob_eq p, workable_iff p, fun h => ?_, fun w x g hw hlow hx hg => ?_, seekPatrol_of_none,
      fun w r g hw hlow hr hle hpast hg => ?_⟩
    · obtain ⟨g, hg, h⟩ := hlog
      exact takeRepair_of_logged hl ⟨g, hg, (hlogged ..).1 h⟩
    · exact (takeRepair_of_unlogged hl fun g hg h => hno g hg ((hlogged ..).2 h)).trans (beginChunk_to ..)
    · exact (rebuildJob_eq p).trans <| List.findSome?_eq_none_iff.2 fun w _ => rebuildOf_of_not_works (h w)
    · exact (rebuildJob_eq p).trans <| findSome?_allWindows (rebuildOf_of_works hw hx hg) fun u hu =>
        rebuildOf_of_not_works (hlow u hu)
    · have hunlogged : p.logged w g = false := Bool.eq_false_iff.2 fun h => hg ((hlogged ..).2 h)
      have htake := seekPatrol_of_first hw hlow
      have hrun : ∀ j, r.region ≤ j → j < g → p.logged w j = true := fun j ha hb => (hlogged ..).1 (hpast j ha hb)
      exact ⟨fun h => htake.trans (takePatrol_of_ended hr hle hrun hunlogged h),
        fun h => htake.trans (takePatrol_of_chunk hr hle hrun hunlogged h)⟩
  · intro w v g k last goesOn set entries told
    have hk : k < 64 := by simp only [k]; omega
    refine ⟨reportResult_of_abandoned hc ho res, fun ha => ⟨reportResult_of_other hc ho ha, fun hk hread hok => ?_,
      fun hk hwrite hok hagain => ?_, fun hkd hwrite hok hagain => ?_, fun hkd hread hmedia => ?_, fun hkd hwrite hmedia => ?_,
      fun hkd hwrite hok hagain => ?_, fun hkd hread hmedia => ?_, fun hkd hwrite hmedia e he => ?_,
      fun hkd hwrite hok hagain => ?_, fun hkd hread hmedia => ?_, fun hkd hwrite hmedia => ?_⟩⟩
    · subst hok
      refine (reportResult_of_read hc ho ha hk hread).trans ?_
      simp [Part.chunkToWriting, Part.modChunk, hc]
    · subst hok
      refine (reportResult_of_written hc ho ha hk hwrite).trans ((if_pos hagain).trans ?_)
      simp [Part.chunkAgain, Part.modChunk, hc, hk]
    · subst hok
      have hres : p.reportResult .ok block o = p.resyncAdvance w g k :=
        (reportResult_of_written hc ho ha (by simp [hkd]) hwrite).trans (chunkWritten_of_resync hkd hagain)
      exact ⟨fun h => hres.trans (resyncAdvance_of_none h),
          fun e he => ⟨fun hmore => hres.trans (resyncAdvance_of_more hk he hmore),
        fun hl hre => hres.trans (resyncAdvance_of_redirtied hk he hl hre),
        fun hl hre hmark => hres.trans (resyncAdvance_of_clean hk he hl hre hmark)⟩⟩
    · subst hmedia
      refine (reportResult_of_readMedia hc ho ha (by simp [hkd]) hread).trans ?_
      unfold Part.chunkReadMedia
      rewrite [hkd]
      dsimp only
      unfold Part.resyncUnreadable
      rewrite [Part.endChunk_eq, tellFlushes_eq, modEntry_eq]
      rfl
    · subst hmedia
      refine (reportResult_of_writeMedia hc ho ha (by simp [hkd]) hwrite).trans ?_
      unfold Part.chunkWriteMedia
      rewrite [hkd]
      rfl
    · subst hok
      refine (reportResult_of_written hc ho ha (by simp [hkd]) hwrite).trans ((if_neg (by simp [hagain])).trans ?_)
      rewrite [hkd]
      dsimp only
      unfold Part.repairAdvance
      rewrite [Part.endChunk_eq, filterMap_repairs]
      rfl
    · subst hmedia
      refine (reportResult_of_readMedia hc ho ha (by simp [hkd]) hread).trans ?_
      unfold Part.chunkReadMedia
      rewrite [hkd]
      dsimp only
      rewrite [Part.endChunk_eq]
      rfl
    · subst hmedia
      refine (reportResult_of_writeMedia hc ho ha (by simp [hkd]) hwrite).trans ?_
      unfold Part.chunkWriteMedia
      rewrite [hkd]
      dsimp only
      rewrite [repairFailed_of_busy he, logOrLose_eq]
      rfl
    · subst hok
      have hres : p.reportResult .ok block o = p.rebuildAdvance w g k :=
        (reportResult_of_written hc ho ha (by simp [hkd]) hwrite).trans (chunkWritten_of_rebuild hkd hagain)
      exact ⟨fun hmore => hres.trans (rebuildAdvance_of_more hk hmore), fun hl hg => hres.trans (rebuildAdvance_of_region hk hl hg),
        fun hl hg => hres.trans (rebuildAdvance_of_end hk hl hg)⟩
    · subst hmedia
      refine (reportResult_of_readMedia hc ho ha (by simp [hkd]) hread).trans ?_
      unfold Part.chunkReadMedia
      rewrite [hkd]
      dsimp only
      rewrite [Part.abandonRebuild_eq]
      rfl
    · subst hmedia
      refine (reportResult_of_writeMedia hc ho ha (by simp [hkd]) hwrite).trans ?_
      unfold Part.chunkWriteMedia
      rewrite [hkd]
      exact Part.abandonRebuild_eq w p
  · intro q
    refine ⟨fun hc => ⟨bayLeavesReady_of_idle hc, ?_⟩, fun c hc => ⟨fun h => ⟨?_, ?_⟩, fun ha hon => ⟨?_, ?_⟩⟩⟩
    · exact (if_neg (by rw [Part.chunkWorksOn, hc]; exact Bool.false_ne_true)).trans (bayLeavesReady_of_idle hc)
    · rw [bayLeavesReady_of_chunk hc]
      exact if_neg fun ⟨hon, hno⟩ => h.elim (by simp [hno]) (by simp [hon])
    · refine (if_neg ?_).trans ((bayLeavesReady_of_chunk hc).trans (if_neg ?_))
      · rw [chunkWorksOn_eq hc]
        obtain h | h := h <;> simp [h]
      · exact fun ⟨hon, hno⟩ => h.elim (by simp [hno]) (by simp [hon])
    · exact (bayLeavesReady_of_chunk hc).trans (if_pos ⟨hon, ha⟩)
    · refine (if_pos (by rw [chunkWorksOn_eq hc]; simp [ha, hon])).trans ?_
      rewrite [hc, Part.restartCopies_eq]
      simp only [copiesEntry_iff, rebuildsWindow_iff]
      rfl

end Sys2Proof.Machine

end

section
/-! PROOFS. Bytes and fields of an image (R202, R207). -/

namespace Sys2Proof.Machine

open Sys2Proof

/-! ## A byte of a record -/

theorem byteAt_append_left {a : List Byte} (b : List Byte) {i : Nat} (h : i < a.length) : byteAt (a ++ b) i = byteAt a i := by
  simp [byteAt, List.getElem?_append_left h]

theorem byteAt_append_right {a : List Byte} (b : List Byte) {i : Nat} (h : a.length ≤ i) :
    byteAt (a ++ b) i = byteAt b (i - a.length) := by
  simp [byteAt, List.getElem?_append_right h]

theorem byteAt_append_add (a b : List Byte) (i : Nat) : byteAt (a ++ b) (a.length + i) = byteAt b i := by
  rw [byteAt_append_right b (Nat.le_add_right ..), Nat.add_sub_cancel_left]

theorem byteAt_of_le {l : List Byte} {i : Nat} (h : l.length ≤ i) : byteAt l i = 0 := by
  simp [byteAt, List.getElem?_eq_none h]

theorem byteAt_drop (l : List Byte) (n i : Nat) : byteAt (l.drop n) i = byteAt l (n + i) := by
  simp [byteAt, List.getElem?_drop]

theorem byteAt_take {l : List Byte} {n i : Nat} (h : i < n) : byteAt (l.take n) i = byteAt l i := by
  simp [byteAt, h]

/-- A list, padded or cut to `n` bytes, by its bytes. -/
theorem map_byteAt_range (l : List Byte) (n : Nat) : (List.range n).map (byteAt l) = (l ++ List.replicate n 0).take n := by
  refine List.ext_getElem (by simp) fun i hi hi' => ?_
  have hn : i < n := by simpa using hi
  rw [List.getElem_map, List.getElem_range, List.getElem_take, ← Option.some_inj, ← List.getElem?_eq_getElem]
  by_cases hl : i < l.length
  · simp [byteAt, List.getElem?_append_left hl, hl]
  · rw [byteAt_of_le (Nat.not_lt.1 hl), List.getElem?_append_right (Nat.not_lt.1 hl),
      List.getElem?_replicate_of_lt (by omega)]

theorem map_byteAt_self (l : List Byte) : (List.range l.length).map (byteAt l) = l := by
  rw [map_byteAt_range, List.take_left]

/-- The `n` bytes from `pos` on, by their place. -/
theorem imageBytes_eq (img : List Byte) (pos n : Nat) :
    imageBytes img pos n = (List.range n).map fun i => byteAt img (pos + i) := by
  rw [imageBytes, ← map_byteAt_range]
  exact List.map_congr_left fun i _ => byteAt_drop ..

theorem byteAt_imageBytes {img : List Byte} {pos n i : Nat} (h : i < n) : byteAt (imageBytes img pos n) i
    = byteAt img (pos + i) := by
  simp [imageBytes_eq, byteAt, h]

/-- A cut of a list and its padded bytes agree byte by byte. -/
theorem byteAt_cut (l : List Byte) (pos n i : Nat) : byteAt ((l.drop pos).take n) i = byteAt (imageBytes l pos n) i := by
  by_cases h : i < n
  · rw [byteAt_imageBytes h, byteAt_take h, byteAt_drop]
  · rw [byteAt_of_le (by simp; omega), byteAt_of_le (by simp [imageBytes_eq]; omega)]

/-! ## A field of several bytes -/

theorem leField_congr {a b : List Byte} {o o' n : Nat} (h : ∀ i < n, byteAt a (o + i) = byteAt b (o' + i)) :
    leField a o n = leField b o' n :=
  congrArg leNat (List.map_congr_left fun i hi => h i (List.mem_range.1 hi))

theorem leField_append_left {a : List Byte} (b : List Byte) {o n : Nat} (h : o + n ≤ a.length) :
    leField (a ++ b) o n = leField a o n :=
  leField_congr fun i hi => byteAt_append_left b (by omega)

theorem leField_append_right {a : List Byte} (b : List Byte) {o n : Nat} (h : a.length ≤ o) :
    leField (a ++ b) o n = leField b (o - a.length) n :=
  leField_congr fun i _ => by rw [byteAt_append_right b (by omega), Nat.sub_add_comm h]

theorem leField_imageBytes {img : List Byte} {pos n o k : Nat} (h : o + k ≤ n) :
    leField (imageBytes img pos n) o k = leField img (pos + o) k :=
  leField_congr fun i hi => by rw [byteAt_imageBytes (by omega), Nat.add_assoc]

theorem leField_succ (l : List Byte) (o n : Nat) : leField l o (n + 1) = (byteAt l o).toNat + 256 * leField l (o + 1) n := by
  have htail : (List.range n).map (fun i => byteAt l (o + (i + 1))) = (List.range n).map fun i => byteAt l (o + 1 + i) :=
    List.map_congr_left fun i _ => by rw [Nat.add_assoc, Nat.add_comm 1]
  rw [leField, List.range_succ_eq_map, List.map_cons, List.map_map, leNat]
  exact congrArg (fun r => (byteAt l o).toNat + 256 * leNat r) htail

theorem leField_lt (l : List Byte) (o n : Nat) : leField l o n < 256 ^ n := by
  induction n generalizing o with
  | zero => simp [leField, leNat]
  | succ n ih =>
    rw [leField_succ, Nat.pow_succ]
    have hbyte := (byteAt l o).isLt
    have hrest := ih (o + 1)
    omega

theorem length_leBytes (n x : Nat) : (leBytes n x).length = n := by
  induction n generalizing x with
  | zero => rfl
  | succ n ih => rw [leBytes, List.length_cons, ih]

theorem leField_leBytes (n x : Nat) : leField (leBytes n x) 0 n = x % 256 ^ n := by
  induction n generalizing x with
  | zero => simp [leField, leNat, Nat.mod_one]
  | succ n ih =>
    have hrest : leField (leBytes (n + 1) x) 1 n = leField (leBytes n (x / 256)) 0 n :=
      leField_congr fun i _ => by rw [leBytes, Nat.add_comm 1, Nat.zero_add]; rfl
    rw [leField_succ, hrest, ih, Nat.pow_succ']
    have hhead : byteAt (leBytes (n + 1) x) 0 = BitVec.ofNat 8 x := rfl
    rw [hhead, BitVec.toNat_ofNat, Nat.mod_mul]

/-- The field at the head of a list. -/
theorem leField_leBytes_append (n x : Nat) (b : List Byte) : leField (leBytes n x ++ b) 0 n = x % 256 ^ n := by
  rw [leField_append_left b (by rw [length_leBytes, Nat.zero_add]), leField_leBytes]

/-! ## A text field -/

theorem takeWhile_zeros (l : List Byte) (n : Nat) :
    (l ++ List.replicate n 0).takeWhile (fun b => decide (b ≠ 0)) = l.takeWhile fun b => decide (b ≠ 0) := by
  induction l with
  | nil => cases n <;> rfl
  | cons b l ih =>
    rw [List.cons_append, List.takeWhile_cons, List.takeWhile_cons, ih]

theorem textField_eq (l : List Byte) (o n : Nat) : textField l o n = textAt l o n := by
  have hbytes : (List.range n).map (fun i => byteAt l (o + i))
      = ((l.drop o).take n) ++ List.replicate (n - (l.drop o).length) 0 := by
    rw [← imageBytes_eq, imageBytes, List.take_append]
    simp
  rw [textField, textAt, hbytes, takeWhile_zeros]

theorem takeWhile_of_not_mem {s : List Byte} (h : 0 ∉ s) : s.takeWhile (fun b => decide (b ≠ 0)) = s :=
  List.takeWhile_eq_self_iff.2 fun _ hb => decide_eq_true (ne_of_mem_of_not_mem hb h)

/-- A text field gives back a text that fits it and holds no 0x00. -/
theorem textAt_textBytes {s : List Byte} {n : Nat} (hlen : s.length ≤ n) (h0 : 0 ∉ s) : textAt (textBytes n s) 0 n = s := by
  have hbytes : (List.range n).map (fun i => byteAt (textBytes n s) (0 + i)) = s ++ List.replicate (n - s.length) 0 := by
    rw [← imageBytes_eq, imageBytes, List.drop_zero, textBytes, List.take_append, List.take_of_length_le (by simp)]
    simp [List.take_append, hlen, List.take_of_length_le hlen]
  rw [textAt, hbytes, takeWhile_zeros, takeWhile_of_not_mem h0]

theorem textAt_congr {a b : List Byte} {o o' n : Nat} (h : ∀ i < n, byteAt a (o + i) = byteAt b (o' + i)) :
    textAt a o n = textAt b o' n :=
  congrArg (List.takeWhile _) (List.map_congr_left fun i hi => h i (List.mem_range.1 hi))

theorem length_textBytes (n : Nat) (s : List Byte) : (textBytes n s).length = n := by
  simp [textBytes]

end Sys2Proof.Machine

end

section
/-! PROOFS. The settings an image's sections give (R196, R207). -/

namespace Sys2Proof.Machine

open Sys2Proof

/-! ## Entries by their bytes -/

theorem actionOfCode_eq (n : Nat) : actionOfCode n = [WakeAction.wake, .wakeSpin, .ignore][n]? := by
  obtain _ | _ | _ | n := n <;> rfl

theorem layoutOfCode_eq (n : Nat) : layoutOfCode n = [Layout.single, .mirror, .stripe, .whole][n]? := by
  obtain _ | _ | _ | _ | n := n <;> rfl

theorem unitOfCode_eq (n : Nat) : unitOfCode n = [16, 32, 64, 128, 256][n]? := by
  obtain _ | _ | _ | _ | _ | n := n <;> rfl

theorem rightOfCode_eq (b : Byte) : rightOfCode b.toNat = if b = 0 then some .none else if b = 1 then some .read
    else if b = 2 then some .readWrite else none := by
  simp only [← BitVec.toNat_inj]
  generalize b.toNat = n
  obtain _ | _ | _ | n := n <;> simp [rightOfCode]

theorem wakeOfBytes_eq (bs : List Byte) : wakeOfBytes bs = wakeIn bs := by
  unfold wakeOfBytes wakeIn
  rw [actionOfCode_eq]
  cases (byteAt bs 0).getLsbD 0 <;> rfl

theorem windowOfBytes_eq (bs : List Byte) : windowOfBytes bs = windowIn bs := by
  have hserial (b : Byte) (t : List Byte) : (if flagSet b then some t else none) = if b = 0 then none else some t := by
    by_cases h : b = 0 <;> simp [flagSet, h]
  unfold windowOfBytes windowIn
  simp only [layoutOfCode_eq, unitOfCode_eq, rightOfCode_eq, textField_eq, hserial]

theorem windowIn_congr {a b : List Byte} (h : ∀ i, byteAt a i = byteAt b i) : windowIn a = windowIn b := by
  have hbytes : byteAt a = byteAt b := funext h
  unfold windowIn leField textAt
  rw [hbytes]

theorem wakeIn_congr {a b : List Byte} (h : ∀ i, byteAt a i = byteAt b i) : wakeIn a = wakeIn b := by
  have hbytes : byteAt a = byteAt b := funext h
  unfold wakeIn leField
  rw [hbytes]

theorem placeOfBytes_eq (c : List Byte) (o : Nat) : placeOfBytes (imageBytes c o 7) = addressAt c o := by
  have haddress : addressField (imageBytes c o 7) 1 = Vector.ofFn fun i : Fin 6 => byteAt c (o + 1 + i.val) := by
    unfold addressField
    congr 1
    funext i
    rw [byteAt_imageBytes (by omega), Nat.add_assoc]
  unfold placeOfBytes addressAt
  rw [haddress, byteAt_imageBytes (by omega), Nat.add_zero]
  by_cases h : byteAt c o = 0 <;> simp [flagSet, h]

theorem classesOfByte_eq (b : Byte) : classesOfByte b = ([(0, ActClass.pp), (1, .dp), (2, .copy), (3, .patrol), (4, .mp)].filter
    fun x => b.getLsbD x.1).map fun x => x.2 := by
  rw [← List.filterMap_eq_map, ← List.filterMap_eq_filter, List.filterMap_filterMap, classesOfByte]
  refine congrArg (List.filterMap · _) (funext fun x => ?_)
  by_cases h : b.getLsbD x.1 = true <;> simp [h, Option.guard]

theorem profileOfBytes_eq (c : List Byte) (o : Nat) : profileOfBytes (imageBytes c o 16) = profileAt c o := by
  unfold profileOfBytes clampProfile profileAt
  simp only [leField_imageBytes (pos := o) (n := 16) (k := 2) (img := c), byteAt_imageBytes, Nat.reduceAdd, Nat.reduceLeDiff,
    Nat.reduceLT, Nat.add_zero, classesOfByte_eq, clampIdle]

/-! ## The first section of each kind -/

theorem settingsOf_cons (x : Section) (l : List Section) : settingsOf (x :: l) = readSection (settingsOf l) x := by
  simp [settingsOf]

theorem settingsGiven_nil : settingsGiven [] = {} := rfl

/-- Of two sections of a kind the first gives the settings (R196, log entry 51). -/
theorem settingsGiven_cons (x : Section) (l : List Section) : settingsGiven (x :: l) = readSection (settingsGiven l) x := by
  have hwindows (c : List Byte) : (windowEntries c).map windowOfBytes
      = (List.range (byteAt c 0).toNat).map fun i => windowIn ((c.drop (1 + 156 * i)).take 156) := by
    rw [windowEntries, List.map_map]
    refine List.map_congr_left fun i _ => ?_
    exact (windowOfBytes_eq _).trans (windowIn_congr fun j => (byteAt_cut c _ _ j).symm)
  have hwakes (c : List Byte) : ((List.range 24).map fun i => wakeOfBytes (imageBytes c (44 * i) 44))
      = (List.range 24).map fun i => wakeIn ((c.drop (44 * i)).take 44) :=
    List.map_congr_left fun i _ => (wakeOfBytes_eq _).trans (wakeIn_congr fun j => (byteAt_cut c _ _ j).symm)
  have hflag (b : Byte) : flagSet b = decide (b ≠ 0) := by
    rw [Bool.eq_iff_iff]
    simp [flagSet]
  have hsp (c : List Byte) : spProfileOfBytes (imageBytes c 64 6)
      = { sUp := leField c 64 2, sRun := leField c 66 2, tSp := leField c 68 2 } := by
    simp [spProfileOfBytes, leField_imageBytes]
  unfold readSection
  dsimp only
  rw [hwindows, hwakes, hsp]
  simp only [hflag, placeOfBytes_eq, profileOfBytes_eq, patrolEntries]
  have hrange : List.range 4 = [0, 1, 2, 3] := rfl
  split
  case h_9 h1 h2 h3 h4 h5 h6 h7 h8 =>
    simp [settingsGiven, beq_eq_false_iff_ne.2 h1, beq_eq_false_iff_ne.2 h2, beq_eq_false_iff_ne.2 h3,
      beq_eq_false_iff_ne.2 h4, beq_eq_false_iff_ne.2 h5, beq_eq_false_iff_ne.2 h6, beq_eq_false_iff_ne.2 h7,
      beq_eq_false_iff_ne.2 h8]
  all_goals
    next hk => simp [settingsGiven, hk, hrange]

theorem settingsOf_eq (l : List Section) : settingsOf l = settingsGiven l := by
  induction l with
  | nil => exact settingsGiven_nil.symm
  | cons x l ih => rw [settingsOf_cons, settingsGiven_cons, ih]

/-! ## The windows of an image -/

/-- The record of an image window is as R11 and R12 describe it. -/
theorem recordGiven_eq (x : ImageWindow) (i : Nat) : recordGiven x i = { windowOfImage x with interval := i } := by
  unfold recordGiven windowOfImage windowOfDef
  dsimp only
  rw [List.zipWith_map_left]
  rfl

theorem all_zipWith {f : Member → Bool} (hf : ∀ m s, f { m with serial := s } = f m) {l : List Member}
    {ss : List (Option (List Byte))} (h : ss.length = l.length) :
    (l.zipWith (fun m s => { m with serial := s }) ss).all f = l.all f := by
  induction l generalizing ss with
  | nil => simp
  | cons m l ih =>
    obtain _ | ⟨s, ss⟩ := ss
    · exact absurd h (by simp)
    · rw [List.zipWith_cons_cons, List.all_cons, List.all_cons, hf, ih (by simpa using h)]

section
variable {x : ImageWindow} (h : x.serials.length = x.d.members.length)
include h

theorem length_members_given : (recordGiven x 0).members.length = (windowOfDef x.d).members.length := by
  simp [recordGiven, windowOfDef, h]

theorem extentLen_given : (recordGiven x 0).extentLen = (windowOfDef x.d).extentLen := by
  unfold Window.extentLen
  rw [length_members_given h]
  rfl

theorem all_members_given {f : Member → Bool} (hf : ∀ m s, f { m with serial := s } = f m) :
    (recordGiven x 0).members.all f = (windowOfDef x.d).members.all f := by
  rw [recordGiven_eq]
  exact all_zipWith hf (by simp [windowOfDef, h])

theorem noOverlap_given (others : List Window) : noOverlap (recordGiven x 0) others = noOverlap (windowOfDef x.d) others := by
  unfold noOverlap
  rw [extentLen_given h]
  exact congrArg (List.all others) (funext fun v => by rw [all_members_given h fun _ _ => rfl])

theorem wholeAlone_given (others : List Window) : wholeAlone (recordGiven x 0) others = wholeAlone (windowOfDef x.d) others := by
  unfold wholeAlone
  exact congrArg (List.all others) (funext fun v => by rw [all_members_given h fun _ _ => rfl]; rfl)

theorem stripeLength_given : stripeLength (recordGiven x 0) = stripeLength (windowOfDef x.d) := by
  unfold stripeLength
  rw [length_members_given h]
  rfl

end

/-- A window of an image passes the checks of R12 against those before it. -/
def ImageFits (before : List ImageWindow) (w : ImageWindow) : Prop :=
  let others := before.map fun y => recordGiven y 0
  w.d.index < 16 ∧ (∀ y ∈ before, y.d.index ≠ w.d.index) ∧ wellFormedDef w.d = true
    ∧ noOverlap (recordGiven w 0) others = true ∧ wholeAlone (recordGiven w 0) others = true
    ∧ stripeLength (recordGiven w 0) = true

theorem windowsFit_cons {x : ImageWindow} (h : x.serials.length = x.d.members.length) (before rest : List ImageWindow) :
    windowsFit before (x :: rest) = true ↔ ImageFits before x ∧ windowsFit (before ++ [x]) rest = true := by
  have hothers : before.map windowOfImage = before.map fun y => recordGiven y 0 :=
    List.map_congr_left fun y _ => (recordGiven_eq y 0).symm
  unfold ImageFits
  dsimp only
  rw [windowsFit, hothers, noOverlap_given h, wholeAlone_given h, stripeLength_given h]
  simp [and_assoc]

theorem windowsFit_iff {ws : List ImageWindow} (h : ∀ w ∈ ws, w.serials.length = w.d.members.length)
    (pre : List ImageWindow) : windowsFit pre ws = true
      ↔ ∀ before w after, ws = before ++ w :: after → ImageFits (pre ++ before) w := by
  induction ws generalizing pre with
  | nil => simp [windowsFit]
  | cons x ws ih =>
    rw [windowsFit_cons (h x List.mem_cons_self), ih fun w hw => h w (List.mem_cons_of_mem x hw)]
    constructor
    · rintro ⟨hx, hrest⟩ before w after heq
      obtain _ | ⟨y, before⟩ := before
      · obtain ⟨rfl, rfl⟩ := List.cons.inj heq
        simpa using hx
      · obtain ⟨rfl, htail⟩ : x = y ∧ ws = before ++ w :: after := by simpa using heq
        simpa using hrest before w after htail
    · intro hall
      exact ⟨by simpa using hall [] x ws rfl, fun before w after heq => by
        simpa using hall (x :: before) w after (by rw [heq]; rfl)⟩

end Sys2Proof.Machine

end

section
/-! PROOFS. The judging of a configuration image (R197, R207). -/

namespace Sys2Proof.Machine

open Sys2Proof

/-! ## The sections of an image -/

theorem sectionsAt_le {img : List Byte} {len pos : Nat} {l : List Section} (h : sectionsAt img len pos l) : pos ≤ len := by
  cases l with
  | nil => exact Nat.le_of_eq h
  | cons x l =>
    have hend : pos + 4 + leField img (pos + 2) 2 ≤ len := h.1
    omega

/-- The sections read from an image are those that stand there (R207). -/
theorem sectionsFrom_iff {img : List Byte} {len fuel pos : Nat} (hfuel : len < pos + fuel) (l : List Section) :
    sectionsFrom img len fuel pos = some l ↔ sectionsAt img len pos l := by
  induction fuel generalizing pos l with
  | zero => exact ⟨fun h => absurd h nofun, fun h => absurd (sectionsAt_le h) (by omega)⟩
  | succ fuel ih =>
    unfold sectionsFrom
    by_cases hpos : pos = len
    · rw [if_pos hpos]
      cases l with
      | nil => exact ⟨fun _ => hpos, fun _ => rfl⟩
      | cons x l =>
        refine ⟨fun h => absurd h nofun, fun ⟨hend, _⟩ => ?_⟩
        omega
    · rw [if_neg hpos]
      by_cases hshort : len < pos + 4 + leField img (pos + 2) 2
      · have hnone : (if len < pos + 4 then none else
            let c := leField img (pos + 2) 2
            if len < pos + 4 + c then none
            else (sectionsFrom img len fuel (pos + 4 + c)).map fun rest =>
              ({ kind := byteAt img pos, contents := imageBytes img (pos + 4) c } : Section) :: rest) = none := by
          split
          · rfl
          · exact if_pos hshort
        rw [hnone]
        refine ⟨fun h => absurd h nofun, fun h => ?_⟩
        cases l with
        | nil => exact absurd h hpos
        | cons x l => exact absurd h.1 (Nat.not_le.2 hshort)
      · rw [if_neg (by omega)]
        dsimp only
        rw [if_neg hshort, Option.map_eq_some_iff, imageBytes_eq]
        have hrest := ih (pos := pos + 4 + leField img (pos + 2) 2) (by omega)
        cases l with
        | nil => exact ⟨fun ⟨r, _, h⟩ => absurd h nofun, fun h => absurd h hpos⟩
        | cons x l =>
          constructor
          · rintro ⟨r, hr, heq⟩
            obtain ⟨rfl, rfl⟩ := List.cons.inj heq
            exact ⟨Nat.not_lt.1 hshort, rfl, rfl, (hrest r).1 hr⟩
          · rintro ⟨-, hkind, hcontents, hr⟩
            refine ⟨l, (hrest l).2 hr, ?_⟩
            rw [← hkind, ← hcontents]

/-! ## The check -/

theorem byteSum_eq (l : List Byte) : byteSum l = (l.map fun b => b.toNat).sum := by
  induction l with
  | nil => rfl
  | cons b l ih => rw [byteSum, ih, List.map_cons, List.sum_cons]

/-- The bytes that an image's check sums are all but the check's own two (R207). -/
theorem imageSum_eq {img : List Byte} {len : Nat} (h : 16 ≤ len) :
    imageSum img len = byteSum (imageBytes img 0 8) + byteSum (imageBytes img 10 (len - 10)) := by
  have hrange : List.range len = List.range 10 ++ (List.range (len - 10)).map (10 + ·) := by
    rw [← List.range_add, Nat.add_sub_of_le (by omega)]
  have hlow : (List.range 10).filter (fun i => decide (i ≠ 8 ∧ i ≠ 9)) = List.range 8 := by decide
  have hhigh : ((List.range (len - 10)).map (10 + ·)).filter (fun i => decide (i ≠ 8 ∧ i ≠ 9))
      = (List.range (len - 10)).map (10 + ·) :=
    List.filter_eq_self.2 fun i hi => by
      obtain ⟨j, -, rfl⟩ := List.mem_map.1 hi
      exact decide_eq_true (by omega)
  rw [imageSum, hrange, List.filter_append, hlow, hhigh]
  simp [byteSum_eq, imageBytes_eq, Function.comp_def]

theorem check_iff {img : List Byte} {len : Nat} (h : 16 ≤ len) :
    leField img 8 2 ≠ imageCheck img len ↔ (leField img 8 2 + imageSum img len) % 65536 ≠ 0 := by
  have hfield : leField img 8 2 < 65536 := leField_lt img 8 2
  rw [imageSum_eq h, imageCheck]
  omega

/-! ## A section's own rule (R196) -/

theorem lostFits_iff (bs : List Byte) : lostFits bs = true
    ↔ byteAt bs 7 = 0 ∨ ((byteAt bs 7).toNat ≤ 2 ∧ byteAt bs 1 = 1) := by
  have hmirror (b : Byte) : layoutOfCode b.toNat = some .mirror ↔ b = 1 := by
    rw [← BitVec.toNat_inj]
    generalize b.toNat = n
    obtain _ | _ | _ | _ | n := n <;> simp [layoutOfCode]
  rw [lostFits, Bool.and_eq_true, Bool.or_eq_true, decide_eq_true_iff, beq_iff_eq, beq_iff_eq, hmirror]
  constructor
  · rintro ⟨hle, h0 | h1⟩
    · exact .inl h0
    · exact .inr ⟨hle, h1⟩
  · rintro (h0 | ⟨hle, h1⟩)
    · exact ⟨by rw [h0]; decide, .inl h0⟩
    · exact ⟨hle, .inr h1⟩

theorem lostFits_entries (c : List Byte) : (windowEntries c).all lostFits = true ↔ ∀ i < (byteAt c 0).toNat,
    byteAt c (1 + 156 * i + 7) = 0 ∨ ((byteAt c (1 + 156 * i + 7)).toNat ≤ 2 ∧ byteAt c (1 + 156 * i + 1) = 1) := by
  simp only [windowEntries, List.all_eq_true, List.forall_mem_map, List.mem_range, lostFits_iff]
  refine forall₂_congr fun i _ => ?_
  rw [byteAt_imageBytes (by omega), byteAt_imageBytes (by omega)]

theorem wakesFit_iff (l : List (Option WakeDef)) : (l.all fun w => match w with | none => true | some w => wakeFits w) = true
    ↔ ∀ d, some d ∈ l → wakeFits d = true := by
  rw [List.all_eq_true]
  refine ⟨fun h d hd => h (some d) hd, fun h w hw => ?_⟩
  cases w with
  | none => rfl
  | some d => exact h d hw

theorem placesFit_iff (l : List (Option Address)) : l.all placeFits = true
    ↔ ∀ g, some g ∈ l → g[0].getLsbD 0 = true ∧ g ≠ Vector.replicate 6 0xFF := by
  rw [List.all_eq_true]
  exact ⟨fun h g hg => (placeFits_iff _).1 (h _ hg) g rfl, fun h o ho => (placeFits_iff o).2 fun g hg => h g (hg ▸ ho)⟩

/-- The rule of R196 for a section's entries. -/
theorem sectionFits_iff {s : Settings} (hs : ∀ w ∈ s.windows, w.serials.length = w.d.members.length) (x : Section) :
    sectionFits s x = true ↔ sectionPasses s x := by
  have hlength {a b : Nat} : (some a == some b) = true ↔ b = a := by
    rw [beq_iff_eq, Option.some_inj]
    exact eq_comm
  unfold sectionFits sectionPasses
  dsimp only
  rw [Bool.and_eq_true]
  generalize x.kind.toNat = n
  match n with
  | 0 => exact ⟨fun h => absurd h.1 (by simp [sectionLength]), False.elim⟩
  | 1 =>
    refine and_congr hlength ?_
    simp [budgetFits, and_assoc]
  | 2 =>
    refine and_congr hlength (Bool.and_eq_true_iff.trans ?_)
    rw [List.all_eq_true]
    exact and_congr (forall₂_congr fun y _ => bayProfileFits_iff y ..) (spProfileFits_iff ..)
  | 3 =>
    refine and_congr hlength (Bool.and_eq_true_iff.trans ?_)
    rw [Bool.and_eq_true, decide_eq_true_iff, lostFits_entries, windowsFit_iff hs, and_assoc]
    rfl
  | 4 => exact and_congr hlength ((wakesFit_iff _).trans (forall₂_congr fun d _ => wakeFits_iff d))
  | 5 =>
    refine and_congr hlength (Bool.and_eq_true_iff.trans ?_)
    rw [placesFit_iff]
    refine and_congr_left fun _ => ?_
    cases s.station with
    | none => simp
    | some a => simpa using stationFits_iff a
  | 6 => exact and_congr hlength decide_eq_true_iff
  | 7 =>
    refine and_congr hlength ?_
    simp [and_assoc]
  | 8 => exact (and_iff_left rfl).trans hlength
  | n + 9 => exact ⟨fun h => absurd h.1 (by simp [sectionLength]), False.elim⟩

/-! ## The first section that fails (R197) -/

/-- Section `x` passes after the sections `before` (R197 check 5). -/
def SectionPasses (s : Settings) (before : List Section) (x : Section) : Prop :=
  (∀ y ∈ before, y.kind ≠ x.kind) ∧ sectionPasses s x

section
variable {s : Settings} (hs : ∀ w ∈ s.windows, w.serials.length = w.d.members.length)
include hs

theorem fails_iff (pre : List Section) (x : Section) :
    (x.kind ∈ pre.map (fun y => y.kind) ∨ (!sectionFits s x) = true) ↔ ¬SectionPasses s pre x := by
  rw [Bool.not_eq_true', ← Bool.not_eq_true, sectionFits_iff hs, SectionPasses, not_and_or]
  refine or_congr_left ?_
  simp

theorem failingSection_of_pass {pre : List Section} {x : Section} (h : SectionPasses s pre x) (rest : List Section) :
    failingSection s (pre.map fun y => y.kind) (x :: rest) = failingSection s ((pre ++ [x]).map fun y => y.kind) rest := by
  rw [failingSection, if_neg fun hfail => (fails_iff hs pre x).1 hfail h, List.map_append]
  rfl

theorem failingSection_of_first {before after : List Section} {x : Section} (pre : List Section)
    (hbefore : ∀ u y v, before = u ++ y :: v → SectionPasses s (pre ++ u) y) (hx : ¬SectionPasses s (pre ++ before) x) :
    failingSection s (pre.map fun y => y.kind) (before ++ x :: after) = some x.kind := by
  induction before generalizing pre with
  | nil =>
    rw [List.append_nil] at hx
    exact if_pos ((fails_iff hs pre x).2 hx)
  | cons y before ih =>
    have hy : SectionPasses s pre y := by simpa using hbefore [] y before rfl
    rw [List.cons_append, failingSection_of_pass hs hy]
    refine ih (pre ++ [y]) (fun u z v heq => ?_) (by simpa using hx)
    simpa using hbefore (y :: u) z v (by rw [heq]; rfl)

theorem failingSection_of_none {l : List Section} (pre : List Section)
    (hl : ∀ before x after, l = before ++ x :: after → SectionPasses s (pre ++ before) x) :
    failingSection s (pre.map fun y => y.kind) l = none := by
  induction l generalizing pre with
  | nil => rfl
  | cons x l ih =>
    have hx : SectionPasses s pre x := by simpa using hl [] x l rfl
    rw [failingSection_of_pass hs hx]
    refine ih (pre ++ [x]) fun u z v heq => ?_
    simpa using hl (x :: u) z v (by rw [heq]; rfl)

end

/-- The windows of an image hold a serial, or none, for each member (R207). -/
theorem settingsGiven_serials (l : List Section) :
    ∀ w ∈ (settingsGiven l).windows, w.serials.length = w.d.members.length := by
  intro w hw
  have hin : ∃ c, w = windowIn c := by
    have hmap : (settingsGiven l).windows = (((l.find? fun x => x.kind.toNat == 3).map fun x => x.contents).map fun c =>
        (List.range (byteAt c 0).toNat).map fun i => windowIn ((c.drop (1 + 156 * i)).take 156)).getD [] := rfl
    rw [hmap] at hw
    cases hf : l.find? fun x => x.kind.toNat == 3 with
    | none => rw [hf] at hw; exact absurd hw List.not_mem_nil
    | some x =>
      rw [hf] at hw
      obtain ⟨i, -, rfl⟩ := List.mem_map.1 hw
      exact ⟨_, rfl⟩
  obtain ⟨c, rfl⟩ := hin
  simp [windowIn]

/-! ## The verdict (R197) -/

theorem marker_iff (img : List Byte) : imageBytes img 0 4 = marker ↔ img.take 4 = [0x45, 0x42, 0x43, 0x46] := by
  rw [imageBytes, List.drop_zero]
  obtain _ | ⟨a, _ | ⟨b, _ | ⟨c, _ | ⟨d, rest⟩⟩⟩⟩ := img <;> simp [marker]

section
variable {img : List Byte}

theorem judgeImage_of_marker (h : img.take 4 ≠ [0x45, 0x42, 0x43, 0x46]) : judgeImage img = .error .marker :=
  if_pos fun hm => h ((marker_iff img).1 hm)

variable (hm : img.take 4 = [0x45, 0x42, 0x43, 0x46])
include hm

theorem judgeImage_of_version (h : leField img 4 2 ≠ 1) : judgeImage img = .error .version :=
  (if_neg (not_not.2 ((marker_iff img).2 hm))).trans (if_pos h)

variable (hv : leField img 4 2 = 1)
include hv

theorem judgeImage_of_length (h : leField img 6 2 < 16 ∨ 32768 < leField img 6 2
    ∨ ∀ l, ¬sectionsAt img (leField img 6 2) 16 l) : judgeImage img = .error .length := by
  refine (if_neg (not_not.2 ((marker_iff img).2 hm))).trans ((if_neg (not_not.2 hv)).trans ?_)
  by_cases hlen : leField img 6 2 < 16 ∨ 32768 < leField img 6 2
  · exact if_pos hlen
  · have hnone : sectionsFrom img (leField img 6 2) (leField img 6 2 + 1) 16 = none := by
      cases hsec : sectionsFrom img (leField img 6 2) (leField img 6 2 + 1) 16 with
      | none => rfl
      | some l => exact absurd ((sectionsFrom_iff (by omega) l).1 hsec) ((or_assoc.2 h).resolve_left hlen l)
    refine (if_neg hlen).trans ?_
    change (match sectionsFrom img (leField img 6 2) (leField img 6 2 + 1) 16 with
      | none => Except.error FailReason.length
      | some l => _) = _
    rewrite [hnone]
    rfl

variable {l : List Section} (hlen : leField img 6 2 ≤ 32768) (hl : sectionsAt img (leField img 6 2) 16 l)
include hlen hl

/-- The verdict on an image whose sections stand as they should: its check, and then its sections (R197 checks 4 and 5). -/
theorem judgeImage_of_sections : judgeImage img = if (leField img 8 2 + imageSum img (leField img 6 2)) % 65536 ≠ 0
    then .error .check
    else (failingSection (settingsGiven l) [] l).elim (.ok (settingsGiven l)) fun k => .error (.badSection k) := by
  have hfrom : 16 ≤ leField img 6 2 := sectionsAt_le hl
  have hsec : sectionsFrom img (leField img 6 2) (leField img 6 2 + 1) 16 = some l := (sectionsFrom_iff (by omega) l).2 hl
  have hrange : ¬(leField img 6 2 < 16 ∨ 32768 < leField img 6 2) := by omega
  refine (if_neg (not_not.2 ((marker_iff img).2 hm))).trans ((if_neg (not_not.2 hv)).trans ((if_neg hrange).trans ?_))
  change (match sectionsFrom img (leField img 6 2) (leField img 6 2 + 1) 16 with
    | none => _
    | some l => _) = _
  rewrite [hsec]
  dsimp only
  refine if_congr (check_iff hfrom) rfl ?_
  rw [settingsOf_eq]
  cases failingSection (settingsGiven l) [] l <;> rfl

theorem judgeImage_of_check (h : (leField img 8 2 + imageSum img (leField img 6 2)) % 65536 ≠ 0) :
    judgeImage img = .error .check :=
  (judgeImage_of_sections hm hv hlen hl).trans (if_pos h)

variable (hsum : (leField img 8 2 + imageSum img (leField img 6 2)) % 65536 = 0)
include hsum

theorem judgeImage_of_failing {k : Byte} (h : failingSection (settingsGiven l) [] l = some k) :
    judgeImage img = .error (.badSection k) := by
  rw [judgeImage_of_sections hm hv hlen hl, if_neg (not_not.2 hsum), h]
  rfl

theorem judgeImage_of_sound (h : failingSection (settingsGiven l) [] l = none) : judgeImage img = .ok (settingsGiven l) := by
  rw [judgeImage_of_sections hm hv hlen hl, if_neg (not_not.2 hsum), h]
  rfl

end

/-- What an image is judged as (R197). -/
theorem imageVerdict (img : List Byte) :
    let len := leField img 6 2
    let sound : Prop := img.take 4 = [0x45, 0x42, 0x43, 0x46] ∧ leField img 4 2 = 1
    (img.take 4 ≠ [0x45, 0x42, 0x43, 0x46] → judgeImage img = .error .marker)
    ∧ (img.take 4 = [0x45, 0x42, 0x43, 0x46] → leField img 4 2 ≠ 1 → judgeImage img = .error .version)
    ∧ (sound → (len < 16 ∨ 32768 < len ∨ ∀ l, ¬sectionsAt img len 16 l) → judgeImage img = .error .length)
    ∧ ∀ l, sound → len ≤ 32768 → sectionsAt img len 16 l →
      ((leField img 8 2 + imageSum img len) % 65536 ≠ 0 → judgeImage img = .error .check)
      ∧ ((leField img 8 2 + imageSum img len) % 65536 = 0 →
        (∀ before x after, l = before ++ x :: after →
          (∀ u y v, before = u ++ y :: v → SectionPasses (settingsGiven l) u y) → ¬SectionPasses (settingsGiven l) before x →
            judgeImage img = .error (.badSection x.kind))
        ∧ ((∀ before x after, l = before ++ x :: after → SectionPasses (settingsGiven l) before x) →
          judgeImage img = .ok (settingsGiven l))) := by
  refine ⟨judgeImage_of_marker, judgeImage_of_version, fun ⟨hm, hv⟩ h => judgeImage_of_length hm hv h,
    fun l ⟨hm, hv⟩ hlen hl => ⟨judgeImage_of_check hm hv hlen hl, fun hsum => ⟨fun before x after heq hbefore hx => ?_,
      fun hall => ?_⟩⟩⟩
  · refine judgeImage_of_failing hm hv hlen hl hsum ?_
    have hfirst := failingSection_of_first (after := after) (settingsGiven_serials l) [] (before := before) hbefore hx
    exact (congrArg (failingSection (settingsGiven l) []) heq).trans hfirst
  · exact judgeImage_of_sound hm hv hlen hl hsum (failingSection_of_none (settingsGiven_serials l) [] hall)

end Sys2Proof.Machine

end

section
/-! PROOFS. Settings put in force (R12, R129, R160, R198). -/

namespace Sys2Proof.Machine

open Sys2Proof

/-! ## The windows and the profiles of an image -/

/-- The interval the patrol section gives a window: that of the last entry that names it (log entry 62). -/
def intervalGiven (s : Settings) (w : Fin 16) : Nat :=
  match s.patrols.reverse.find? fun y => y.1 == w.val with
  | none => 0
  | some y => min 3600 y.2

theorem takeWindow_eq (s : Settings) (p : Part) (x : ImageWindow) : p.takeWindow s x = { p with
    windows := Vector.ofFn fun w => if x.d.index == w.val then recordGiven x (intervalGiven s w) else p.window w } := by
  have hinterval (w : Fin 16) : ((s.patrols.reverse.find? fun y => y.1 == w.val).map fun y => clampInterval y.2).getD 0
      = intervalGiven s w := by
    unfold intervalGiven
    cases s.patrols.reverse.find? fun y => y.1 == w.val <;> rfl
  unfold Part.takeWindow
  by_cases hx : x.d.index < 16
  · obtain ⟨w, hw⟩ : ∃ w : Fin 16, x.d.index = w.val := ⟨⟨x.d.index, hx⟩, rfl⟩
    rw [hw, windowOf_val]
    dsimp only
    rw [hinterval, ← recordGiven_eq]
    refine congrArg (fun v => { p with windows := v }) (Vector.ext fun i hi => ?_)
    rw [Vector.getElem_ofFn, Vector.getElem_set]
    by_cases hi' : w.val = i
    · obtain rfl : w = ⟨i, hi⟩ := Fin.ext hi'
      simp
    · simp [hi', Part.window]
  · rw [windowOf_of_not_lt hx]
    refine congrArg (fun v => { p with windows := v }) (Vector.ext fun i hi => ?_)
    have hne : (x.d.index == i) = false := beq_eq_false_iff_ne.2 (by omega)
    rw [Vector.getElem_ofFn]
    simp only [hne]
    rfl

theorem takeWindows_eq (s : Settings) (l : List ImageWindow) (p : Part) : l.foldl (Part.takeWindow s) p = { p with
    windows := Vector.ofFn fun w => ((l.reverse.find? fun x => x.d.index == w.val).map fun x =>
      recordGiven x (intervalGiven s w)).getD (p.window w) } := by
  induction l using List.reverseRecOn with
  | nil =>
    refine congrArg (fun v => { p with windows := v }) (Vector.ext fun i hi => ?_)
    simp [Part.window]
  | append_singleton l x ih =>
    rw [List.foldl_append, ih]
    refine (takeWindow_eq ..).trans (congrArg (fun v => { p with windows := v }) (Vector.ext fun i hi => ?_))
    rw [Vector.getElem_ofFn, Vector.getElem_ofFn, List.reverse_append]
    cases h : x.d.index == i <;> simp [Part.window, h]

theorem takeProfiles_eq (l : List BayProfile) (p : Part) : p.takeProfiles l = { p with
    bays := Vector.ofFn fun b => { p.bay b with profile := (l[b.val]?).getD (p.bay b).profile } } := by
  have hfold (f : Fin 4 → Bay → Bay) (bs : List (Fin 4)) (q : Part) : bs.foldl (fun q b => q.modBay b (f b)) q
      = { q with bays := bs.foldl (fun (u : Vector Bay 4) (k : Fin 4) => u.set k (f k u[k])) q.bays } := by
    induction bs generalizing q with
    | nil => rfl
    | cons b bs ih => rw [List.foldl_cons, ih, List.foldl_cons]; rfl
  refine (hfold (fun b x => { x with profile := (l[b.val]?).getD x.profile }) allBays p).trans ?_
  refine congrArg (fun v => { p with bays := v }) (Vector.ext fun i hi => ?_)
  have hset := foldl_set_eq_map (fun (b : Fin 4) x => { x with profile := (l[b.val]?).getD x.profile : Bay }) allBays p.bays
    (by decide) ⟨i, hi⟩
  simpa [mem_allBays, Part.bay] using hset

/-- Settings put in force (R12, R129, R160, R198). -/
theorem putInForce_eq (s : Settings) (p : Part) : p.putInForce s = Part.judgeKnown { p with
    power := { p.power with budget := s.budget, bLow := s.bLow, spProfile := s.sp }
    bays := Vector.ofFn fun b => { p.bay b with profile := (s.profiles[b.val]?).getD (p.bay b).profile }
    windows := Vector.ofFn fun w => ((s.windows.reverse.find? fun x => x.d.index == w.val).map fun x =>
      recordGiven x (intervalGiven s w)).getD {}
    matcher := { p.matcher with
      station := s.station, groups := s.groups, summons := s.summons, table := Part.wakeTable s.wakes }
    box := { p.box with
      settings := { grace := s.grace, resumeLimit := s.resumeLimit, attachWakes := s.attachWakes
                    startOnPower := s.startOnPower }
      grace := p.box.grace.map fun n => min n s.grace } } := by
  unfold Part.putInForce
  dsimp only
  rw [takeProfiles_eq, takeWindows_eq]
  simp only [Part.window, Fin.getElem_fin, Vector.getElem_replicate]
  rfl

end Sys2Proof.Machine

end

section
/-! PROOFS. An address, a profile, a wake entry and a window read from the bytes a save writes for them (R206, R207). -/

namespace Sys2Proof.Machine

open Sys2Proof

/-! ## Addresses -/

theorem addressAt_placeBytes (a : Option Address) : addressAt (Part.placeBytes a) 0 = a := by
  cases a with
  | none => rfl
  | some a =>
    refine (if_neg (by simp [Part.placeBytes, byteAt])).trans (congrArg some (Vector.ext fun i hi => ?_))
    rw [Vector.getElem_ofFn, Part.placeBytes, Nat.zero_add]
    change byteAt ([1] ++ a.toList) (([1] : List Byte).length + i) = _
    rw [byteAt_append_add]
    simp [byteAt, hi]

/-! ## Profiles -/

theorem leField_skip {n o : Nat} (h : n ≤ o) (x : Nat) (b : List Byte) (k : Nat) :
    leField (leBytes n x ++ b) o k = leField b (o - n) k := by
  rw [leField_append_right b (by rw [length_leBytes]; exact h), length_leBytes]

theorem byteAt_skip {n i : Nat} (h : n ≤ i) (x : Nat) (b : List Byte) : byteAt (leBytes n x ++ b) i = byteAt b (i - n) := by
  rw [byteAt_append_right b (by rw [length_leBytes]; exact h), length_leBytes]

/-- The bits of the activity mask byte. -/
theorem byteOfClasses_bits (l : List ActClass) : (byteOfClasses l)[0] = decide (.pp ∈ l)
    ∧ (byteOfClasses l)[1] = decide (.dp ∈ l) ∧ (byteOfClasses l)[2] = decide (.copy ∈ l)
    ∧ (byteOfClasses l)[3] = decide (.patrol ∈ l) ∧ (byteOfClasses l)[4] = decide (.mp ∈ l) := by
  have hbits : ∀ b0 b1 b2 b3 b4 : Bool,
      let byte := BitVec.ofNat 8 (([(1, b0), (2, b1), (4, b2), (8, b3), (16, b4)].filter fun x => x.2).foldl
        (fun n x => n + x.1) 0)
      byte[0] = b0 ∧ byte[1] = b1 ∧ byte[2] = b2 ∧ byte[3] = b3 ∧ byte[4] = b4 := by
    decide
  have hbyte : byteOfClasses l = BitVec.ofNat 8 (([(1, decide (ActClass.pp ∈ l)), (2, decide (ActClass.dp ∈ l)),
      (4, decide (ActClass.copy ∈ l)), (8, decide (ActClass.patrol ∈ l)), (16, decide (ActClass.mp ∈ l))].filter
        fun x => x.2).foldl (fun n x => n + x.1) 0) := by
    have hmap : ∀ k : List (Nat × ActClass), (k.filter fun x => x.2 ∈ l).foldl (fun n x => n + x.1) 0
        = ((k.map fun x => (x.1, decide (x.2 ∈ l))).filter fun x => x.2).foldl (fun n x => n + x.1) 0 := fun k => by
      rw [List.filter_map, List.foldl_map]
      rfl
    exact congrArg (BitVec.ofNat 8) (hmap _)
  rw [hbyte]
  exact hbits ..

theorem profileAt_profileBytes (x : BayProfile) :
    let y := profileAt (Part.profileBytes x) 0
    let idle (n : Nat) : Nat := if 1 ≤ n % 65536 ∧ n % 65536 ≤ 59 then 60 else n % 65536
    y.pUp = x.pUp % 65536 ∧ y.pRun = x.pRun % 65536 ∧ y.pStby = x.pStby % 65536 ∧ y.tStart = x.tStart % 65536
      ∧ y.idleStandby = idle x.idleStandby ∧ y.idleOff = idle x.idleOff ∧ y.mayPowerOff = x.mayPowerOff
      ∧ ∀ a, a ∈ y.mask ↔ a ∈ x.mask := by
  have hpower (b : Bool) : (if b then (1 : Byte) else 0).getLsbD 0 = b := by cases b <;> rfl
  have htail : byteAt (Part.profileBytes x) 12 = (if x.mayPowerOff then 1 else 0)
      ∧ byteAt (Part.profileBytes x) 13 = byteOfClasses x.mask := by
    simp only [Part.profileBytes, List.append_assoc, byteAt_skip, Nat.reduceLeDiff, Nat.reduceSub]
    exact ⟨rfl, rfl⟩
  obtain ⟨h0, h1, h2, h3, h4⟩ := byteOfClasses_bits x.mask
  refine ⟨?_, ?_, ?_, ?_, ?_, ?_, ?_, fun a => ?_⟩
  case refine_7 => simp only [profileAt, Nat.zero_add, htail.1, hpower]
  case refine_8 =>
    simp only [profileAt, Nat.zero_add, htail.2]
    cases a <;> simp [h0, h1, h2, h3, h4]
  all_goals
    simp [profileAt, Part.profileBytes, List.append_assoc, leField_skip, leField_leBytes_append]

/-! ## Entries of one length in a row -/

section
variable {α : Type} {f : α → List Byte} {n : Nat} {l : List α} (hf : ∀ x ∈ l, (f x).length = n)
include hf

theorem length_flatMap_of : (l.flatMap f).length = n * l.length := by
  induction l with
  | nil => rfl
  | cons x l ih =>
    rw [List.flatMap_cons, List.length_append, hf x List.mem_cons_self, ih fun y hy => hf y (List.mem_cons_of_mem x hy),
      List.length_cons, Nat.mul_succ, Nat.add_comm]

theorem byteAt_flatMap (r : List Byte) {k i : Nat} (hk : k < l.length) (hi : i < n) :
    byteAt (l.flatMap f ++ r) (n * k + i) = byteAt (f l[k]) i := by
  induction l generalizing k with
  | nil => exact absurd hk (Nat.not_lt_zero k)
  | cons x l ih =>
    have hx : (f x).length = n := hf x List.mem_cons_self
    rw [List.flatMap_cons, List.append_assoc]
    cases k with
    | zero => rw [Nat.mul_zero, Nat.zero_add, byteAt_append_left _ (by rw [hx]; exact hi)]; rfl
    | succ k =>
      have hplace : n * (k + 1) + i = (f x).length + (n * k + i) := by rw [hx, Nat.mul_succ]; omega
      rw [hplace, byteAt_append_add, ih (fun y hy => hf y (List.mem_cons_of_mem x hy)) (Nat.lt_of_succ_lt_succ hk)]
      rfl

end

/-! ## Wake entries -/

theorem length_termBytes (t : Term) : (Part.termBytes t).length = 10 := by
  simp [Part.termBytes, length_leBytes]

theorem term_of_termBytes {t : Term} (h : t.offset < 256 ∧ t.len < 256 ∧ t.value < 2 ^ 32 ∧ t.mask < 2 ^ 32) :
    ({ offset := (byteAt (Part.termBytes t) 0).toNat, len := (byteAt (Part.termBytes t) 1).toNat
       value := leField (Part.termBytes t) 2 4, mask := leField (Part.termBytes t) 6 4 } : Term) = t := by
  obtain ⟨hoffset, hlen, hvalue, hmask⟩ := h
  have hfield {o : Nat} (ho : 2 ≤ o) : leField (Part.termBytes t) o 4 = leField (leBytes 4 t.value ++ leBytes 4 t.mask) (o - 2) 4 :=
    leField_append_right (a := [BitVec.ofNat 8 t.offset, BitVec.ofNat 8 t.len]) _ ho
  have hmaskField : leField (leBytes 4 t.value ++ leBytes 4 t.mask) 4 4 = t.mask % 256 ^ 4 := by
    rw [leField_skip (Nat.le_refl 4), Nat.sub_self, leField_leBytes]
  have hbytes : byteAt (Part.termBytes t) 0 = BitVec.ofNat 8 t.offset ∧ byteAt (Part.termBytes t) 1 = BitVec.ofNat 8 t.len :=
    ⟨rfl, rfl⟩
  rw [hfield (Nat.le_refl 2), hfield (by omega), leField_leBytes_append, hmaskField, hbytes.1, hbytes.2, BitVec.toNat_ofNat,
    BitVec.toNat_ofNat, Nat.mod_eq_of_lt hoffset, Nat.mod_eq_of_lt hlen, Nat.mod_eq_of_lt (b := 256 ^ 4) hvalue,
    Nat.mod_eq_of_lt (b := 256 ^ 4) hmask]

/-- The bits of a bay set byte. -/
theorem baySet_bits {l : List (Fin 4)} (h : allBays.filter (fun b => b ∈ l) = l) :
    (List.range 8).filter (fun i => (BitVec.ofNat 8 (l.foldl (fun n (b : Fin 4) => n + 2 ^ b.val) 0)).getLsbD i)
      = l.map fun b => b.val := by
  have hbits : ∀ f : Fin 4 → Bool, (List.range 8).filter (fun i =>
      (BitVec.ofNat 8 ((allBays.filter f).foldl (fun n (b : Fin 4) => n + 2 ^ b.val) 0)).getLsbD i)
      = (allBays.filter f).map fun b => b.val := by decide
  have hset := hbits fun b => decide (b ∈ l)
  rwa [h] at hset

end Sys2Proof.Machine

end

section
/-! PROOFS. A wake entry and a window read from the bytes a save writes for them (R206, R207). -/

namespace Sys2Proof.Machine

open Sys2Proof

/-! ## Wake entries -/

/-- The head of a wake entry's bytes. -/
def wakeHead (e : WakeEntry) : List Byte :=
  [BitVec.ofNat 8 (1 + (if e.enabled then 2 else 0) + (if e.hold then 4 else 0)), Part.actionCode e.action,
    BitVec.ofNat 8 (e.bays.foldl (fun n (b : Fin 4) => n + 2 ^ b.val) 0), BitVec.ofNat 8 e.terms.length]

theorem byteAt_wakeBytes (e : WakeEntry) {i : Nat} (h : i < 44) : byteAt (Part.wakeBytes (some e)) i
    = byteAt (wakeHead e ++ (e.terms.flatMap Part.termBytes ++ List.replicate 44 0)) i :=
  (byteAt_take h).trans (congrArg (byteAt · i) (List.append_assoc ..))

theorem byteAt_wakeHead (e : WakeEntry) {i : Nat} (h : i < 4) : byteAt (Part.wakeBytes (some e)) i = byteAt (wakeHead e) i :=
  (byteAt_wakeBytes e (by omega)).trans (byteAt_append_left _ h)

theorem byteAt_wakeTerms (e : WakeEntry) {i : Nat} (h : i < 40) : byteAt (Part.wakeBytes (some e)) (4 + i)
    = byteAt (e.terms.flatMap Part.termBytes ++ List.replicate 44 0) i :=
  (byteAt_wakeBytes e (by omega)).trans (byteAt_append_add (wakeHead e) _ i)

section
variable {e : WakeEntry} (hlen : e.terms.length ≤ 4) {k : Nat} (hk : k < e.terms.length)
include hlen hk

theorem byteAt_wakeTerm {i : Nat} (hi : i < 10) :
    byteAt (Part.wakeBytes (some e)) (4 + (10 * k + i)) = byteAt (Part.termBytes e.terms[k]) i := by
  rw [byteAt_wakeTerms e (by omega)]
  exact byteAt_flatMap (fun t _ => length_termBytes t) _ hk hi

theorem leField_wakeTerm {i : Nat} (hi : i + 4 ≤ 10) :
    leField (Part.wakeBytes (some e)) (4 + (10 * k + i)) 4 = leField (Part.termBytes e.terms[k]) i 4 :=
  leField_congr fun j hj => by
    rw [← byteAt_wakeTerm hlen hk (i := i + j) (by omega), Nat.add_assoc, Nat.add_assoc]

end

theorem wakeIn_wakeBytes {e : WakeEntry} (hlen : e.terms.length ≤ 4) (hbays : allBays.filter (fun b => b ∈ e.bays) = e.bays)
    (hterms : ∀ t ∈ e.terms, t.offset < 256 ∧ t.len < 256 ∧ t.value < 2 ^ 32 ∧ t.mask < 2 ^ 32) :
    wakeIn (Part.wakeBytes (some e)) = some {
      enabled := e.enabled, terms := e.terms, action := some e.action, bays := e.bays.map fun b => b.val, hold := e.hold } := by
  have hflags : ∀ a b : Bool, (BitVec.ofNat 8 (1 + (if a then 2 else 0) + (if b then 4 else 0))).getLsbD 0 = true
      ∧ (BitVec.ofNat 8 (1 + (if a then 2 else 0) + (if b then 4 else 0))).getLsbD 1 = a
      ∧ (BitVec.ofNat 8 (1 + (if a then 2 else 0) + (if b then 4 else 0))).getLsbD 2 = b := by decide
  obtain ⟨hset, henabled, hhold⟩ := hflags e.enabled e.hold
  have hb0 : byteAt (Part.wakeBytes (some e)) 0 = BitVec.ofNat 8 (1 + (if e.enabled then 2 else 0) + (if e.hold then 4 else 0)) :=
    byteAt_wakeHead e (by omega)
  have hb1 : byteAt (Part.wakeBytes (some e)) 1 = Part.actionCode e.action := byteAt_wakeHead e (by omega)
  have hb2 : byteAt (Part.wakeBytes (some e)) 2 = BitVec.ofNat 8 (e.bays.foldl (fun n (b : Fin 4) => n + 2 ^ b.val) 0) :=
    byteAt_wakeHead e (by omega)
  have hb3 : (byteAt (Part.wakeBytes (some e)) 3).toNat = e.terms.length := by
    rw [byteAt_wakeHead e (by omega)]
    change (BitVec.ofNat 8 e.terms.length).toNat = _
    rw [BitVec.toNat_ofNat, Nat.mod_eq_of_lt (by omega)]
  have haction : [WakeAction.wake, .wakeSpin, .ignore][(Part.actionCode e.action).toNat]? = some e.action := by
    cases e.action <;> rfl
  have hread : ((List.range e.terms.length).map fun t => ({
      offset := (byteAt (Part.wakeBytes (some e)) (4 + 10 * t)).toNat, len := (byteAt (Part.wakeBytes (some e)) (5 + 10 * t)).toNat
      value := leField (Part.wakeBytes (some e)) (6 + 10 * t) 4
      mask := leField (Part.wakeBytes (some e)) (10 + 10 * t) 4 } : Term)) = e.terms := by
    refine List.ext_getElem (by simp) fun k hk hk' => ?_
    rw [List.getElem_map, List.getElem_range]
    have h0 := byteAt_wakeTerm hlen hk' (i := 0) (by omega)
    have h1 := byteAt_wakeTerm hlen hk' (i := 1) (by omega)
    have h2 := leField_wakeTerm hlen hk' (i := 2) (by omega)
    have h6 := leField_wakeTerm hlen hk' (i := 6) (by omega)
    rw [show 4 + 10 * k = 4 + (10 * k + 0) by omega, show 5 + 10 * k = 4 + (10 * k + 1) by omega,
      show 6 + 10 * k = 4 + (10 * k + 2) by omega, show 10 + 10 * k = 4 + (10 * k + 6) by omega, h0, h1, h2, h6]
    exact term_of_termBytes (hterms _ (List.getElem_mem hk'))
  unfold wakeIn
  rw [hb0, hb1, hb2, hb3, if_neg (by rw [hset]; decide), henabled, hhold, haction, baySet_bits hbays, hread]

/-! ## Windows -/

/-- The first 8 bytes of a window entry. -/
def windowHead (w : Fin 16) (v : Window) : List Byte :=
  [BitVec.ofNat 8 w.val, BitVec.ofNat 8 (layoutCode v.layout), BitVec.ofNat 8 v.members.length, BitVec.ofNat 8 (unitCode v.unit),
    BitVec.ofNat 8 (rightCode v.ppRight), BitVec.ofNat 8 (rightCode v.dpRight), Part.attrByte v, BitVec.ofNat 8 (lostCode v.lost)]

/-- The member slots of a window entry. -/
def memberSlots (v : Window) : List Byte := (v.members.flatMap Part.memberBytes ++ List.replicate 48 0).take 48

/-- A serial as a window entry writes it. -/
def serialBytes (m : Member) : List Byte := textBytes 20 (m.serial.getD [])

/-- The serials of a window entry. -/
def serialSlots (v : Window) : List Byte := (v.members.flatMap serialBytes ++ List.replicate 80 0).take 80

theorem windowBytes_eq (w : Fin 16) (v : Window) : Part.windowBytes w v = windowHead w v ++ (leBytes 8 v.length
    ++ (textBytes 12 (v.label.getD []) ++ (memberSlots v ++ serialSlots v))) := by
  simp only [Part.windowBytes, windowHead, memberSlots, serialSlots, List.append_assoc]
  rfl

theorem length_windowHead (w : Fin 16) (v : Window) : (windowHead w v).length = 8 := rfl

theorem length_memberSlots (v : Window) : (memberSlots v).length = 48 := by
  simp [memberSlots]

theorem length_serialSlots (v : Window) : (serialSlots v).length = 80 := by
  simp [serialSlots]

theorem length_windowBytes (w : Fin 16) (v : Window) : (Part.windowBytes w v).length = 156 := by
  simp [windowBytes_eq, windowHead, length_leBytes, length_textBytes, length_memberSlots, length_serialSlots]

section
variable (w : Fin 16) (v : Window)

theorem byteAt_windowHead {i : Nat} (h : i < 8) : byteAt (Part.windowBytes w v) i = byteAt (windowHead w v) i := by
  rw [windowBytes_eq]
  exact byteAt_append_left _ h

theorem leField_windowLength : leField (Part.windowBytes w v) 8 8 = v.length % 2 ^ 64 := by
  rw [windowBytes_eq, leField_append_right _ (Nat.le_refl 8)]
  exact leField_leBytes_append 8 _ _

theorem byteAt_windowLabel {i : Nat} (h : i < 12) :
    byteAt (Part.windowBytes w v) (16 + i) = byteAt (textBytes 12 (v.label.getD [])) i := by
  rw [windowBytes_eq, byteAt_append_right _ (by rw [length_windowHead]; omega), length_windowHead,
      byteAt_skip (show 8 ≤ 16 + i - 8 by omega),
    show 16 + i - 8 - 8 = i by omega, byteAt_append_left _ (by rw [length_textBytes]; exact h)]

theorem byteAt_windowMembers {i : Nat} (h : i < 48) : byteAt (Part.windowBytes w v) (28 + i) = byteAt (memberSlots v) i := by
  rw [windowBytes_eq, byteAt_append_right _ (by rw [length_windowHead]; omega), length_windowHead,
      byteAt_skip (show 8 ≤ 28 + i - 8 by omega),
    byteAt_append_right _ (by rw [length_textBytes]; omega), length_textBytes, show 28 + i - 8 - 8 - 12 = i by omega,
    byteAt_append_left _ (by rw [length_memberSlots]; exact h)]

theorem byteAt_windowSerials (i : Nat) : byteAt (Part.windowBytes w v) (76 + i) = byteAt (serialSlots v) i := by
  rw [windowBytes_eq, byteAt_append_right _ (by rw [length_windowHead]; omega), length_windowHead,
      byteAt_skip (show 8 ≤ 76 + i - 8 by omega),
    byteAt_append_right _ (by rw [length_textBytes]; omega), length_textBytes,
    byteAt_append_right _ (by rw [length_memberSlots]; omega), length_memberSlots, show 76 + i - 8 - 8 - 12 - 48 = i by omega]

end

/-- A member slot's bytes. -/
theorem memberBytes_fields (m : Member) : (Part.memberBytes m).length = 12
    ∧ byteAt (Part.memberBytes m) 0 = BitVec.ofNat 8 m.bay.val
    ∧ byteAt (Part.memberBytes m) 1 = (if m.serial.isSome then 1 else 0) ∧ leField (Part.memberBytes m) 2 5 = m.base % 2 ^ 40 := by
  refine ⟨by simp [Part.memberBytes, length_leBytes], rfl, rfl, ?_⟩
  rw [Part.memberBytes, List.append_assoc, leField_append_right _ (Nat.le_refl 2)]
  exact leField_leBytes_append 5 _ _

section
variable (w : Fin 16) {v : Window} (hlen : v.members.length ≤ 4) {k : Nat} (hk : k < v.members.length)
include hlen hk

theorem byteAt_windowMember {i : Nat} (hi : i < 12) :
    byteAt (Part.windowBytes w v) (28 + (12 * k + i)) = byteAt (Part.memberBytes v.members[k]) i := by
  rw [byteAt_windowMembers w v (by omega), memberSlots, byteAt_take (by omega)]
  exact byteAt_flatMap (fun m _ => (memberBytes_fields m).1) _ hk hi

theorem byteAt_windowSerial {i : Nat} (hi : i < 20) :
    byteAt (Part.windowBytes w v) (76 + (20 * k + i)) = byteAt (serialBytes v.members[k]) i := by
  rw [byteAt_windowSerials w v, serialSlots, byteAt_take (by omega)]
  exact byteAt_flatMap (fun m _ => length_textBytes 20 _) _ hk hi

theorem member_of_windowBytes : ((byteAt (Part.windowBytes w v) (28 + 12 * k)).toNat,
    leField (Part.windowBytes w v) (30 + 12 * k) 5)
    = (v.members[k].bay.val, v.members[k].base % 2 ^ 40) := by
  obtain ⟨-, hbay, -, hbase⟩ := memberBytes_fields v.members[k]
  refine Prod.ext ?_ ?_
  · change (byteAt _ (28 + (12 * k + 0))).toNat = _
    rw [byteAt_windowMember w hlen hk (by omega), hbay, BitVec.toNat_ofNat, Nat.mod_eq_of_lt (by omega)]
  · refine Eq.trans (leField_congr fun j hj => ?_) hbase
    rw [show 30 + 12 * k + j = 28 + (12 * k + (2 + j)) by omega, byteAt_windowMember w hlen hk (by omega)]

theorem serial_of_windowBytes (htext : ∀ s, v.members[k].serial = some s → s.length ≤ 20 ∧ 0 ∉ s) :
    (if byteAt (Part.windowBytes w v) (29 + 12 * k) = 0 then none else some (textAt (Part.windowBytes w v) (76 + 20 * k) 20))
      = v.members[k].serial := by
  obtain ⟨-, -, hset, -⟩ := memberBytes_fields v.members[k]
  have hflag : byteAt (Part.windowBytes w v) (29 + 12 * k) = if v.members[k].serial.isSome then 1 else 0 := by
    rw [show 29 + 12 * k = 28 + (12 * k + 1) by omega, byteAt_windowMember w hlen hk (by omega), hset]
  have htextAt : textAt (Part.windowBytes w v) (76 + 20 * k) 20 = textAt (serialBytes v.members[k]) 0 20 :=
    textAt_congr fun j hj => by rw [Nat.add_assoc, byteAt_windowSerial w hlen hk hj, Nat.zero_add]
  rw [hflag, htextAt, serialBytes]
  cases hs : v.members[k].serial with
  | none => rfl
  | some s =>
    obtain ⟨hfits, h0⟩ := htext s hs
    exact congrArg some (textAt_textBytes hfits h0)

end

/-- A window of the image that a save writes (R199, R207). -/
theorem windowIn_windowBytes (w : Fin 16) {v : Window} (hlen : v.members.length ≤ 4) :
    let y := windowIn (Part.windowBytes w v)
    let text (n : Nat) (s : List Byte) : Prop := s.length ≤ n ∧ 0 ∉ s
    y.d.index = w.val ∧ y.d.layout = some v.layout ∧ y.d.length = v.length % 2 ^ 64
      ∧ y.d.members = (v.members.map fun m => (m.bay.val, m.base % 2 ^ 40))
      ∧ (∀ u, v.unit = some u → u ∈ [16, 32, 64, 128, 256] → y.d.unit = some u)
      ∧ y.d.ppRight = some v.ppRight ∧ y.d.dpRight = some v.dpRight
      ∧ y.d.lazyAttr = v.lazyAttr ∧ y.d.patrolAttr = v.patrolAttr ∧ y.d.wakesAttr = v.wakesAttr ∧ y.lost = v.lost
      ∧ (v.label = none → y.d.label = none)
      ∧ (∀ l, v.label = some l → l ≠ [] → text 12 l → y.d.label = some l)
      ∧ ((∀ m ∈ v.members, ∀ s, m.serial = some s → text 20 s) → y.serials = v.members.map fun m => m.serial) := by
  have hb (i : Nat) (h : i < 8) : byteAt (Part.windowBytes w v) i = byteAt (windowHead w v) i := byteAt_windowHead w v h
  have hcount : (byteAt (Part.windowBytes w v) 2).toNat = v.members.length := by
    rw [hb 2 (by omega)]
    change (BitVec.ofNat 8 v.members.length).toNat = _
    rw [BitVec.toNat_ofNat, Nat.mod_eq_of_lt (by omega)]
  have hright : ∀ r : Right, (if BitVec.ofNat 8 (rightCode r) = 0 then some Right.none
      else if BitVec.ofNat 8 (rightCode r) = 1 then some .read
      else if BitVec.ofNat 8 (rightCode r) = 2 then some .readWrite else none) = some r := fun r => by cases r <;> rfl
  have hattr : (Part.attrByte v).getLsbD 0 = v.lazyAttr ∧ (Part.attrByte v).getLsbD 1 = v.patrolAttr
      ∧ (Part.attrByte v).getLsbD 2 = v.wakesAttr := by
    unfold Part.attrByte
    cases v.lazyAttr <;> cases v.patrolAttr <;> cases v.wakesAttr <;> decide
  have hlabel : textAt (Part.windowBytes w v) 16 12 = textAt (textBytes 12 (v.label.getD [])) 0 12 :=
    textAt_congr fun j hj => by rw [byteAt_windowLabel w v hj, Nat.zero_add]
  obtain ⟨hlazy, hpatrol, hwakes⟩ := hattr
  refine ⟨?_, ?_, leField_windowLength w v, ?_, fun u hu hin => ?_, ?_, ?_, ?_, ?_, ?_, ?_, fun hnone => ?_,
    fun l hl hne htext => ?_, fun htext => ?_⟩
  · refine (congrArg BitVec.toNat (hb 0 (by omega))).trans ?_
    change (BitVec.ofNat 8 w.val).toNat = _
    rw [BitVec.toNat_ofNat, Nat.mod_eq_of_lt (by omega)]
  · simp only [windowIn, hb 1 (by omega)]
    change [Layout.single, .mirror, .stripe, .whole][(BitVec.ofNat 8 (layoutCode v.layout)).toNat]? = _
    cases v.layout <;> rfl
  · refine List.ext_getElem (by simp [windowIn, hcount]) fun k hk hk' => ?_
    have hkm : k < v.members.length := by simpa using hk'
    simp only [windowIn, List.getElem_map, List.getElem_range]
    exact member_of_windowBytes w hlen hkm
  · simp only [windowIn, hb 3 (by omega)]
    change [16, 32, 64, 128, 256][(BitVec.ofNat 8 (unitCode v.unit)).toNat]? = _
    rw [hu]
    simp only [List.mem_cons, List.not_mem_nil, or_false] at hin
    obtain rfl | rfl | rfl | rfl | rfl := hin <;> rfl
  · simp only [windowIn, hb 4 (by omega)]
    exact hright v.ppRight
  · simp only [windowIn, hb 5 (by omega)]
    exact hright v.dpRight
  · simp only [windowIn, hb 6 (by omega)]
    exact hlazy
  · simp only [windowIn, hb 6 (by omega)]
    exact hpatrol
  · simp only [windowIn, hb 6 (by omega)]
    exact hwakes
  · simp only [windowIn, hb 7 (by omega)]
    change (if BitVec.ofNat 8 (lostCode v.lost) = 1 then some Side.primary else if BitVec.ofNat 8 (lostCode v.lost) = 2
      then some Side.secondary else none) = _
    cases v.lost with
    | none => rfl
    | some x => cases x <;> rfl
  · simp only [windowIn, hlabel, hnone]
    rfl
  · rw [hl] at hlabel
    have hread : textAt (Part.windowBytes w v) 16 12 = l := hlabel.trans (textAt_textBytes htext.1 htext.2)
    simp only [windowIn, hread]
    exact if_neg hne
  · refine List.ext_getElem (by simp [windowIn, hcount]) fun k hk hk' => ?_
    have hkm : k < v.members.length := by simpa using hk'
    simp only [windowIn, List.getElem_map, List.getElem_range]
    exact serial_of_windowBytes w hlen hkm (htext _ (List.getElem_mem hkm))

end Sys2Proof.Machine

end

section
/-! PROOFS. The image a save writes (R199, R207), and the settling of O58. -/

namespace Sys2Proof.Machine

open Sys2Proof

/-! ## Sections one after another -/

/-- A section with its 4-byte head. -/
def bytesOfSection (x : Section) : List Byte := [x.kind, 0] ++ (leBytes 2 x.contents.length ++ x.contents)

theorem length_bytesOfSection (x : Section) : (bytesOfSection x).length = 4 + x.contents.length := by
  simp [bytesOfSection, length_leBytes]
  omega

section
variable {img pre r : List Byte} {x : Section} (himg : img = pre ++ (bytesOfSection x ++ r)) (hlen : x.contents.length < 65536)
include himg

theorem byteAt_bytesOfSection {i : Nat} (h : i < 4 + x.contents.length) :
    byteAt img (pre.length + i) = byteAt (bytesOfSection x) i := by
  rw [himg, byteAt_append_add, byteAt_append_left _ (by rw [length_bytesOfSection]; exact h)]

theorem contents_bytesOfSection :
    (List.range x.contents.length).map (fun i => byteAt img (pre.length + 4 + i)) = x.contents := by
  refine Eq.trans (List.map_congr_left fun i hi => ?_) (map_byteAt_self x.contents)
  have hi' : i < x.contents.length := List.mem_range.1 hi
  rw [Nat.add_assoc, byteAt_bytesOfSection himg (by omega)]
  refine (byteAt_append_right (a := [x.kind, 0]) _ (by simp; omega)).trans ?_
  rw [byteAt_skip (by simp; omega)]
  congr 1
  simp
  omega

include hlen

theorem leField_bytesOfSection : leField img (pre.length + 2) 2 = x.contents.length := by
  have hfield : leField (bytesOfSection x) 2 2 = x.contents.length := by
    refine (leField_append_right (a := [x.kind, 0]) _ (Nat.le_refl 2)).trans ?_
    exact (leField_leBytes_append 2 _ _).trans (Nat.mod_eq_of_lt hlen)
  refine Eq.trans (leField_congr fun j hj => ?_) hfield
  rw [Nat.add_assoc, byteAt_bytesOfSection himg (by omega)]

end

theorem sectionsAt_flatMap {l : List Section} (hlen : ∀ x ∈ l, x.contents.length < 65536) (pre : List Byte) :
    sectionsAt (pre ++ l.flatMap bytesOfSection) (pre ++ l.flatMap bytesOfSection).length pre.length l := by
  induction l generalizing pre with
  | nil => simp [sectionsAt]
  | cons x l ih =>
    have hx : x.contents.length < 65536 := hlen x List.mem_cons_self
    have himg : pre ++ (x :: l).flatMap bytesOfSection = pre ++ (bytesOfSection x ++ l.flatMap bytesOfSection) := by
      rw [List.flatMap_cons]
    have hrest := ih (fun y hy => hlen y (List.mem_cons_of_mem x hy)) (pre ++ bytesOfSection x)
    have hpre : (pre ++ bytesOfSection x).length = pre.length + 4 + x.contents.length := by
      rw [List.length_append, length_bytesOfSection, Nat.add_assoc]
    rw [hpre, List.append_assoc, ← himg] at hrest
    unfold sectionsAt
    dsimp only
    rw [leField_bytesOfSection himg hx]
    refine ⟨sectionsAt_le hrest, (byteAt_bytesOfSection himg (i := 0) (by omega)).symm, ?_, hrest⟩
    exact (contents_bytesOfSection himg).symm

theorem length_flatMap_le {l : List Section} {n : Nat} (h : ∀ x ∈ l, x.contents.length ≤ n) :
    (l.flatMap bytesOfSection).length ≤ (4 + n) * l.length := by
  induction l with
  | nil => exact Nat.zero_le _
  | cons x l ih =>
    have hx := h x List.mem_cons_self
    have hl := ih fun y hy => h y (List.mem_cons_of_mem x hy)
    rw [List.flatMap_cons, List.length_append, length_bytesOfSection, List.length_cons, Nat.mul_succ]
    omega

/-! ## The saved sections -/

/-- The sections a save writes (R199). -/
def sectionsSaved (p : Part) : List Section :=
  let opened := allWindows.filter fun w => (p.window w).st == .opened
  let patrolled := opened.filter fun w => (p.window w).layout == .mirror && (p.window w).patrolAttr
  let flag (b : Bool) : List Byte := [if b = true then 1 else 0]
  [{ kind := 1, contents := leBytes 2 p.power.budget ++ leBytes 2 p.power.bLow },
   { kind := 2, contents := (allBays.flatMap fun b => Part.profileBytes (p.bay b).profile)
      ++ leBytes 2 p.power.spProfile.sUp ++ leBytes 2 p.power.spProfile.sRun ++ leBytes 2 p.power.spProfile.tSp },
   { kind := 3, contents := BitVec.ofNat 8 opened.length :: opened.flatMap fun w => Part.windowBytes w (p.window w) },
   { kind := 4, contents := (List.finRange 24).flatMap fun i => Part.wakeBytes p.matcher.table[i] },
   { kind := 5, contents := Part.placeBytes p.matcher.station ++ p.matcher.groups.flatMap Part.placeBytes
      ++ flag p.matcher.summons },
   { kind := 6, contents := leBytes 2 p.box.settings.grace ++ leBytes 2 p.box.settings.resumeLimit
      ++ flag p.box.settings.startOnPower },
   { kind := 7, contents := BitVec.ofNat 8 patrolled.length :: patrolled.flatMap fun w =>
      BitVec.ofNat 8 w.val :: leBytes 2 (p.window w).interval },
   { kind := 8, contents := flag p.box.settings.attachWakes }]

theorem savedSections_eq (p : Part) : p.savedSections = (sectionsSaved p).flatMap bytesOfSection := by
  have hsection (k : Nat) (c : List Byte) : Part.sectionBytes k c = bytesOfSection { kind := BitVec.ofNat 8 k, contents := c } :=
    List.append_assoc ..
  have hprofiles : p.profiles.flatMap Part.profileBytes = allBays.flatMap fun b => Part.profileBytes (p.bay b).profile := by
    rw [Part.profiles, List.flatMap_map]
  have hentries : Part.allEntries = List.finRange 24 := by decide
  simp only [Part.savedSections, sectionsSaved, List.flatMap_cons, List.flatMap_nil, List.append_nil, hsection, List.append_assoc,
    hprofiles, hentries]
  rfl

theorem length_profileBytes (x : BayProfile) : (Part.profileBytes x).length = 16 := by
  simp [Part.profileBytes, length_leBytes]

theorem length_placeBytes (a : Option Address) : (Part.placeBytes a).length = 7 := by
  cases a <;> simp [Part.placeBytes]

theorem length_wakeBytes (e : Option WakeEntry) : (Part.wakeBytes e).length = 44 := by
  cases e <;> simp [Part.wakeBytes]

theorem length_sectionsSaved {p : Part} (hgroups : p.matcher.groups.length = 4) :
    ∀ x ∈ sectionsSaved p, x.contents.length ≤ 2497 := by
  have hopened : (allWindows.filter fun w => (p.window w).st == .opened).length ≤ 16 := List.length_filter_le ..
  have hpatrolled := (List.length_filter_le (fun w => (p.window w).layout == .mirror && (p.window w).patrolAttr)
    (allWindows.filter fun w => (p.window w).st == .opened)).trans hopened
  have hprofiles := length_flatMap_of (l := allBays) fun b _ => length_profileBytes (p.bay b).profile
  have hwindows := length_flatMap_of (l := allWindows.filter fun w => (p.window w).st == .opened)
    fun w _ => length_windowBytes w (p.window w)
  have hwakes := length_flatMap_of (l := List.finRange 24) fun i _ => length_wakeBytes p.matcher.table[i]
  have hplaces := length_flatMap_of (l := p.matcher.groups) fun a _ => length_placeBytes a
  have hpatrols := length_flatMap_of (n := 3) (l := (allWindows.filter fun w => (p.window w).st == .opened).filter
    fun w => (p.window w).layout == .mirror && (p.window w).patrolAttr)
    (f := fun w => BitVec.ofNat 8 w.val :: leBytes 2 (p.window w).interval) fun w _ => by simp [length_leBytes]
  have hbays : allBays.length = 4 := rfl
  simp only [sectionsSaved, List.forall_mem_cons, List.length_append, List.length_cons, List.length_nil, length_leBytes,
    length_placeBytes, hprofiles, hwindows, hwakes, hplaces, hpatrols, hgroups, hbays, List.length_finRange]
  refine ⟨?_, ?_, ?_, ?_, ?_, ?_, ?_, ?_, fun x hx => absurd hx List.not_mem_nil⟩ <;> omega

/-! ## The header -/

/-- An image with a check field and a body. -/
def imageOf (len check : Nat) (body : List Byte) : List Byte :=
  marker ++ (leBytes 2 1 ++ (leBytes 2 len ++ (leBytes 2 check ++ (leBytes 6 0 ++ body))))

theorem savedImage_eq (p : Part) : p.savedImage = imageOf (16 + p.savedSections.length)
    (imageCheck (imageOf (16 + p.savedSections.length) 0 p.savedSections) (16 + p.savedSections.length)) p.savedSections := by
  simp only [Part.savedImage, imageOf, List.append_assoc]
  rfl

section
variable (len check : Nat) (body : List Byte)

theorem length_imageOf : (imageOf len check body).length = 16 + body.length := by
  simp [imageOf, length_leBytes, marker]
  omega

theorem imageOf_fields : (imageOf len check body).take 4 = [0x45, 0x42, 0x43, 0x46] ∧ leField (imageOf len check body) 4 2 = 1
    ∧ leField (imageOf len check body) 6 2 = len % 65536 ∧ leField (imageOf len check body) 8 2 = check % 65536 := by
  have hskip {o : Nat} (ho : 4 ≤ o) : leField (imageOf len check body) o 2
      = leField (leBytes 2 1 ++ (leBytes 2 len ++ (leBytes 2 check ++ (leBytes 6 0 ++ body)))) (o - 4) 2 :=
    leField_append_right (a := marker) _ ho
  refine ⟨List.take_left (l₁ := marker), ?_, ?_, ?_⟩
  · rw [hskip (Nat.le_refl 4)]
    exact leField_leBytes_append ..
  · rw [hskip (by omega), leField_skip (by omega)]
    exact leField_leBytes_append ..
  · rw [hskip (by omega), leField_skip (by omega), leField_skip (by omega)]
    exact leField_leBytes_append ..

theorem imageSum_imageOf (other n : Nat) : imageSum (imageOf len check body) n = imageSum (imageOf len other body) n := by
  refine congrArg List.sum (List.map_congr_left fun i hi => congrArg BitVec.toNat ?_)
  obtain ⟨h8, h9⟩ := of_decide_eq_true (List.mem_filter.1 hi).2
  have hhead : (marker ++ leBytes 2 1 ++ leBytes 2 len).length = 8 := by simp [marker, length_leBytes]
  have hsplit (c : Nat) : imageOf len c body
      = (marker ++ leBytes 2 1 ++ leBytes 2 len) ++ (leBytes 2 c ++ (leBytes 6 0 ++ body)) := by
    simp only [imageOf, List.append_assoc]
  rw [hsplit, hsplit]
  by_cases hlow : i < 8
  · exact (byteAt_append_left _ (hhead.symm ▸ hlow)).trans (byteAt_append_left _ (hhead.symm ▸ hlow)).symm
  · have hhigh : (marker ++ leBytes 2 1 ++ leBytes 2 len).length ≤ i := by omega
    rw [byteAt_append_right _ hhigh, byteAt_append_right _ hhigh, hhead, byteAt_skip (show 2 ≤ i - 8 by omega),
      byteAt_skip (show 2 ≤ i - 8 by omega)]

end

theorem savedImage_check {p : Part} (h : 16 + p.savedSections.length < 65536) :
    (leField p.savedImage 8 2 + imageSum p.savedImage (16 + p.savedSections.length)) % 65536 = 0 := by
  obtain ⟨-, -, -, hcheck⟩ := imageOf_fields (16 + p.savedSections.length)
    (imageCheck (imageOf (16 + p.savedSections.length) 0 p.savedSections) (16 + p.savedSections.length)) p.savedSections
  rw [savedImage_eq, hcheck, imageSum_imageOf _ _ _ 0, imageSum_eq (by omega), imageCheck]
  omega

/-- The sections of the saved image stand where R207 places them. -/
theorem savedImage_sections {p : Part} (hgroups : p.matcher.groups.length = 4) :
    sectionsAt p.savedImage p.savedImage.length 16 (sectionsSaved p) := by
  have hlen : ∀ x ∈ sectionsSaved p, x.contents.length < 65536 := fun x hx =>
    Nat.lt_of_le_of_lt (length_sectionsSaved hgroups x hx) (by omega)
  have hsplit (n c : Nat) (body : List Byte) : imageOf n c body
      = (marker ++ leBytes 2 1 ++ leBytes 2 n ++ leBytes 2 c ++ leBytes 6 0) ++ body := by
    simp only [imageOf, List.append_assoc]
  have hhead (n c : Nat) : (marker ++ leBytes 2 1 ++ leBytes 2 n ++ leBytes 2 c ++ leBytes 6 0).length = 16 := by
    simp [marker, length_leBytes]
  rw [savedImage_eq, hsplit, savedSections_eq]
  have hat := sectionsAt_flatMap hlen (marker ++ leBytes 2 1 ++ leBytes 2 (16 + ((sectionsSaved p).flatMap bytesOfSection).length)
    ++ leBytes 2 (imageCheck (imageOf (16 + ((sectionsSaved p).flatMap bytesOfSection).length) 0
      ((sectionsSaved p).flatMap bytesOfSection)) (16 + ((sectionsSaved p).flatMap bytesOfSection).length)) ++ leBytes 6 0)
  rwa [hhead] at hat

theorem length_savedSections {p : Part} (hgroups : p.matcher.groups.length = 4) : 16 + p.savedSections.length < 65536 := by
  have hle := length_flatMap_le (length_sectionsSaved hgroups)
  have hcount : (sectionsSaved p).length = 8 := rfl
  rw [savedSections_eq]
  omega

/-! ## The header a save writes first -/

theorem spoiltHeader_take : Part.spoiltHeader.take 4 ≠ [0x45, 0x42, 0x43, 0x46] := by
  have hfirst : (if Config.spoiltByte 0 = byteAt marker 0 then ~~~Config.spoiltByte 0 else Config.spoiltByte 0) ≠ 0x45 := by
    split
    · next h => rw [h]; decide
    · next h => exact h
  exact fun h => hfirst (List.cons.inj h).1

/-! ## CONFIG_LOAD, CONFIG_SAVE and their ends -/

theorem allFree_iff (p : Part) : p.allFree = true ↔ ∀ w, (p.window w).st = .free := by
  simp [Part.allFree, mem_allWindows]

theorem loadRefusal (p : Part) :
    firstRefusal [(p.loader.configPresent, .wrongState), (p.loader.st == .idle, .busy), (p.allFree, .wrongState)] =
      if p.loader.configPresent = false then some .wrongState
      else if p.loader.st ≠ .idle then some .busy
      else if ∀ w, (p.window w).st = .free then none else some .wrongState := by
  simp only [firstRefusal, beq_iff_eq, allFree_iff, ite_not]
  cases p.loader.configPresent <;> rfl

theorem saveRefusal (p : Part) :
    firstRefusal [(p.loader.configPresent, .wrongState), (p.loader.st == .idle, .busy)] =
      if p.loader.configPresent = false then some .wrongState else if p.loader.st ≠ .idle then some .busy else none := by
  simp only [firstRefusal, beq_iff_eq, ite_not]
  cases p.loader.configPresent <;> rfl

/-- Settles O58. -/
theorem configurationLoadedAndSaved : Obligations.ConfigurationLoadedAndSaved := by
  unfold Obligations.ConfigurationLoadedAndSaved
  refine ⟨⟨by simp [Part.spoiltHeader], spoiltHeader_take⟩, fun seq s => ⟨fun ht => ?_, fun ht => ?_⟩, fun img s hheld => ?_,
    imageVerdict, fun s p => ?_, fun p => ⟨rfl, fun _ _ => rfl, rfl, rfl, rfl, rfl, rfl⟩,
    ⟨addressAt_placeBytes, profileAt_profileBytes, fun e hlen hbays hterms => ⟨rfl, wakeIn_wakeBytes hlen hbays hterms⟩,
      fun w v hlen => windowIn_windowBytes w hlen⟩, fun p hgroups => ?_⟩
  · intro p c
    have hgives {q : Part} (hq : p.configLoad .mp = q) : GivesQuietly c s q := givesQuietly_command ht rfl rfl rfl hq
    have hcheck : firstRefusal [(p.loader.configPresent, .wrongState), (p.loader.st == .idle, .busy), (p.allFree, .wrongState)] =
        if s.part.loader.configPresent = false then some .wrongState
        else if s.part.loader.st ≠ .idle then some .busy
        else if ∀ w, (s.part.window w).st = .free then none else some .wrongState := loadRefusal p
    refine ⟨fun h => hgives (Part.checked_of_refused (hcheck.trans (if_pos h))), fun h hst => ?_,
      fun h hst => ⟨fun ⟨w, hw⟩ => ?_, fun hfree => ?_⟩⟩
    · exact hgives (Part.checked_of_refused (hcheck.trans ((if_neg (by simp [h])).trans (if_pos hst))))
    · exact hgives (Part.checked_of_refused (hcheck.trans ((if_neg (by simp [h])).trans ((if_neg (not_not.2 hst)).trans
        (if_neg fun hfree => hw (hfree w))))))
    · exact hgives (Part.checked_of_passed (hcheck.trans ((if_neg (by simp [h])).trans ((if_neg (not_not.2 hst)).trans
        (if_pos hfree)))))
  · intro p c
    have hgives {q : Part} (hq : p.configSave .mp = q) : GivesQuietly c s q := givesQuietly_command ht rfl rfl rfl hq
    have hcheck : firstRefusal [(p.loader.configPresent, .wrongState), (p.loader.st == .idle, .busy)] =
        if s.part.loader.configPresent = false then some .wrongState
        else if s.part.loader.st ≠ .idle then some .busy else none := saveRefusal p
    refine ⟨fun h => hgives (Part.checked_of_refused (hcheck.trans (if_pos h))), fun h hst => ?_, fun h hst => ?_⟩
    · exact hgives (Part.checked_of_refused (hcheck.trans ((if_neg (by simp [h])).trans (if_pos hst))))
    · exact hgives (Part.checked_of_passed (hcheck.trans ((if_neg (by simp [h])).trans (if_neg (not_not.2 hst)))))
  · intro p judged written
    have hends : p.loadEnds (judgeImage img) = judged := by
      dsimp only [judged]
      cases judgeImage img <;> rfl
    have hread (hload : s.part.loader.st = .loading) : p.imageRead img
        = if s.part.box.st.isNone then (p.loadEnds (judgeImage img)).firstState
        else if p.allFree then (p.loadEnds (judgeImage img)).answer .mp .ok (.load (p.loadEnds (judgeImage img)).loader.result)
        else ({ p with loader := { p.loader with st := .idle } } : Part).reply .mp .wrongState :=
      if_neg (not_not.2 hload)
    rw [hends] at hread
    refine ⟨fun hload => ⟨fun hbox => ?_, fun hbox => ⟨fun hfree => ?_, fun ⟨w, hw⟩ => ?_⟩⟩, fun hsave => ⟨fun hsame => ?_,
      fun hdiffer => ?_⟩⟩
    · exact gives_of_event rfl hheld ((hread hload).trans (if_pos (by simp [hbox])))
    · refine gives_of_event rfl hheld ((hread hload).trans ((if_neg ?_).trans (if_pos ((allFree_iff p).2 hfree))))
      simp [Option.isSome_iff_ne_none.1 hbox]
    · refine gives_of_event rfl hheld ((hread hload).trans ((if_neg ?_).trans (if_neg fun h => hw ((allFree_iff p).1 h w))))
      simp [Option.isSome_iff_ne_none.1 hbox]
    · exact gives_of_quietEvent rfl hheld ((if_neg (not_not.2 hsave)).trans (if_pos hsame))
    · exact gives_of_quietEvent rfl hheld ((if_neg (not_not.2 hsave)).trans (if_neg hdiffer))
  · intro windowGiven entryGiven
    have hwindow (w : Fin 16) : ((s.windows.reverse.find? fun x => x.d.index == w.val).map fun x =>
        recordGiven x (intervalGiven s w)).getD {} = windowGiven w := by
      dsimp only [windowGiven]
      cases s.windows.reverse.find? fun x => x.d.index == w.val <;> rfl
    have hentry (i : Fin 24) : ((s.wakes[i.val]?).getD none).map entryOf = entryGiven i := by
      dsimp only [entryGiven]
      obtain _ | _ | d := s.wakes[i.val]? <;> rfl
    rewrite [putInForce_eq, Part.wakeTable, funext hwindow, funext hentry]
    rfl
  · intro img opened patrolled flag
    have hlen : img.length = 16 + p.savedSections.length := by rw [show img = _ from savedImage_eq p, length_imageOf]
    have hsmall := length_savedSections hgroups
    obtain ⟨hmarker, hversion, hlength, -⟩ := imageOf_fields (16 + p.savedSections.length)
      (imageCheck (imageOf (16 + p.savedSections.length) 0 p.savedSections) (16 + p.savedSections.length)) p.savedSections
    rw [← savedImage_eq] at hmarker hversion hlength
    refine ⟨hmarker, hversion, ?_, ?_, savedImage_sections hgroups⟩
    · exact hlength.trans ((Nat.mod_eq_of_lt hsmall).trans hlen.symm)
    · rw [hlen]
      exact savedImage_check hsmall

end Sys2Proof.Machine

end
